-- ==== Sys2Proof/Word.lean ====
section
/-! DEFINITION. The byte and the plainest arithmetic: saturating and wrapping rises (spec 00 section 4, Arithmetic). -/

namespace Sys2Proof

/-- One byte on the channel, at the terminal port or in the display memory. -/
abbrev Byte := BitVec 8

/-- A rise of `a` by `b` held at `limit` (a saturating quantity, spec 00 section 4). -/
def satAdd (limit a b : Nat) : Nat := min limit (a + b)

/-- A rise by one that starts again at 0 after `last` (a wrapping quantity, spec 00 section 4). -/
def wrapInc (last a : Nat) : Nat := if a < last then a + 1 else 0

/-- A rise by one that starts again at 1 after 65535 (trip and shift numbers, R113, R115). -/
def wrapIncFromOne (a : Nat) : Nat := if a < 65535 then a + 1 else 1

end Sys2Proof
end

