-- ==== Sys2Proof/Config.lean ====
section
/-! DEFINITION. The fixed limits the spec states and the free values it leaves open. A free value has no body:
nothing can evaluate it, so a statement about it holds whatever it is. -/

namespace Sys2Proof.Config

/-- DESIGN CHOICE (safe, log 4): the n-th uniform deferral draw of R9, before it is brought into the class's range. -/
opaque deferralDraw : Nat → Nat

/-- DESIGN CHOICE (safe, log 12): which of the two owed offers that R132 lets come in either order is taken first. -/
opaque uploadDoneFirst : Nat → Bool

/-- DESIGN CHOICE (safe, log 10): whether a slot or header write that a reset cuts had landed (spec 07 chapter head:
the store is left before that write or after it). -/
opaque cutWriteLanded : Nat → Bool

/-- DESIGN CHOICE (safe, log 18): what the part's clock reads one second after 4294967295, which R190 does not state. -/
opaque clockPastEnd : Nat → Nat

/-- DESIGN CHOICE (safe, log 19): the code of the FARE page's arrow (R108 names an arrow and gives no code), brought into the
character codes of R157 where it is written. -/
opaque arrowCode : Nat

/-- DESIGN CHOICE (safe, log 26): the write number or sector sequence number that follows 4294967295, the end R129 and R130
give both, before it is brought into 1..4294967295. -/
opaque numberPastEnd : Nat → Nat

/-- Pending queue capacity, and the share of the classes other than the emergency ones (R41). -/
def pendingCapacity : Nat := 20
/-- R41: at most 18 entries of the non-emergency classes. -/
def pendingOrdinary : Nat := 18
/-- R13: a unicast entry makes at most 4 attempts. -/
def maxAttempts : Nat := 4
/-- R32: the priority receive queue. -/
def priorityCapacity : Nat := 8
/-- R32: the ordinary receive queue. -/
def ordinaryCapacity : Nat := 24
/-- R57: the send outcome queue. -/
def outcomeCapacity : Nat := 16
/-- R60: the offer table. -/
def offerCapacity : Nat := 8
/-- R121: the upload list. -/
def uploadCapacity : Nat := 32
/-- R132: the write queue. -/
def writeCapacity : Nat := 6
/-- R129: record slots of one sector. -/
def sectorSlots : Nat := 256
/-- R136: slots a history carry leaves free. -/
def historyReserve : Nat := 64
/-- R148: the message queue. -/
def messageCapacity : Nat := 12
/-- R151: the recent-message list. -/
def recentCapacity : Nat := 16
/-- R179: the relay table. -/
def relayCapacity : Nat := 16
/-- R191: the notice list. -/
def noticeCapacity : Nat := 32
/-- R101: the largest fare, in cents. -/
def fareLimit : Nat := 999999

end Sys2Proof.Config
end

