-- ==== Sys2Proof/Syntax.lean ====
section
/-! DEFINITION. The commands of the block: one constructor of `Instr` for each row of spec/opcode_table.json, with the
operands the owning rule names. Numbers of a request are plain numbers and its enumerated fields are their code bytes
(R200), so that a value outside its range can be given and is judged by the owning rule (R188 step 4). -/

namespace Sys2Proof

/-- An offer id: base station and offer number (R60). -/
structure OfferId where
  base : Nat
  number : Nat
  deriving DecidableEq, Repr

/-- A message pair: source station and message number (R148). -/
structure MsgPair where
  source : Nat
  number : Nat
  deriving DecidableEq, Repr

/-- An alarm: origin station and alarm number (R179). -/
structure AlarmId where
  origin : Nat
  alarm : Nat
  deriving DecidableEq, Repr

/-- A grid cell (spec 00 section 3). -/
structure Cell where
  x : Nat
  y : Nat
  deriving DecidableEq, Repr

/-- The fourteen frame kinds, in the order of their codes (R6, R201). -/
inductive FrameKind where
  | beacon | offer | bid | award | withdraw | accept | refuse | tripReport | message | receipt
  | emergency | emergencyAck | terminalData | lack
  deriving DecidableEq, Repr

/-- The four kinds that have no owner (R29). -/
inductive UnownedKind where
  | accept | refuse | tripReport | receipt
  deriving DecidableEq, Repr

/-- A frame as it stands on the channel after its kind: header fields (R4) and payload bytes (R202). -/
structure RxFrame where
  fleet : Nat
  source : Nat
  dest : Nat
  seq : Nat
  hop : Nat
  needsLack : Bool
  relayed : Bool
  payload : List Byte
  deriving DecidableEq, Repr

/-- Outcome of a carrier period (R7), with what a PASS hands on. -/
inductive FrameOutcome where
  | pass (kind : FrameKind) (frame : RxFrame)
  | check
  | cutOff
  | noFrame
  deriving DecidableEq, Repr

/-- A tariff: flag fall, increment amount, distance and time per increment, free increments (R84). -/
structure Tariff where
  F : Nat
  A : Nat
  D : Nat
  T : Nat
  N : Nat
  deriving DecidableEq, Repr

/-- An extra: code and amount in cents (R85). -/
structure Extra where
  code : Nat
  amount : Nat
  deriving DecidableEq, Repr

/-- An acceptance list entry as the request gives it: the kinds set's byte (bit 0 BEACON, bit 1 TERMINAL_DATA), the
source range and the action's code (R30, R203). -/
structure AcceptRequest where
  kinds : Nat
  lo : Nat
  hi : Nat
  action : Nat
  deriving DecidableEq, Repr

/-- The fields of CONFIGURE in the order of the table of R194. -/
structure ConfigRequest where
  station : Nat
  fleet : Nat
  homeBase : Nat
  capability : Nat
  pulseConstant : Nat
  tariffs : List Tariff
  extras : List Extra
  beaconTick : Nat
  cycleTable : List Nat
  priorityMode : Nat
  ordinaryMode : Nat
  acceptance : List AcceptRequest
  defaultAction : Nat
  awardTimeout : Nat
  acceptTimeout : Nat
  historyCarry : Nat
  noticeEnables : List Nat
  switchHold : Nat
  marker : Nat
  deriving DecidableEq, Repr

/-- The fields of SET_POSITION (R190). -/
structure PositionRequest where
  cell : Cell
  zone : Nat
  adjoining : List Nat
  clock : Nat
  deriving DecidableEq, Repr

/-- A position on a display page (R161). -/
structure Cursor where
  page : Nat
  line : Nat
  col : Nat
  deriving DecidableEq, Repr

/-- Which of an entry's two relays a time span concerns (R182). -/
inductive RelayKind where
  | emergency | ack
  deriving DecidableEq, Repr

/-- The commands, in the order of the table. -/
inductive Instr where
  | powerOn
  | resetPin
  | resetPinRelease
  | startUpScanEnd
  | slotBoundary
  | carrierAppears
  | endOfCarrier (received : List Byte)
  | deferralCountRunOut
  | bidSlotArrives (id : OfferId)
  | bidKeyingBoundary
  | bidWindowEnd (id : OfferId)
  | keyingFault
  | endOfAirtime
  | ackGapCloses
  | idleGapCloses
  | gapCloses
  | quietSpanCompletes
  | listenInCompletes
  | lack (frame : RxFrame)
  | offer (frame : RxFrame)
  | bid (frame : RxFrame)
  | award (frame : RxFrame)
  | withdraw (frame : RxFrame)
  | message (frame : RxFrame)
  | emergency (frame : RxFrame)
  | emergencyAck (frame : RxFrame)
  | beacon (frame : RxFrame)
  | terminalData (frame : RxFrame)
  | unownedFrame (kind : UnownedKind) (frame : RxFrame)
  | beaconTick
  | awardTimerExpiry (id : OfferId)
  | acceptTimerExpiry (id : OfferId)
  | clockSecond
  | idleMinute
  | messageExpiry (pair : MsgPair)
  | odometerPulse
  | intervalBoundary
  | slotWriteComplete
  | headerWriteComplete
  | eraseComplete (verified : Bool)
  | supplyLowAsserted
  | supplyLowReleased
  | switchHoldBegins
  | switchRelease
  | switchHoldCompletes
  | repeatTimerExpiry
  | spacingTimerExpiry
  | markerTimerExpiry
  | relayStale (id : AlarmId) (kind : RelayKind)
  | relayEntryAgedOut (id : AlarmId)
  | roofLampPhase
  | selectReleased
  | badFrame
  | configure (fields : ConfigRequest)
  | getStatus
  | restart
  | enterDormant
  | setPosition (fields : PositionRequest)
  | setAvailable (value : Nat)
  | linkRejoin
  | sendData (dest : Nat) (tag : Nat) (data : List Byte)
  | cancelSend (tag : Nat)
  | readOutcomes
  | readReceived (queue : Nat)
  | listOffers
  | acceptJob (id : OfferId)
  | refuseJob (id : OfferId)
  | meterHire (tariff : Nat)
  | meterTariff (tariff : Nat)
  | meterStop
  | meterExtra (code : Nat)
  | meterClear
  | shiftOpen
  | shiftClose
  | readTrip (number : Nat)
  | readTotals
  | msgList
  | msgRead (pair : MsgPair)
  | msgReply (pair : MsgPair) (index : Nat)
  | displaySelect (page : Nat)
  | displayWrite (position : Option Cursor) (text : List Byte) (lineAttr : Option Nat) (strayBits : Nat)
  | displayRead (position : Option Cursor) (count : Nat) (strayBits : Nat)
  | displayEditBegin
  | displayEditEnd
  | raiseAlarm
  | clearAlarm
  | readNotices
  deriving DecidableEq, Repr

end Sys2Proof
end

