-- ==== Sys2Proof/WellFormed.lean ====
section
/-! DEFINITION. Which commands can be spelled: every field fits the bytes that R200, R201 and R203 give it. A well-formed
command may still be malformed (R28) or out of range (R188): the machine judges that. -/

namespace Sys2Proof

/-- `n` fits in `k` bytes (R200). -/
def fits (k n : Nat) : Bool := decide (n < 256 ^ k)

/-- A list or a text is announced by one count or length byte (R200). -/
def countable {α : Type} (l : List α) : Bool := decide (l.length < 256)

/-- Header fields within the bits of R201, payload within the 100 bytes of R2. -/
def RxFrame.wellFormed (f : RxFrame) : Bool :=
  fits 1 f.fleet && fits 2 f.source && fits 2 f.dest && fits 1 f.seq && decide (f.hop < 4)
    && decide (f.payload.length ≤ 100)

def OfferId.wellFormed (i : OfferId) : Bool := fits 2 i.base && fits 2 i.number

def MsgPair.wellFormed (p : MsgPair) : Bool := fits 2 p.source && fits 2 p.number

def AlarmId.wellFormed (a : AlarmId) : Bool := fits 2 a.origin && fits 1 a.alarm

def Cursor.wellFormed (c : Cursor) : Bool := fits 1 c.page && fits 1 c.line && fits 1 c.col

/-- Money takes three bytes whatever its range (R200). -/
def Tariff.wellFormed (t : Tariff) : Bool := fits 3 t.F && fits 3 t.A && fits 2 t.D && fits 2 t.T && fits 1 t.N

def Extra.wellFormed (e : Extra) : Bool := fits 1 e.code && fits 3 e.amount

def AcceptRequest.wellFormed (a : AcceptRequest) : Bool :=
  fits 1 a.kinds && fits 2 a.lo && fits 2 a.hi && fits 1 a.action

def ConfigRequest.wellFormed (c : ConfigRequest) : Bool :=
  fits 2 c.station && fits 1 c.fleet && fits 2 c.homeBase && fits 1 c.capability && fits 2 c.pulseConstant
    && countable c.tariffs && c.tariffs.all Tariff.wellFormed
    && countable c.extras && c.extras.all Extra.wellFormed
    && fits 1 c.beaconTick && decide (c.cycleTable.length = 16) && c.cycleTable.all (fits 1)
    && fits 1 c.priorityMode && fits 1 c.ordinaryMode
    && countable c.acceptance && c.acceptance.all AcceptRequest.wellFormed
    && fits 1 c.defaultAction && fits 1 c.awardTimeout && fits 1 c.acceptTimeout && fits 1 c.historyCarry
    && decide (c.noticeEnables.length = 16) && c.noticeEnables.all (fits 1)
    && fits 1 c.switchHold && fits 1 c.marker

def PositionRequest.wellFormed (p : PositionRequest) : Bool :=
  fits 2 p.cell.x && fits 2 p.cell.y && fits 1 p.zone && countable p.adjoining && p.adjoining.all (fits 1)
    && fits 4 p.clock

/-- Every operand can be spelled. -/
def Instr.wellFormed (i : Instr) : Bool :=
  match i with
  | .powerOn | .resetPin | .resetPinRelease | .startUpScanEnd | .slotBoundary | .carrierAppears => true
  | .endOfCarrier _ => true
  | .deferralCountRunOut => true
  | .bidSlotArrives id => id.wellFormed
  | .bidKeyingBoundary => true
  | .bidWindowEnd id => id.wellFormed
  | .keyingFault | .endOfAirtime | .ackGapCloses | .idleGapCloses | .gapCloses | .quietSpanCompletes
  | .listenInCompletes => true
  | .lack f | .offer f | .bid f | .award f | .withdraw f | .message f | .emergency f | .emergencyAck f
  | .beacon f | .terminalData f | .unownedFrame _ f => f.wellFormed
  | .beaconTick => true
  | .awardTimerExpiry id | .acceptTimerExpiry id => id.wellFormed
  | .clockSecond | .idleMinute => true
  | .messageExpiry p => p.wellFormed
  | .odometerPulse | .intervalBoundary | .slotWriteComplete | .headerWriteComplete | .eraseComplete _
  | .supplyLowAsserted | .supplyLowReleased | .switchHoldBegins | .switchRelease | .switchHoldCompletes
  | .repeatTimerExpiry | .spacingTimerExpiry | .markerTimerExpiry => true
  | .relayStale id _ | .relayEntryAgedOut id => id.wellFormed
  | .roofLampPhase | .selectReleased | .badFrame => true
  | .configure c => c.wellFormed
  | .getStatus | .restart | .enterDormant => true
  | .setPosition p => p.wellFormed
  | .setAvailable v => fits 1 v
  | .linkRejoin => true
  | .sendData d t b => fits 2 d && fits 1 t && countable b
  | .cancelSend t => fits 1 t
  | .readOutcomes => true
  | .readReceived q => fits 1 q
  | .listOffers => true
  | .acceptJob id | .refuseJob id => id.wellFormed
  | .meterHire t | .meterTariff t => fits 1 t
  | .meterStop => true
  | .meterExtra c => fits 1 c
  | .meterClear | .shiftOpen | .shiftClose => true
  | .readTrip n => fits 2 n
  | .readTotals | .msgList => true
  | .msgRead p => p.wellFormed
  | .msgReply p n => p.wellFormed && fits 1 n
  | .displaySelect n => fits 1 n
  | .displayWrite pos text attr stray =>
    (pos.all Cursor.wellFormed) && countable text && attr.all (fits 1) && decide (stray < 64)
  | .displayRead pos n stray => (pos.all Cursor.wellFormed) && fits 1 n && decide (stray < 128)
  | .displayEditBegin | .displayEditEnd | .raiseAlarm | .clearAlarm | .readNotices => true

end Sys2Proof
end

