-- ==== Sys2Proof/Decode.lean ====
section
/-! DEFINITION. The byte encodings of chapter 11: numbers, the 16-bit check, frames on the channel (R201) and request
frames at the terminal port (R203), each with its encoder; and `decodeTableWord`, which answers none because no row of
the opcode table gives bits. -/

namespace Sys2Proof

/-! ## Numbers (R200) -/

/-- The byte of a number below 256. -/
def byteOf (n : Nat) : Byte := BitVec.ofNat 8 n

/-- `v` in `k` bytes, most significant first (R200). -/
def toBytes : Nat → Nat → List Byte
  | 0, _ => []
  | k + 1, v => byteOf (v / 256 ^ k % 256) :: toBytes k v

/-- The number some bytes spell, most significant first (R200). -/
def fromBytes (bs : List Byte) : Nat := bs.foldl (fun a b => a * 256 + b.toNat) 0

/-- Take a number of `k` bytes off the front. -/
def takeNum (k : Nat) (bs : List Byte) : Option (Nat × List Byte) :=
  if k ≤ bs.length then some (fromBytes (bs.take k), bs.drop k) else none

/-- Take `n` bytes off the front. -/
def takeBytes (n : Nat) (bs : List Byte) : Option (List Byte × List Byte) :=
  if n ≤ bs.length then some (bs.take n, bs.drop n) else none

/-- Take a text or a byte list: a length byte and that many bytes (R200). -/
def takeText (bs : List Byte) : Option (List Byte × List Byte) := do
  let (n, bs) ← takeNum 1 bs
  takeBytes n bs

/-- Take `n` items, each by `item`. -/
def takeMany {α : Type} (item : List Byte → Option (α × List Byte)) : Nat → List Byte → Option (List α × List Byte)
  | 0, bs => some ([], bs)
  | n + 1, bs => do
    let (a, bs) ← item bs
    let (l, bs) ← takeMany item n bs
    some (a :: l, bs)

/-- Take a list: a count byte and its entries (R200). -/
def takeList {α : Type} (item : List Byte → Option (α × List Byte)) (bs : List Byte) : Option (List α × List Byte) := do
  let (n, bs) ← takeNum 1 bs
  takeMany item n bs

/-- A cell: x then y, 16 bits each (R201). -/
def takeCell (bs : List Byte) : Option (Cell × List Byte) := do
  let (x, bs) ← takeNum 2 bs
  let (y, bs) ← takeNum 2 bs
  some (⟨x, y⟩, bs)

def cellBytes (c : Cell) : List Byte := toBytes 2 c.x ++ toBytes 2 c.y

/-- An offer id: base station 2, offer number 2 (R202). -/
def takeOfferId (bs : List Byte) : Option (OfferId × List Byte) := do
  let (b, bs) ← takeNum 2 bs
  let (n, bs) ← takeNum 2 bs
  some (⟨b, n⟩, bs)

def offerIdBytes (i : OfferId) : List Byte := toBytes 2 i.base ++ toBytes 2 i.number

def textBytes (t : List Byte) : List Byte := byteOf t.length :: t

def listBytes {α : Type} (item : α → List Byte) (l : List α) : List Byte := byteOf l.length :: l.flatMap item

/-! ## The check (R201) -/

/-- One bit of the cyclic code with generator x^16 + x^12 + x^5 + 1 (R201). -/
def crcBit (c : BitVec 16) (bit : Bool) : BitVec 16 :=
  if c.msb != bit then (c <<< 1) ^^^ 0x1021#16 else c <<< 1

/-- One byte, most significant bit first (R201). -/
def crcByte (c : BitVec 16) (b : Byte) : BitVec 16 :=
  [7, 6, 5, 4, 3, 2, 1, 0].foldl (fun c i => crcBit c (b.getLsbD i)) c

/-- The check of some bytes: it starts from all ones, with no final inversion (R201). -/
def crc (bs : List Byte) : Nat := (bs.foldl crcByte 0xFFFF#16).toNat

/-! ## Frames on the channel (R201) -/

/-- Kind codes (R201). -/
def FrameKind.code : FrameKind → Nat
  | .beacon => 1 | .offer => 2 | .bid => 3 | .award => 4 | .withdraw => 5 | .accept => 6 | .refuse => 7
  | .tripReport => 8 | .message => 9 | .receipt => 10 | .emergency => 11 | .emergencyAck => 12
  | .terminalData => 13 | .lack => 14

/-- The kind of a code 1..14 (R201). -/
def FrameKind.ofCode (n : Nat) : Option FrameKind :=
  match n with
  | 1 => some .beacon | 2 => some .offer | 3 => some .bid | 4 => some .award | 5 => some .withdraw
  | 6 => some .accept | 7 => some .refuse | 8 => some .tripReport | 9 => some .message | 10 => some .receipt
  | 11 => some .emergency | 12 => some .emergencyAck | 13 => some .terminalData | 14 => some .lack
  | _ => none

/-- The frame kind of an unowned kind (R29). -/
def UnownedKind.frameKind : UnownedKind → FrameKind
  | .accept => .accept | .refuse => .refuse | .tripReport => .tripReport | .receipt => .receipt

/-- Header byte 8: hop count in bits 7-6, needs-LACK bit 5, relayed bit 4, bits 3-0 sent as 0 (R201). -/
def RxFrame.flagByte (f : RxFrame) : Nat :=
  f.hop * 64 + (if f.needsLack then 32 else 0) + (if f.relayed then 16 else 0)

/-- The ten header bytes (R201). -/
def frameHeader (kind : FrameKind) (f : RxFrame) : List Byte :=
  [byteOf 0xC6, byteOf kind.code, byteOf f.fleet] ++ toBytes 2 f.source ++ toBytes 2 f.dest
    ++ [byteOf f.seq, byteOf f.flagByte, byteOf f.payload.length]

/-- A whole frame: header, payload and check, high byte first (R201). -/
def encodeFrame (kind : FrameKind) (f : RxFrame) : List Byte :=
  let body := frameHeader kind f ++ f.payload
  body ++ toBytes 2 (crc body)

/-- Airtime in slots of a frame with `n` payload bytes: ceil((12 + n) / 4.8) (R2). -/
def airtime (n : Nat) : Nat := ((12 + n) * 10 + 47) / 48

/-- The receiver looks for the frame start (R201). -/
def findStart (bs : List Byte) : List Byte := bs.dropWhile (fun b => b != byteOf 0xC6)

/-- Header bytes 2..9 of a frame whose start and kind are read (R201). -/
def headerFrame (h : List Byte) (payload : List Byte) : RxFrame :=
  let flag := fromBytes ((h.drop 8).take 1)
  { fleet := fromBytes ((h.drop 2).take 1), source := fromBytes ((h.drop 3).take 2),
    dest := fromBytes ((h.drop 5).take 2), seq := fromBytes ((h.drop 7).take 1),
    hop := flag / 64, needsLack := flag / 32 % 2 == 1, relayed := flag / 16 % 2 == 1, payload := payload }

/-- What the receiver makes of the bytes recovered in one carrier period (R7, R201). -/
def receiveBytes (bs : List Byte) : FrameOutcome :=
  let bs := findStart bs
  if bs.isEmpty then .noFrame
  else if bs.length < 10 then .cutOff
  else
    let n := fromBytes ((bs.drop 9).take 1)
    if bs.length < 12 + n then .cutOff
    else
      let body := bs.take (10 + n)
      if crc body ≠ fromBytes ((bs.drop (10 + n)).take 2) then .check
      else if 100 < n then .check
      else
        match FrameKind.ofCode (fromBytes ((bs.drop 1).take 1)) with
        | none => .check
        | some kind => .pass kind (headerFrame (bs.take 10) ((bs.drop 10).take n))

/-! ## Requests at the terminal port (R203) -/

/-- Request codes, in the order of the request table of section 10.3 (R203); none for a command that is no request. -/
def requestCode : Instr → Option Nat
  | .configure _ => some 0x01 | .getStatus => some 0x02 | .restart => some 0x03 | .enterDormant => some 0x04
  | .setPosition _ => some 0x05 | .setAvailable _ => some 0x06 | .linkRejoin => some 0x07
  | .sendData _ _ _ => some 0x08 | .cancelSend _ => some 0x09 | .readOutcomes => some 0x0A
  | .readReceived _ => some 0x0B | .listOffers => some 0x0C | .acceptJob _ => some 0x0D
  | .refuseJob _ => some 0x0E | .meterHire _ => some 0x0F | .meterTariff _ => some 0x10
  | .meterExtra _ => some 0x11 | .meterStop => some 0x12 | .meterClear => some 0x13 | .shiftOpen => some 0x14
  | .shiftClose => some 0x15 | .readTrip _ => some 0x16 | .readTotals => some 0x17 | .msgList => some 0x18
  | .msgRead _ => some 0x19 | .msgReply _ _ => some 0x1A | .displaySelect _ => some 0x1B
  | .displayWrite _ _ _ _ => some 0x1C | .displayRead _ _ _ => some 0x1D | .displayEditBegin => some 0x1E
  | .displayEditEnd => some 0x1F | .raiseAlarm => some 0x20 | .clearAlarm => some 0x21
  | .readNotices => some 0x22
  | _ => none

def tariffBytes (t : Tariff) : List Byte :=
  toBytes 3 t.F ++ toBytes 3 t.A ++ toBytes 2 t.D ++ toBytes 2 t.T ++ toBytes 1 t.N

def extraBytes (e : Extra) : List Byte := toBytes 1 e.code ++ toBytes 3 e.amount

def acceptBytes (a : AcceptRequest) : List Byte :=
  toBytes 1 a.kinds ++ toBytes 2 a.lo ++ toBytes 2 a.hi ++ toBytes 1 a.action

def cursorBytes (c : Cursor) : List Byte := toBytes 1 c.page ++ toBytes 1 c.line ++ toBytes 1 c.col

/-- CONFIGURE's fields in the order of the table of R194 (R203). DESIGN CHOICE (unsafe, log 69): the cycle table and the notice
enables, of fixed size, have no count byte. -/
def configBytes (c : ConfigRequest) : List Byte :=
  toBytes 2 c.station ++ toBytes 1 c.fleet ++ toBytes 2 c.homeBase ++ toBytes 1 c.capability
    ++ toBytes 2 c.pulseConstant ++ listBytes tariffBytes c.tariffs ++ listBytes extraBytes c.extras
    ++ toBytes 1 c.beaconTick ++ c.cycleTable.flatMap (toBytes 1) ++ toBytes 1 c.priorityMode
    ++ toBytes 1 c.ordinaryMode ++ listBytes acceptBytes c.acceptance ++ toBytes 1 c.defaultAction
    ++ toBytes 1 c.awardTimeout ++ toBytes 1 c.acceptTimeout ++ toBytes 1 c.historyCarry
    ++ c.noticeEnables.flatMap (toBytes 1) ++ toBytes 1 c.switchHold ++ toBytes 1 c.marker

/-- DESIGN CHOICE (unsafe, log 21): the presence byte of a display request stands before its fields, bit 0 for the
position and bit 1 for the attribute, and the fields follow in the order R161 and R162 name them. -/
def displayPresence (pos : Bool) (attr : Bool) (width stray : Nat) : Nat :=
  (if pos then 1 else 0) + (if attr then 2 else 0) + width * stray

/-- The fields of a request, in the order its owning rule names them (R203). -/
def requestFields : Instr → List Byte
  | .configure c => configBytes c
  | .setPosition p =>
    cellBytes p.cell ++ toBytes 1 p.zone ++ listBytes (toBytes 1) p.adjoining ++ toBytes 4 p.clock
  | .setAvailable v => toBytes 1 v
  | .sendData d t b => toBytes 2 d ++ toBytes 1 t ++ textBytes b
  | .cancelSend t => toBytes 1 t
  | .readReceived q => toBytes 1 q
  | .acceptJob id | .refuseJob id => offerIdBytes id
  | .meterHire t | .meterTariff t => toBytes 1 t
  | .meterExtra c => toBytes 1 c
  | .readTrip n => toBytes 2 n
  | .msgRead p => toBytes 2 p.source ++ toBytes 2 p.number
  | .msgReply p n => toBytes 2 p.source ++ toBytes 2 p.number ++ toBytes 1 n
  | .displaySelect n => toBytes 1 n
  | .displayWrite pos text attr stray =>
    toBytes 1 (displayPresence pos.isSome attr.isSome 4 stray) ++ pos.elim [] cursorBytes ++ textBytes text
      ++ attr.elim [] (toBytes 1)
  | .displayRead pos n stray =>
    toBytes 1 (displayPresence pos.isSome false 2 stray) ++ pos.elim [] cursorBytes ++ toBytes 1 n
  | _ => []

/-- A request frame: marker, length, code, fields, check over length, code and fields (R203). -/
def encodeRequest (i : Instr) : Option (List Byte) :=
  (requestCode i).map fun code =>
    let body := toBytes 1 code ++ requestFields i
    let covered := toBytes 2 body.length ++ body
    byteOf 0xA5 :: covered ++ toBytes 2 (crc covered)

/-- Names a whole field list: what is left must be empty, or the length does not match the fields (R188 step 1). -/
def whole {α : Type} (r : Option (α × List Byte)) : Option α :=
  match r with
  | some (a, []) => some a
  | _ => none

def takeTariff (bs : List Byte) : Option (Tariff × List Byte) := do
  let (F, bs) ← takeNum 3 bs
  let (A, bs) ← takeNum 3 bs
  let (D, bs) ← takeNum 2 bs
  let (T, bs) ← takeNum 2 bs
  let (N, bs) ← takeNum 1 bs
  some (⟨F, A, D, T, N⟩, bs)

def takeExtra (bs : List Byte) : Option (Extra × List Byte) := do
  let (c, bs) ← takeNum 1 bs
  let (a, bs) ← takeNum 3 bs
  some (⟨c, a⟩, bs)

def takeAccept (bs : List Byte) : Option (AcceptRequest × List Byte) := do
  let (k, bs) ← takeNum 1 bs
  let (lo, bs) ← takeNum 2 bs
  let (hi, bs) ← takeNum 2 bs
  let (a, bs) ← takeNum 1 bs
  some (⟨k, lo, hi, a⟩, bs)

def takeCursor (bs : List Byte) : Option (Cursor × List Byte) := do
  let (p, bs) ← takeNum 1 bs
  let (l, bs) ← takeNum 1 bs
  let (c, bs) ← takeNum 1 bs
  some (⟨p, l, c⟩, bs)

def takePair (bs : List Byte) : Option (MsgPair × List Byte) := do
  let (s, bs) ← takeNum 2 bs
  let (n, bs) ← takeNum 2 bs
  some (⟨s, n⟩, bs)

/-- An optional field, present when its presence bit is set (R201, R203). -/
def takeIf {α : Type} (present : Bool) (item : List Byte → Option (α × List Byte)) (bs : List Byte) :
    Option (Option α × List Byte) :=
  if present then (item bs).map fun r => (some r.1, r.2) else some (none, bs)

/-- CONFIGURE's fields (R203), up to and with the queue modes. -/
def takeConfigHead (bs : List Byte) : Option (ConfigRequest × List Byte) := do
  let (station, bs) ← takeNum 2 bs
  let (fleet, bs) ← takeNum 1 bs
  let (homeBase, bs) ← takeNum 2 bs
  let (capability, bs) ← takeNum 1 bs
  let (k, bs) ← takeNum 2 bs
  let (tariffs, bs) ← takeList takeTariff bs
  let (extras, bs) ← takeList takeExtra bs
  let (tick, bs) ← takeNum 1 bs
  let (cycle, bs) ← takeMany (takeNum 1) 16 bs
  let (pm, bs) ← takeNum 1 bs
  let (om, bs) ← takeNum 1 bs
  some (⟨station, fleet, homeBase, capability, k, tariffs, extras, tick, cycle, pm, om, [], 0, 0, 0, 0, [], 0, 0⟩, bs)

/-- CONFIGURE's fields (R203). -/
def takeConfig (bs : List Byte) : Option (ConfigRequest × List Byte) := do
  let (c, bs) ← takeConfigHead bs
  let (acc, bs) ← takeList takeAccept bs
  let (dflt, bs) ← takeNum 1 bs
  let (award, bs) ← takeNum 1 bs
  let (accept, bs) ← takeNum 1 bs
  let (hist, bs) ← takeNum 1 bs
  let (enables, bs) ← takeMany (takeNum 1) 16 bs
  let (hold, bs) ← takeNum 1 bs
  let (marker, bs) ← takeNum 1 bs
  some ({ c with acceptance := acc, defaultAction := dflt, awardTimeout := award, acceptTimeout := accept,
                 historyCarry := hist, noticeEnables := enables, switchHold := hold, marker := marker }, bs)

def takePosition (bs : List Byte) : Option (PositionRequest × List Byte) := do
  let (c, bs) ← takeCell bs
  let (z, bs) ← takeNum 1 bs
  let (adj, bs) ← takeList (takeNum 1) bs
  let (clock, bs) ← takeNum 4 bs
  some (⟨c, z, adj, clock⟩, bs)

def takeSendData (bs : List Byte) : Option (Instr × List Byte) := do
  let (d, bs) ← takeNum 2 bs
  let (t, bs) ← takeNum 1 bs
  let (b, bs) ← takeText bs
  some (.sendData d t b, bs)

def takeReply (bs : List Byte) : Option (Instr × List Byte) := do
  let (p, bs) ← takePair bs
  let (n, bs) ← takeNum 1 bs
  some (.msgReply p n, bs)

def takeDisplayWrite (bs : List Byte) : Option (Instr × List Byte) := do
  let (p, bs) ← takeNum 1 bs
  let (pos, bs) ← takeIf (p % 2 == 1) takeCursor bs
  let (text, bs) ← takeText bs
  let (attr, bs) ← takeIf (p / 2 % 2 == 1) (takeNum 1) bs
  some (.displayWrite pos text attr (p / 4), bs)

def takeDisplayRead (bs : List Byte) : Option (Instr × List Byte) := do
  let (p, bs) ← takeNum 1 bs
  let (pos, bs) ← takeIf (p % 2 == 1) takeCursor bs
  let (n, bs) ← takeNum 1 bs
  some (.displayRead pos n (p / 2), bs)

/-- A request without fields: nothing may follow its code. -/
def noFields (i : Instr) (bs : List Byte) : Option Instr := whole (some (i, bs))

/-- A request of one numeric field. -/
def oneField (k : Nat) (f : Nat → Instr) (bs : List Byte) : Option Instr := (whole (takeNum k bs)).map f

/-- The request a code and its field bytes spell; none for an unknown code or a length that does not match (R188). -/
def decodeFields (code : Nat) (bs : List Byte) : Option Instr :=
  match code with
  | 0x01 => (whole (takeConfig bs)).map .configure
  | 0x02 => noFields .getStatus bs
  | 0x03 => noFields .restart bs
  | 0x04 => noFields .enterDormant bs
  | 0x05 => (whole (takePosition bs)).map .setPosition
  | 0x06 => oneField 1 .setAvailable bs
  | 0x07 => noFields .linkRejoin bs
  | 0x08 => whole (takeSendData bs)
  | 0x09 => oneField 1 .cancelSend bs
  | 0x0A => noFields .readOutcomes bs
  | 0x0B => oneField 1 .readReceived bs
  | 0x0C => noFields .listOffers bs
  | 0x0D => (whole (takeOfferId bs)).map .acceptJob
  | 0x0E => (whole (takeOfferId bs)).map .refuseJob
  | 0x0F => oneField 1 .meterHire bs
  | 0x10 => oneField 1 .meterTariff bs
  | 0x11 => oneField 1 .meterExtra bs
  | 0x12 => noFields .meterStop bs
  | 0x13 => noFields .meterClear bs
  | 0x14 => noFields .shiftOpen bs
  | 0x15 => noFields .shiftClose bs
  | 0x16 => oneField 2 .readTrip bs
  | 0x17 => noFields .readTotals bs
  | 0x18 => noFields .msgList bs
  | 0x19 => (whole (takePair bs)).map .msgRead
  | 0x1A => whole (takeReply bs)
  | 0x1B => oneField 1 .displaySelect bs
  | 0x1C => whole (takeDisplayWrite bs)
  | 0x1D => whole (takeDisplayRead bs)
  | 0x1E => noFields .displayEditBegin bs
  | 0x1F => noFields .displayEditEnd bs
  | 0x20 => noFields .raiseAlarm bs
  | 0x21 => noFields .clearAlarm bs
  | 0x22 => noFields .readNotices bs
  | _ => none

/-- What the request parser makes of the bytes clocked in during one select period (R187, R188 step 1, R203). -/
inductive PortJudgement where
  /-- no marker, or select released before the frame is complete: nothing is judged -/
  | incomplete
  /-- wrong check, unknown code or mismatched length -/
  | badFrame
  /-- a request to be judged from step 2 of R188 on -/
  | request (i : Instr)
  deriving DecidableEq, Repr

/-- The parser discards bytes up to the marker, reads the announced length and the check, and judges the frame; bytes
after the frame are ignored (R187, R188 step 1, R203). -/
def judgeBytes (bs : List Byte) : PortJudgement :=
  match bs.dropWhile (fun b => b != byteOf 0xA5) with
  | [] => .incomplete
  | _ :: rest =>
    match takeNum 2 rest with
    | none => .incomplete
    | some (n, _) =>
      if rest.length < n + 4 then .incomplete
      else if crc (rest.take (n + 2)) ≠ fromBytes ((rest.drop (n + 2)).take 2) then .badFrame
      else
        match (rest.drop 2).take n with
        | [] => .badFrame
        | code :: fields =>
          match decodeFields code.toNat fields with
          | none => .badFrame
          | some i => .request i

/-- No row of the opcode table gives bits, so no word spells a command. -/
def decodeTableWord (_nbits _w : Nat) : Option Instr := none

end Sys2Proof
end

