-- ==== Sys2Proof/Machine/State.lean ====
section
/-! DEFINITION. The state of the CR-46, block by block (spec 00 section 1.2), as plain data, and its value after reset. -/

namespace Sys2Proof.Machine

/-! ## Names shared by the blocks -/

/-- Part states (R196). -/
inductive PartState where
  | scanning | unconfigured | running | dormant
  deriving DecidableEq, Repr

/-- Link states (R18). -/
inductive LinkState where
  | active | warned | passive | silent | recovering
  deriving DecidableEq, Repr

/-- Meter states (R86). -/
inductive MeterState where
  | vacant | hired | stopped
  deriving DecidableEq, Repr

/-- Alarm states (R166). -/
inductive AlarmState where
  | quiet | held | open | acknowledged | clearing
  deriving DecidableEq, Repr

/-- The two receive queues (R32). -/
inductive RxQueue where
  | priority | ordinary
  deriving DecidableEq, Repr

/-- Notice kinds, in the order of their codes (R203). -/
inductive NoticeKind where
  | linkState | offerHeard | offerChanged | jobAwarded | received | sendOutcome | messageNew | messageExpired
  | fareChanged | tripClosed | uploadChanged | storeEvent | storeFault | alarmState | otherAlarm | supplyLow
  | overflow
  deriving DecidableEq, Repr

/-- Notice subjects (R191, R203). -/
inductive Subject where
  | link
  | offer (id : OfferId)
  | message (pair : MsgPair)
  | meter
  | trip (number : Nat)
  | queue (q : RxQueue)
  | store
  | sector (n : Nat)
  | ownAlarm
  | alarm (id : AlarmId)
  | outcomes
  | list
  deriving DecidableEq, Repr

structure Notice where
  kind : NoticeKind
  subject : Subject
  deriving DecidableEq, Repr

/-! ## Link controller (chapter 1) -/

/-- Last fault kinds (R21). -/
inductive FaultKind where
  | none | check | cutOff | noLack | keying | unchanged
  deriving DecidableEq, Repr

/-- The transmit side (R8). -/
inductive TxSide where
  | idle | deferring | onAir | ackWait | lacking
  deriving DecidableEq, Repr

/-- What the held entry waits for (R9, R10): slots still to count, once the channel is free. `started` says that the
boundary from which they are counted has come. -/
structure Deferral where
  slots : Nat
  started : Bool
  deriving DecidableEq, Repr

/-- The gap running on the channel (R3): after another station's frame that needs a LACK, after one that does not, after
a carrier that could not be read, and after an own frame of either sort. -/
inductive Gap where
  | ack | idle | unread | ownAck | ownIdle
  deriving DecidableEq, Repr

/-- A frame that only completes its airtime, and why (R15): DORMANT was entered (R49) or RESTART was taken (R59). -/
inductive RunOff where
  | dormant | restart
  deriving DecidableEq, Repr

structure Link where
  state : LinkState
  sfc : Nat
  hfc : Nat
  quietSpans : Nat
  partialSpan : Nat
  lastFault : FaultKind
  seqCounter : Nat
  side : TxSide
  deferral : Option Deferral
  keyed : Bool
  keyFault : Bool
  txFrame : List Byte
  txSlots : Nat
  lackHeard : Bool
  decisionWaits : Bool
  runOff : Option RunOff
  gap : Option Gap
  carrier : Bool
  carrierInAckGap : Bool
  listenIn : Option Nat
  slotClock : Bool
  station : Option Nat
  fleet : Option Nat
  deriving DecidableEq, Repr

/-! ## Receive filter (chapter 2) -/

inductive Action where
  | toPriority | toOrdinary | reject
  deriving DecidableEq, Repr

inductive QueueMode where
  | blocking | overwrite
  deriving DecidableEq, Repr

/-- An acceptance list entry (R30). -/
structure AcceptEntry where
  beacon : Bool
  terminalData : Bool
  lo : Nat
  hi : Nat
  action : Action
  deriving DecidableEq, Repr

/-- Cab status of a beacon (R6, R56). -/
inductive CabStatus where
  | vacant | hired | stopped | unavailable
  deriving DecidableEq, Repr

/-- Payload of a BEACON: cab status, zone, the cell in a full one, link state (R6). -/
structure BeaconInfo where
  status : CabStatus
  zone : Nat
  cell : Option Cell
  link : LinkState
  deriving DecidableEq, Repr

inductive RxPayload where
  | beacon (info : BeaconInfo)
  | data (bytes : List Byte)
  deriving DecidableEq, Repr

/-- LACK state of a received entry (R32). -/
inductive LackState where
  | sent | withheld | notOwed
  deriving DecidableEq, Repr

/-- A receive queue entry (R32); its kind is that of its payload. -/
structure RxEntry where
  source : Nat
  dest : Nat
  fleet : Nat
  seq : Nat
  arrival : Nat
  lack : LackState
  payload : RxPayload
  deriving DecidableEq, Repr

structure Rx where
  zones : List Nat
  acceptance : List AcceptEntry
  defaultAction : Action
  priorityMode : QueueMode
  ordinaryMode : QueueMode
  priorityQueue : List RxEntry
  ordinaryQueue : List RxEntry
  priorityLost : Nat
  ordinaryLost : Nat
  malformed : Nat
  deriving DecidableEq, Repr

/-! ## Transmit scheduler (chapter 3) -/

inductive Owner where
  | offerEngine | tripRecorder | messageUnit | emergencyController | terminalPort | beaconCycle
  deriving DecidableEq, Repr

/-- What the owner uses to recognise the entry (R40). -/
inductive OwnerRef where
  | offer (id : OfferId)
  | trip (number : Nat)
  | message (pair : MsgPair)
  | alarm (number : Nat)
  | relay (id : AlarmId)
  | none
  deriving DecidableEq, Repr

/-- Access classes (R40). -/
inductive TxClass where
  | emergencyOrigin | emergencyRelay | bid | reply | normal | beacon
  deriving DecidableEq, Repr

inductive EntryState where
  | waiting | deferring | onAir | awaitLack | retractPending
  deriving DecidableEq, Repr

inductive RefuseReason where
  | driver | timeout | busy | unavailable
  deriving DecidableEq, Repr

inductive ReceiptKind where
  | read | reply
  deriving DecidableEq, Repr

inductive Phase where
  | open | cleared
  deriving DecidableEq, Repr

/-- Trip flags (R107). -/
structure TripFlags where
  fareLimit : Bool
  pulseAnomaly : Bool
  emergencyDuringTrip : Bool
  powerInterrupted : Bool
  deriving DecidableEq, Repr

/-- Payload of a TRIP_REPORT (R6, R122). -/
structure TripReport where
  number : Nat
  jobId : Option OfferId
  startTime : Nat
  endTime : Nat
  hiredDistance : Nat
  waiting : Nat
  charged : Nat
  fare : Nat
  extras : List Extra
  flags : TripFlags
  deriving DecidableEq, Repr

/-- Payload of a frame to be sent, by kind (R6). A beacon's fields are absent until it is keyed (R56). -/
inductive TxPayload where
  | beacon (full : Bool) (info : Option BeaconInfo)
  | bid (id : OfferId) (rank : Nat) (cell : Cell)
  | accept (id : OfferId)
  | refuse (id : OfferId) (reason : RefuseReason)
  | tripReport (report : TripReport)
  | receipt (number : Nat) (kind : ReceiptKind) (index : Nat)
  | emergency (alarm : AlarmId) (repeatSeq : Nat) (phase : Phase) (cell : Cell)
  | emergencyAck (alarm : AlarmId)
  | data (bytes : List Byte)
  deriving DecidableEq, Repr

/-- A pending entry (R40). `uid` stands for its identity (log 5); `eligible` and `windowEnded` are a BID's (R45). -/
structure PendEntry where
  uid : Nat
  owner : Owner
  ref : OwnerRef
  cls : TxClass
  payload : TxPayload
  dest : Nat
  fleet : Nat
  hop : Nat
  relayed : Bool
  seq : Option Nat
  attempts : Nat
  state : EntryState
  bidWindow : Option (Nat × Nat)
  eligible : Bool
  windowEnded : Bool
  tag : Option Nat
  deriving DecidableEq, Repr

/-- Outcomes (R46). -/
inductive TxOutcome where
  | delivered | broadcastSent | noLack | retracted | removed
  deriving DecidableEq, Repr

/-- What a removal reports to the owner: the entry, its outcome, and whether it completes a retraction (R46). -/
structure TxResult where
  entry : PendEntry
  outcome : TxOutcome
  retraction : Bool
  deriving DecidableEq, Repr

/-- Positions of the beacon cycle table (R55). -/
inductive BeaconForm where
  | full | short | none
  deriving DecidableEq, Repr

/-- A send outcome (R57). -/
structure SendOutcome where
  tag : Nat
  outcome : TxOutcome
  attempts : Nat
  inFlight : Bool
  deriving DecidableEq, Repr

/-- `tick` is the configured beacon tick; `tickTimer` holds the seconds left of the running one (R55). -/
structure Tx where
  queue : List PendEntry
  cycleTable : List BeaconForm
  tick : Nat
  cycleIndex : Nat
  tickTimer : Option Nat
  outcomes : List SendOutcome
  outcomeLost : Nat
  deriving DecidableEq, Repr

/-! ## Offer engine (chapter 4) -/

/-- Offer-table states (R61). -/
inductive OfferState where
  | bidWait | bidSent | awarded | accepting | held | heldUnconfirmed
  | ineligible | suppressed | missed | lost | expired | withdrawn | refused | done
  deriving DecidableEq, Repr

/-- Reasons of an entry (R60): why the cab could not bid, or why it refused. -/
inductive OfferReason where
  | meter | availability | alarm | link | jobHeld | vehicle | position
  | refusal (r : RefuseReason)
  deriving DecidableEq, Repr

inductive VehicleNeed where
  | standard | large | accessible
  deriving DecidableEq, Repr

/-- Why a retraction was asked (R70). -/
inductive RetractReason where
  | suppression | meter | alarm | award | withdraw
  deriving DecidableEq, Repr

/-- A frame an offer entry has in the pending queue, with the retraction reason when one was asked (R60). -/
structure QueuedFrame where
  uid : Nat
  reason : Option RetractReason
  deriving DecidableEq, Repr

/-- An offer-table entry (R60). -/
structure OfferEntry where
  id : OfferId
  zone : Option Nat
  pickup : Option Cell
  need : Option VehicleNeed
  window : Option Nat
  fareEstimate : Option Nat
  pickupText : Option (List Byte)
  jobText : Option (List Byte)
  arrival : Nat
  state : OfferState
  reason : Option OfferReason
  rank : Option Nat
  bidSlot : Option Nat
  bestRank : Option Nat
  awardTimer : Option Nat
  acceptTimer : Option Nat
  bidFrame : Option QueuedFrame
  replyFrame : Option QueuedFrame
  lastReply : Option TxOutcome
  linkedTrip : Option Nat
  deriving DecidableEq, Repr

structure Offers where
  table : List OfferEntry
  heldJob : Option OfferId
  overflow : Nat
  available : Bool
  cell : Option Cell
  positionAge : Nat
  idleMinutes : Nat
  capability : List VehicleNeed
  awardTimeout : Nat
  acceptTimeout : Nat
  deriving DecidableEq, Repr

/-! ## Fare engine (chapter 5) -/

/-- The current trip (R86). -/
structure Trip where
  number : Nat
  jobId : Option OfferId
  hireTariff : Nat
  tariff : Nat
  pendingTariff : Option Nat
  tariffList : List Nat
  startTime : Nat
  endTime : Option Nat
  hiredDistance : Nat
  waiting : Nat
  earned : Nat
  charged : Nat
  freeLeft : Nat
  freeUsed : Nat
  fare : Nat
  extras : List Extra
  flags : TripFlags
  deriving DecidableEq, Repr

/-- The contents of a CHECKPOINT record (R106). -/
structure Checkpoint where
  number : Nat
  jobId : Option OfferId
  meter : MeterState
  hireTariff : Nat
  tariff : Nat
  tariffList : List Nat
  startTime : Nat
  hiredDistance : Nat
  waiting : Nat
  earned : Nat
  charged : Nat
  freeLeft : Nat
  freeUsed : Nat
  fare : Nat
  extras : List Extra
  flags : TripFlags
  deriving DecidableEq, Repr

structure Fare where
  tariffs : List Tariff
  pulseConstant : Option Nat
  catalogue : List Extra
  meter : MeterState
  trip : Option Trip
  progress : Nat
  incrementsSince : Nat
  intervalsSince : Nat
  checkpointOwed : Bool
  opening : Bool
  q : Nat
  metres : Nat
  clockRunning : Bool
  restored : Bool
  deriving DecidableEq, Repr

/-! ## Trip recorder (chapter 6) -/

/-- Upload states (R116). -/
inductive UploadState where
  | storing | queued | unsent | delivered | notListed
  deriving DecidableEq, Repr

/-- A closed trip (R116). -/
structure TripRecord where
  number : Nat
  jobId : Option OfferId
  tariffList : List Nat
  startTime : Nat
  endTime : Nat
  hiredDistance : Nat
  waiting : Nat
  earned : Nat
  charged : Nat
  freeUsed : Nat
  fare : Nat
  extras : List Extra
  flags : TripFlags
  upload : UploadState
  deriving DecidableEq, Repr

/-- An upload list entry: the trip record, and whether its UPLOAD_DONE group is owed (R121, R123). -/
structure UploadEntry where
  trip : TripRecord
  doneOwed : Bool
  deriving DecidableEq, Repr

/-- The quantities of R119. -/
structure Totals where
  totalDistance : Nat
  hiredDistance : Nat
  hirings : Nat
  earned : Nat
  charged : Nat
  fare : Nat
  extras : Nat
  anomalies : Nat
  deriving DecidableEq, Repr

/-- The shift state (R112). -/
structure Shift where
  number : Nat
  isOpen : Bool
  openTime : Option Nat
  closeTime : Option Nat
  totals : Totals
  deriving DecidableEq, Repr

structure Trips where
  shift : Shift
  totals : Totals
  lastTrip : Nat
  lastClosedNumber : Nat
  uploads : List UploadEntry
  lastClosed : Option TripRecord
  homeBase : Option Nat
  deriving DecidableEq, Repr

/-! ## Totals store (chapter 7) -/

/-- Raise sources (R166). -/
inductive RaiseSource where
  | switch | host | restored
  deriving DecidableEq, Repr

/-- The contents of an ALARM_OPEN record (R177). -/
structure AlarmOpenRecord where
  origin : Nat
  number : Nat
  source : RaiseSource
  time : Nat
  cell : Cell
  deriving DecidableEq, Repr

/-- Record kinds with their contents (R130). -/
inductive RecordBody where
  | trip (t : TripRecord)
  | checkpoint (c : Checkpoint)
  | totalizer (totals : Totals) (lastClosed : Nat)
  | shift (sh : Shift) (lastTrip : Nat)
  | uploadDone (number : Nat)
  | alarmOpen (a : AlarmOpenRecord)
  | alarmClear (number : Nat)
  | carryDone (seq : Nat) (count : Nat)
  deriving DecidableEq, Repr

inductive CarryMark where
  | original | essentialCopy | historyCopy
  deriving DecidableEq, Repr

/-- A store record (R130). Its kind and length follow from its contents. -/
structure Record where
  body : RecordBody
  writeNo : Nat
  position : Nat
  groupEnd : Bool
  carry : CarryMark
  deriving DecidableEq, Repr

/-- One record slot of a sector (R129, R143): unwritten, the first slot of a record, a later slot of the record before it,
or a slot that holds nothing recognisable. -/
inductive Slot where
  | blank
  | head (r : Record)
  | tail
  | unreadable
  deriving DecidableEq, Repr

/-- A sector header (R129); `bad` fails its check or holds no recognisable state (R142). -/
inductive Header where
  | bad
  | erased
  | carrying (seq : Nat)
  | active (seq : Nat)
  | full (seq : Nat)
  deriving DecidableEq, Repr

/-- A sector (R129): its slots up to the last used one, its fault mark (R141), and whether an erase of it was begun and
not completed (R139, R142 item 1). -/
structure Sector where
  header : Header
  slots : List Slot
  fault : Bool
  eraseBegun : Bool
  deriving DecidableEq, Repr

/-- The owner a group is reported to (R131, R134). -/
inductive GroupKind where
  | checkpoint (trip : Nat)
  | close (trip : Nat) (listed : Bool)
  | shiftOpen
  | shiftClose
  | uploadDone (trip : Nat)
  | alarmOpen
  | alarmClear
  deriving DecidableEq, Repr

/-- A write queue entry (R132). -/
structure Group where
  kind : GroupKind
  records : List RecordBody
  writing : Bool
  deriving DecidableEq, Repr

inductive Activity where
  | idle | writing | swapping | erasing | halted
  deriving DecidableEq, Repr

/-- A record being written: the record, the sector, and the slots already written (R134). -/
structure RecordWrite where
  record : Record
  sector : Nat
  written : Nat
  deriving DecidableEq, Repr

/-- A header write in progress or due: the sector and its new header (R134, R140). -/
structure HeaderWrite where
  sector : Nat
  header : Header
  deriving DecidableEq, Repr

/-- Steps of a swap (R135 to R137). -/
inductive SwapStep where
  | newHeader | essential | history | carryDone | headerActive | headerFull | erase
  deriving DecidableEq, Repr

/-- A swap in progress (R135 to R137): the new sector and its sequence, the sector it replaces, its step, the records
still to copy, the history candidates still to judge, and how many records were carried. -/
structure Swap where
  target : Nat
  seq : Nat
  old : Option Nat
  step : SwapStep
  toCopy : List Record
  candidates : List (List Record)
  copied : Nat
  deriving DecidableEq, Repr

/-- Start-up result (R142). -/
inductive StartUp where
  | scanned | repaired | formatted
  deriving DecidableEq, Repr

/-- The scan in progress (R142, R145): whether a repair was made, whether a swap is to be made again (item 4), and the
sectors still to erase when the store is formatting. -/
structure Scan where
  repaired : Bool
  redoSwap : Bool
  formatting : Option (List Nat)
  formatted : Bool
  deriving DecidableEq, Repr

structure Store where
  sectors : List Sector
  queue : List Group
  activity : Activity
  record : Option RecordWrite
  rest : List Record
  headerWrite : Option HeaderWrite
  erasing : Option Nat
  inProgress : Bool
  swap : Option Swap
  supplyLow : Bool
  writeCounter : Nat
  dropped : Nat
  startUp : StartUp
  historyCarry : Bool
  scan : Option Scan
  deriving DecidableEq, Repr

/-! ## Message unit (chapter 8) -/

inductive MsgKind where
  | text | priorityText | query
  deriving DecidableEq, Repr

inductive MsgState where
  | new | shown | read | replied | expired
  deriving DecidableEq, Repr

/-- The receipt field (R148, R155). `queued` names the pending entry whose result it follows. -/
inductive Receipt where
  | owed (kind : ReceiptKind)
  | queued (uid : Nat)
  | delivered
  | noLack
  deriving DecidableEq, Repr

/-- A message queue entry (R148). -/
structure Message where
  pair : MsgPair
  kind : MsgKind
  fleet : Nat
  text : List Byte
  replies : List (List Byte)
  lifetime : Option Nat
  arrival : Nat
  state : MsgState
  replyChosen : Option Nat
  receipt : Option Receipt
  deriving DecidableEq, Repr

inductive LineAttr where
  | normal | inverse | blink
  deriving DecidableEq, Repr

/-- A display line: 20 characters and one attribute (R157). -/
structure Line where
  chars : List Byte
  attr : LineAttr
  deriving DecidableEq, Repr

/-- What the display bus carries (R164). -/
inductive Bus where
  | dark
  | page (lines : List Line)
  deriving DecidableEq, Repr

structure Msg where
  queue : List Message
  recent : List MsgPair
  refusals : Nat
  receiptLost : Nat
  pages : List (List Line)
  shown : Nat
  cursor : Cursor
  editMode : Bool
  editMark : Option Cursor
  bus : Bus
  deriving DecidableEq, Repr

/-! ## Emergency controller (chapter 9) -/

inductive OpenRecord where
  | none | owed | queued | written
  deriving DecidableEq, Repr

/-- The own EMERGENCY entry standing in the pending queue (R166). -/
structure OwnEntry where
  phase : Phase
  uid : Nat
  deriving DecidableEq, Repr

/-- ACK relayed (R179). -/
inductive AckRelay where
  | no
  | pending (uid : Nat) (joined : Nat)
  | done
  deriving DecidableEq, Repr

/-- A pending EMERGENCY relay: its entry, its repeat sequence, the highest relayed before it, its join time (R179). -/
structure RelayPending where
  uid : Nat
  repeatSeq : Nat
  before : Option Nat
  joined : Nat
  deriving DecidableEq, Repr

/-- A relay table entry (R179). `agedOut` says that 120 s have passed since last heard while a relay was pending; `hearing` orders
the hearings of the table's entries within one second (log 20). -/
structure RelayEntry where
  id : AlarmId
  highest : Option Nat
  ackRelay : AckRelay
  pending : Option RelayPending
  lastHeard : Nat
  hearing : Nat
  lastPhase : Option Phase
  lastCell : Option Cell
  agedOut : Bool
  deriving DecidableEq, Repr

/-- Restore pending (R166, R178). -/
structure RestorePending where
  number : Nat
  time : Nat
  cell : Cell
  deriving DecidableEq, Repr

/-- Roof-lamp patterns (R183). -/
inductive Lamp where
  | off | steady | slow | fast
  deriving DecidableEq, Repr

/-- A switch hold (R168). -/
inductive Hold where
  | none | running | completed
  deriving DecidableEq, Repr

/-- `openGroup` keeps the contents of the alarm's ALARM_OPEN group, taken at the raise, while it may be owed (R177). -/
structure Emerg where
  alarm : AlarmState
  number : Option Nat
  source : Option RaiseSource
  nextRepeat : Nat
  ackHeard : Bool
  openRecord : OpenRecord
  openGroup : Option AlarmOpenRecord
  ownEntry : Option OwnEntry
  clearedSent : Nat
  pendingRaise : Bool
  restore : Option RestorePending
  lastNumber : Nat
  repeatTimer : Option Nat
  spacingTimer : Option Nat
  markerTimer : Option Nat
  markerShown : Bool
  relays : List RelayEntry
  relayOverflow : Nat
  lamp : Lamp
  lampOn : Bool
  hold : Hold
  holdTime : Nat
  marker : Nat
  deriving DecidableEq, Repr

/-! ## Terminal port (chapter 10) -/

/-- Status codes, in the order of their codes (R203). -/
inductive Status where
  | ok | state | range | full | queueFull | storeBusy | storeFault | tooLate | unknownId | notConfigured
  | noShift | badFrame
  deriving DecidableEq, Repr

/-- The meter fields of GET_STATUS (R109); the trip fields are absent in VACANT. -/
structure MeterReport where
  meter : MeterState
  trip : Option Trip
  checkpointOwed : Bool
  deriving DecidableEq, Repr

/-- A sector as GET_STATUS shows it (R146). -/
structure SectorReport where
  header : Header
  fault : Bool
  deriving DecidableEq, Repr

/-- The store fields of GET_STATUS (R146). -/
structure StoreReport where
  activity : Activity
  held : Bool
  groups : Nat
  sectors : List SectorReport
  inRotation : Nat
  freeSlots : Nat
  dropped : Nat
  startUp : StartUp
  deriving DecidableEq, Repr

/-- A relay table entry as GET_STATUS shows it (R185): the entry, the seconds since it was last heard, and the seconds since
its pending EMERGENCY relay and its PENDING ACK relay joined (R179, log 23). -/
structure RelayReport where
  entry : RelayEntry
  sinceHeard : Nat
  sinceJoined : Option Nat
  sinceAckJoined : Option Nat
  deriving DecidableEq, Repr

/-- The alarm fields of GET_STATUS (R185). -/
structure AlarmReport where
  alarm : AlarmState
  number : Option Nat
  source : Option RaiseSource
  nextRepeat : Nat
  ackHeard : Bool
  openRecord : OpenRecord
  ownEntry : Option Phase
  clearedSent : Nat
  pendingRaise : Bool
  restore : Option RestorePending
  repeatLeft : Option Nat
  lastNumber : Nat
  lamp : Lamp
  markerShown : Bool
  relays : List RelayReport
  relayOverflow : Nat
  deriving DecidableEq, Repr

/-- The status groups of GET_STATUS (R189). -/
structure StatusReport where
  part : PartState
  requestCount : Nat
  notices : Nat
  noticeLost : Nat
  handedOver : Bool
  link : LinkState
  sfc : Nat
  hfc : Nat
  quietSpans : Nat
  lastFault : FaultKind
  priorityEntries : Nat
  ordinaryEntries : Nat
  malformed : Nat
  meter : MeterReport
  store : StoreReport
  alarm : AlarmReport
  shown : Nat
  cursor : Cursor
  editMode : Bool
  editMark : Option Cursor
  lit : Bool
  deriving DecidableEq, Repr

/-- The fields of a response, by the rule that names them. -/
inductive Reply where
  /-- the status alone -/
  | bare
  /-- CONFIGURE refused with RANGE: the first field out of range (R194) -/
  | badField (number : Nat)
  | status (report : StatusReport)
  /-- READ_OUTCOMES (R58) -/
  | outcomes (entries : List SendOutcome) (left lost : Nat)
  /-- READ_RECEIVED (R35) -/
  | received (entry : Option RxEntry) (left priorityLost ordinaryLost : Nat)
  /-- LIST_OFFERS (R82) -/
  | offers (table : List OfferEntry) (heldJob : Option OfferId) (overflow : Nat) (available : Bool)
  /-- METER_HIRE: the trip number (R87); SHIFT_OPEN: the shift number (R113) -/
  | number (n : Nat)
  /-- RAISE_ALARM: the alarm number (R169) -/
  | alarmNumber (n : Nat)
  /-- SHIFT_CLOSE: the closed shift's totals (R114) -/
  | totals (t : Totals)
  /-- READ_TRIP (R125) -/
  | trip (t : TripRecord)
  /-- READ_TOTALS (R125) -/
  | books (totals : Totals) (shift : Shift) (lastTrip : Nat) (uploads : List (Nat × UploadState))
      (interrupted : Option Nat)
  /-- MSG_LIST (R156) -/
  | messages (queue : List Message) (recent refusals receiptLost : Nat)
  /-- MSG_READ, MSG_REPLY (R153, R154) -/
  | receipt (r : Option Receipt)
  /-- DISPLAY_WRITE (R161) -/
  | cursor (c : Cursor)
  /-- DISPLAY_READ: the characters, the attribute of each line they come from, the cursor (R162) -/
  | chars (text : List Byte) (attrs : List LineAttr) (c : Cursor)
  /-- READ_NOTICES (R193) -/
  | notices (entries : List Notice) (left lost : Nat)
  deriving DecidableEq, Repr

/-- A response being sent (R187). -/
structure Response where
  status : Status
  count : Nat
  reply : Reply
  deriving DecidableEq, Repr

structure Port where
  part : PartState
  inReset : Bool
  response : Option Response
  requestCount : Nat
  notices : List Notice
  lost : Nat
  disabled : List NoticeKind
  handedOver : Bool
  clock : Nat
  deriving DecidableEq, Repr

/-! ## The whole part -/

/-- The state of the part. `pending` is the queue of commands that wait; `free`, `nextUid` and `elapsed` are the model's
own (logs 4, 5 and 20). -/
structure State where
  link : Link
  rx : Rx
  tx : Tx
  offers : Offers
  fare : Fare
  trips : Trips
  store : Store
  msg : Msg
  emerg : Emerg
  port : Port
  free : Nat
  nextUid : Nat
  elapsed : Nat
  pending : List Instr
  deriving DecidableEq, Repr

/-- No command of the part faults: the spec gives every command an effect, a refusal with a status code, or no effect.
The type has no constructor, so a step never answers a fault. -/
inductive Fault where
  deriving DecidableEq, Repr

inductive Refusal where
  /-- Raised by Dispatch for a command that has no meaning yet; safe: the machine stops where the hardware goes on. -/
  | notModelled (mnemonic : String)
  deriving DecidableEq, Repr

/-! ## Values after reset -/

/-- R22, column POWER_ON. -/
def Link.reset : Link :=
  { state := .active, sfc := 0, hfc := 0, quietSpans := 0, partialSpan := 0, lastFault := .none, seqCounter := 0,
    side := .idle, deferral := none, keyed := false, keyFault := false, txFrame := [], txSlots := 0,
    lackHeard := false, decisionWaits := false, runOff := none, gap := none, carrier := false,
    carrierInAckGap := false, listenIn := none, slotClock := false, station := none, fleet := none }

/-- R39. -/
def Rx.reset : Rx :=
  { zones := [], acceptance := [], defaultAction := .reject, priorityMode := .blocking, ordinaryMode := .blocking,
    priorityQueue := [], ordinaryQueue := [], priorityLost := 0, ordinaryLost := 0, malformed := 0 }

/-- R59. -/
def Tx.reset : Tx :=
  { queue := [], cycleTable := List.replicate 16 .none, tick := 10, cycleIndex := 0, tickTimer := none,
    outcomes := [], outcomeLost := 0 }

/-- R83. -/
def Offers.reset : Offers :=
  { table := [], heldJob := none, overflow := 0, available := false, cell := none, positionAge := 0, idleMinutes := 0,
    capability := [], awardTimeout := 8, acceptTimeout := 15 }

/-- R110. -/
def Fare.reset : Fare :=
  { tariffs := [], pulseConstant := none, catalogue := [], meter := .vacant, trip := none, progress := 0,
    incrementsSince := 0, intervalsSince := 0, checkpointOwed := false, opening := false, q := 0, metres := 0,
    clockRunning := false, restored := false }

def Totals.zero : Totals :=
  { totalDistance := 0, hiredDistance := 0, hirings := 0, earned := 0, charged := 0, fare := 0, extras := 0,
    anomalies := 0 }

/-- R126, last column. DESIGN CHOICE (unsafe, log 73): before the first shift the close time is absent. -/
def Shift.none : Shift := { number := 0, isOpen := false, openTime := .none, closeTime := .none, totals := .zero }

/-- R126, last column; the home base is absent until CONFIGURE (R128). DESIGN CHOICE (unsafe, log 48): the last closed trip
number is 0, for which R114 and R126 give no value before the first close. -/
def Trips.reset : Trips :=
  { shift := .none, totals := .zero, lastTrip := 0, lastClosedNumber := 0, uploads := [], lastClosed := none,
    homeBase := none }

/-- DESIGN CHOICE (unsafe, log 15): a sector of a new part holds no recognisable header and no record. -/
def Sector.fresh : Sector := { header := .bad, slots := [], fault := false, eraseBegun := false }

/-- R147; the sectors are a new part's. DESIGN CHOICE (unsafe, log 41): the start-up result, which the scan sets, reads SCANNED
until the scan has ended. DESIGN CHOICE (unsafe, log 66): the write-number counter, which the scan rebuilds, reads 1 until then. -/
def Store.reset : Store :=
  { sectors := List.replicate 4 .fresh, queue := [], activity := .erasing, record := none, rest := [],
    headerWrite := none, erasing := some 1, inProgress := true, swap := none, supplyLow := false, writeCounter := 1,
    dropped := 0, startUp := .scanned, historyCarry := true,
    scan := some { repaired := false, redoSwap := false, formatting := none, formatted := false } }

/-- A blank display line. -/
def Line.blank : Line := { chars := List.replicate 20 0x20#8, attr := .normal }

def Msg.blankPages : List (List Line) := List.replicate 8 (List.replicate 4 .blank)

/-- R165. -/
def Msg.reset : Msg :=
  { queue := [], recent := [], refusals := 0, receiptLost := 0, pages := Msg.blankPages, shown := 0,
    cursor := ⟨6, 0, 0⟩, editMode := false, editMark := none, bus := .dark }

/-- R186. DESIGN CHOICE (unsafe, log 62): until the scan sets it, the last alarm number reads 255, the value R167 gives it when no
ALARM_OPEN record survives. -/
def Emerg.reset : Emerg :=
  { alarm := .quiet, number := none, source := none, nextRepeat := 0, ackHeard := false, openRecord := .none,
    openGroup := none, ownEntry := none, clearedSent := 0, pendingRaise := false, restore := none, lastNumber := 255,
    repeatTimer := none, spacingTimer := none, markerTimer := none, markerShown := false, relays := [],
    relayOverflow := 0, lamp := .off, lampOn := false, hold := .none, holdTime := 20, marker := 0x2A }

/-- R199. -/
def Port.reset : Port :=
  { part := .scanning, inReset := false, response := none, requestCount := 0, notices := [], lost := 0, disabled := [],
    handedOver := false, clock := 0 }

/-- The part right after POWER_ON of a new part: SCANNING, every block at its reset values, the scan at its first repair
(an erase of sector 1, whose header is not recognisable, R142 item 1). -/
def State.reset : State :=
  { link := .reset, rx := .reset, tx := .reset, offers := .reset, fare := .reset, trips := .reset,
    store := { Store.reset with
      sectors := { Sector.fresh with eraseBegun := true } :: List.replicate 3 .fresh
      scan := some { repaired := true, redoSwap := false, formatting := none, formatted := false } },
    msg := .reset, emerg := .reset, port := .reset, free := 0, nextUid := 0, elapsed := 0, pending := [] }

end Sys2Proof.Machine
end

