-- ==== Sys2Proof/Machine/Ops.lean ====
section
/-! DEFINITION. Operations every block shares: notices (R191), the display memory (R157) and its bus (R164), the roof lamp
(R183), free values, and small list and text helpers. -/

namespace Sys2Proof.Machine

/-! ## Lists and texts -/

/-- Apply `f` to the entries that satisfy `p`. -/
def updateWhere {α : Type} (p : α → Bool) (f : α → α) (l : List α) : List α :=
  l.map fun a => if p a then f a else a

/-- Join at the tail of a list of at most `cap` entries, dropping the head when it is full. -/
def pushDropHead {α : Type} (cap : Nat) (l : List α) (a : α) : List α :=
  if l.length < cap then l ++ [a] else l.tail ++ [a]

/-- Decimal digits, most significant first, at most `fuel` of them. -/
def digitsAux : Nat → Nat → List Byte → List Byte
  | 0, _, acc => acc
  | fuel + 1, n, acc =>
    if n < 10 then byteOf (48 + n) :: acc else digitsAux fuel (n / 10) (byteOf (48 + n % 10) :: acc)

/-- A number as text. -/
def digits (n : Nat) : List Byte := digitsAux 20 n []

/-- The characters of a word of this manual. -/
def word (s : List Char) : List Byte := s.map fun c => byteOf c.toNat

def space : Byte := 0x20#8

/-- `n` characters of a text, filled with spaces on the right. -/
def padRight (n : Nat) (t : List Byte) : List Byte := t.take n ++ List.replicate (n - t.length) space

/-- `n` characters of a text, right-aligned. -/
def padLeft (n : Nat) (t : List Byte) : List Byte := List.replicate (n - t.length) space ++ t.take n

/-- A display line from its characters and attribute (R157). -/
def lineOf (t : List Byte) (a : LineAttr) : Line := { chars := padRight 20 t, attr := a }

/-! ## Part states -/

def State.running (s : State) : Bool := s.port.part == .running

/-- Timers and ages that count while the part is RUNNING or DORMANT. -/
def State.awake (s : State) : Bool := s.port.part == .running || s.port.part == .dormant

/-- The display is lit in UNCONFIGURED and RUNNING (R164). -/
def State.lit (s : State) : Bool := s.port.part == .unconfigured || s.port.part == .running

/-- The configured station number; 0, which names no station, before CONFIGURE. -/
def State.station (s : State) : Nat := s.link.station.getD 0

/-- The configured fleet code; 0 before CONFIGURE. -/
def State.fleet (s : State) : Nat := s.link.fleet.getD 0

/-- The cell of the last SET_POSITION, or cell 0, 0 (R171). -/
def State.cell (s : State) : Cell := s.offers.cell.getD ⟨0, 0⟩

/-! ## Notices (R191) -/

def State.hasOverflow (s : State) : Bool := s.port.notices.any fun n => n.kind == .overflow

/-- A block raises a notice; the first case of R191's table that applies decides. -/
def raise (kind : NoticeKind) (subject : Subject) (s : State) : State :=
  if s.port.disabled.contains kind then s
  else if s.port.notices.contains ⟨kind, subject⟩ then s
  else if s.hasOverflow then { s with port.lost := satAdd 255 s.port.lost 1 }
  else if Config.noticeCapacity ≤ s.port.notices.length + 1 then
    { s with port.notices := s.port.notices ++ [⟨.overflow, .list⟩], port.lost := satAdd 255 s.port.lost 1 }
  else { s with port.notices := s.port.notices ++ [⟨kind, subject⟩] }

/-- The attention line is asserted while the notice list holds an entry (R192). -/
def State.attention (s : State) : Bool := !s.port.notices.isEmpty

/-! ## Free values -/

/-- One more free value is taken. -/
def State.useFree (s : State) : State := { s with free := s.free + 1 }

/-! ## Display memory (R157) -/

def pageOf (s : State) (n : Nat) : List Line := s.msg.pages.getD n []

/-- A page's owner writes the whole page. -/
def setPage (n : Nat) (lines : List Line) (s : State) : State := { s with msg.pages := s.msg.pages.set n lines }

/-- One character position is written. -/
def setChar (page line col : Nat) (c : Byte) (s : State) : State :=
  let lines := pageOf s page
  let l := lines.getD line .blank
  setPage page (lines.set line { l with chars := l.chars.set col c }) s

/-- One line's attribute is written. -/
def setAttr (page line : Nat) (a : LineAttr) (s : State) : State :=
  let lines := pageOf s page
  let l := lines.getD line .blank
  setPage page (lines.set line { l with attr := a }) s

/-- While the display is lit the bus carries the shown page as it stands; while it is dark, the dark command (R164). -/
def refreshBus (s : State) : State :=
  { s with msg.bus := if s.lit then .page (pageOf s s.msg.shown) else .dark }

/-! ## Roof lamp (R183) -/

/-- The pattern of R183's table. -/
def lampPattern (s : State) : Lamp :=
  if s.port.part = .running then
    match s.emerg.alarm with
    | .quiet => if s.fare.meter = .vacant ∧ s.offers.available = true then .steady else .off
    | .held => .fast
    | .open | .acknowledged => .slow
    | .clearing => if s.link.state = .silent ∨ s.link.state = .recovering then .fast else .slow
  else .off

/-- The pattern is re-evaluated; a new pattern starts with its on phase (R183). -/
def refreshLamp (s : State) : State :=
  if lampPattern s = s.emerg.lamp then s
  else { s with emerg.lamp := lampPattern s, emerg.lampOn := decide (lampPattern s ≠ .off) }

/-- What follows every event: the lamp takes its pattern and the bus carries the shown page as the event left it. -/
def settle (s : State) : State := refreshBus (refreshLamp s)

end Sys2Proof.Machine
end

