-- ==== Sys2Proof/Machine/Pages.lean ====
section
/-! DEFINITION. The pages the part composes: the FARE page (R108), the JOB page (R81) and the MESSAGE pages (R158) with the
move of NEW entries to SHOWN (R160). Where the manual names what a line shows and not its columns, the items are left
aligned with one space between them (DESIGN CHOICE, unsafe, log 19). -/

namespace Sys2Proof.Machine

/-! ## FARE page (R108) -/

/-- Cents as units and cents: 570 is 5.70 (R108). -/
def money (cents : Nat) : List Byte :=
  digits (cents / 100) ++ word ['.'] ++ [byteOf (48 + cents % 100 / 10), byteOf (48 + cents % 10)]

/-- Line 0 up to column 18, with its attribute, by the meter state (R108). -/
def fareLine0 (s : State) : List Byte × LineAttr :=
  match s.fare.meter, s.fare.trip with
  | .hired, some t => (word ['H', 'I', 'R', 'E', 'D', ' '] ++ digits t.number, .normal)
  | .stopped, some t => (word ['S', 'T', 'O', 'P', 'P', 'E', 'D', ' '] ++ digits t.number, .inverse)
  | _, _ => (word ['V', 'A', 'C', 'A', 'N', 'T'], .normal)

def fareLine1 (t : Trip) : Line :=
  { chars := padLeft 20 (money t.fare), attr := if t.flags.fareLimit then .inverse else .normal }

/-- The arrow of the FARE page: a character code from 0x20 to 0xFF (R108, R157, log 19). -/
def arrow : Byte := byteOf (0x20 + Config.arrowCode % 0xE0)

/-- TARIFF and the tariff in force, an arrow and the pending tariff when one is pending (R108). -/
def fareLine2 (t : Trip) : Line :=
  lineOf
    (word ['T', 'A', 'R', 'I', 'F', 'F', ' '] ++ digits t.tariff
      ++ t.pendingTariff.elim [] fun p => [space, arrow, space] ++ digits p)
    .normal

/-- EXTRAS and the count; PWR in the last three columns when POWER_INTERRUPTED is set (R108). -/
def fareLine3 (t : Trip) : Line :=
  let left := padRight 17 (word ['E', 'X', 'T', 'R', 'A', 'S', ' '] ++ digits t.extras.length)
  lineOf (left ++ if t.flags.powerInterrupted then word ['P', 'W', 'R'] else []) .normal

/-- The fare engine rewrites page 0, all but line 0 column 19, and raises FARE_CHANGED (R108, R109). -/
def writeFarePage (s : State) : State :=
  let marker := ((pageOf s 0).getD 0 .blank).chars.getD 19 space
  let line0 : Line := { chars := padRight 19 (fareLine0 s).1 ++ [marker], attr := (fareLine0 s).2 }
  let rest :=
    match s.fare.trip with
    | some t => [fareLine1 t, fareLine2 t, fareLine3 t]
    | none => [.blank, .blank, .blank]
  raise .fareChanged .meter (setPage 0 (line0 :: rest) s)

/-! ## JOB page (R81) -/

def OfferState.isFinal : OfferState → Bool
  | .bidWait | .bidSent | .awarded | .accepting | .held | .heldUnconfirmed => false
  | .ineligible | .suppressed | .missed | .lost | .expired | .withdrawn | .refused | .done => true

def OfferState.isJobHeld : OfferState → Bool
  | .awarded | .accepting | .held | .heldUnconfirmed => true
  | .bidWait | .bidSent | .ineligible | .suppressed | .missed | .lost | .expired | .withdrawn | .refused | .done =>
    false

/-- OFFER for the two open states, otherwise the state's name; HELD_UNCONFIRMED is shown as UNCONFIRMED (R81). -/
def stateWord : OfferState → List Byte
  | .bidWait | .bidSent => word ['O', 'F', 'F', 'E', 'R']
  | .awarded => word ['A', 'W', 'A', 'R', 'D', 'E', 'D']
  | .accepting => word ['A', 'C', 'C', 'E', 'P', 'T', 'I', 'N', 'G']
  | .held => word ['H', 'E', 'L', 'D']
  | .heldUnconfirmed => word ['U', 'N', 'C', 'O', 'N', 'F', 'I', 'R', 'M', 'E', 'D']
  | .ineligible => word ['I', 'N', 'E', 'L', 'I', 'G', 'I', 'B', 'L', 'E']
  | .suppressed => word ['S', 'U', 'P', 'P', 'R', 'E', 'S', 'S', 'E', 'D']
  | .missed => word ['M', 'I', 'S', 'S', 'E', 'D']
  | .lost => word ['L', 'O', 'S', 'T']
  | .expired => word ['E', 'X', 'P', 'I', 'R', 'E', 'D']
  | .withdrawn => word ['W', 'I', 'T', 'H', 'D', 'R', 'A', 'W', 'N']
  | .refused => word ['R', 'E', 'F', 'U', 'S', 'E', 'D']
  | .done => word ['D', 'O', 'N', 'E']

def needWord : VehicleNeed → List Byte
  | .standard => word ['S', 'T', 'A', 'N', 'D', 'A', 'R', 'D']
  | .large => word ['L', 'A', 'R', 'G', 'E']
  | .accessible => word ['A', 'C', 'C', 'E', 'S', 'S', 'I', 'B', 'L', 'E']

/-- The entry the JOB page shows: the job-held one, otherwise the most recent that is not INELIGIBLE for AVAILABILITY
(R81). -/
def jobShown (s : State) : Option OfferEntry :=
  match s.offers.heldJob with
  | some id => s.offers.table.find? fun e => e.id == id
  | none => (s.offers.table.filter fun e =>
      !(e.state == .ineligible && e.reason == some .availability)).getLast?

/-- Line 1: zone and pickup cell, or DIRECT; in AWARDED, the accept timer's remaining seconds (R81). DESIGN CHOICE (unsafe,
log 19): the seconds stand beside the zone and cell or DIRECT, last. -/
def jobLine1 (e : OfferEntry) : List Byte :=
  (match e.zone, e.pickup with
    | some z, some c => digits z ++ [space] ++ digits c.x ++ [space] ++ digits c.y
    | _, _ => word ['D', 'I', 'R', 'E', 'C', 'T'])
  ++ (if e.state = .awarded then e.acceptTimer.elim [] fun n => space :: digits n else [])

/-- Lines 2 and 3: job text, otherwise pickup text, otherwise fare estimate and vehicle need (R81). DESIGN CHOICE (unsafe,
log 19): the estimate is written as units, a point and cents, the form R108 gives a fare. -/
def jobText (e : OfferEntry) : List Byte :=
  match e.jobText with
  | some t => t
  | none =>
    match e.pickupText with
    | some t => t
    | none => e.fareEstimate.elim [] (fun f => money f ++ [space]) ++ e.need.elim [] needWord

def jobLines : Option OfferEntry → List Line
  | none => List.replicate 4 .blank
  | some e =>
    let attr : LineAttr :=
      if e.state = .awarded then .blink else if e.state = .accepting then .inverse else .normal
    [ lineOf (stateWord e.state ++ [space] ++ digits e.id.number) attr,
      lineOf (jobLine1 e) .normal,
      lineOf (jobText e) .normal,
      lineOf ((jobText e).drop 20) .normal ]

/-- The offer engine writes page 1 (R81). -/
def writeJobPage (s : State) : State := setPage 1 (jobLines (jobShown s)) s

/-! ## MESSAGE pages (R158) and NEW to SHOWN (R160) -/

/-- An entry stands on the message pages while NEW or SHOWN (R148). -/
def Message.displayed (m : Message) : Bool := m.state == .new || m.state == .shown

/-- The displayed entries, newest first (R158); the queue is kept newest last. -/
def displayedMessages (s : State) : List Message := (s.msg.queue.filter Message.displayed).reverse

/-- The entry on a message page 2..5 (R158). -/
def messageOn (s : State) (page : Nat) : Option Message :=
  if 2 ≤ page ∧ page ≤ 5 then (displayedMessages s)[page - 2]? else none

def kindWord : MsgKind → List Byte
  | .text => word ['M', 'S', 'G']
  | .priorityText => word ['P', 'R', 'I']
  | .query => word ['Q', 'R', 'Y']

def messageLine0 (m : Message) : Line :=
  let left := padRight 16 (kindWord m.kind ++ [space] ++ digits m.pair.source)
  lineOf (left ++ if m.state = .new then word ['N', 'E', 'W'] else [])
    (if m.state = .new then .blink else if m.kind = .priorityText then .inverse else .normal)

def messageLine3 (m : Message) : List Byte :=
  match m.kind with
  | .text | .priorityText => m.text.drop 40
  | .query =>
    if m.replies.length = 0 then word ['N', 'O', ' ', 'R', 'E', 'P', 'L', 'I', 'E', 'S']
    else word ['R', 'E', 'P', 'L', 'Y', ' ', '1', '-'] ++ digits m.replies.length

def messageLines : Option Message → List Line
  | none => List.replicate 4 .blank
  | some m =>
    [messageLine0 m, lineOf m.text .normal, lineOf (m.text.drop 20) .normal, lineOf (messageLine3 m) .normal]

/-- A NEW entry standing on the lit shown page becomes SHOWN (R160). -/
def newToShown (s : State) : State :=
  match messageOn s s.msg.shown with
  | some m =>
    if s.lit = true ∧ m.state = .new then
      { s with msg.queue := updateWhere (fun e => e.pair == m.pair) (fun e => { e with state := .shown }) s.msg.queue }
    else s
  | none => s

/-- Pages 2 to 5 are composed afresh (R158), after the test of R160 on the composition as it stands. -/
def composeMessages (s : State) : State :=
  let s := newToShown s
  setPage 2 (messageLines (messageOn s 2))
    (setPage 3 (messageLines (messageOn s 3))
      (setPage 4 (messageLines (messageOn s 4)) (setPage 5 (messageLines (messageOn s 5)) s)))

/-- The shown page changes (R159); R160 is applied to it. -/
def showPage (n : Nat) (s : State) : State := composeMessages { s with msg.shown := n }

end Sys2Proof.Machine
end

