-- ==== Sys2Proof/Machine/Flags.lean ====
section
/-! DEFINITION. The fault counts (R16, R17), the link state they name (R18), and the deferral ranges (R9). -/

namespace Sys2Proof.Machine

/-- SFC rises by 8, held at 256 (R16). -/
def sfcRise (n : Nat) : Nat := satAdd 256 n 8

/-- SFC drops by 1, not below 0 (R16). -/
def sfcDrop (n : Nat) : Nat := n - 1

/-- HFC rises by `k`, held at 160 (R17). -/
def hfcRise (k n : Nat) : Nat := satAdd 160 n k

/-- HFC drops by 1, not below 0 (R17). -/
def hfcDrop (n : Nat) : Nat := n - 1

/-- The link state the two counts name (R18). -/
def namedLink (sfc hfc : Nat) : LinkState :=
  if 256 ≤ sfc then .silent
  else if 128 ≤ sfc ∨ 128 ≤ hfc then .passive
  else if 96 ≤ sfc ∨ 96 ≤ hfc then .warned
  else .active

/-- SILENT or RECOVERING: nothing is keyed and nothing is presented (R8, R14, R19, R20). -/
def LinkState.mute (l : LinkState) : Bool := l == .silent || l == .recovering

/-- Bid rank penalty (R18, R66). -/
def linkPenalty (l : LinkState) : Nat :=
  match l with
  | .active => 0
  | .warned => 16
  | .passive | .silent | .recovering => 32

/-- Class order, highest first (R44). -/
def TxClass.rank : TxClass → Nat
  | .emergencyOrigin => 0 | .emergencyRelay => 1 | .bid => 2 | .reply => 3 | .normal => 4 | .beacon => 5

/-- The class's deferral range at the first attempt (R9). A BID draws none. -/
def deferralRange : TxClass → Nat × Nat
  | .emergencyOrigin => (0, 1) | .emergencyRelay => (2, 7) | .bid => (0, 0) | .reply => (2, 9)
  | .normal => (4, 19) | .beacon => (4, 35)

/-- The lower bound in force: 8 more in PASSIVE, 4 more for each attempt made (R9). -/
def deferralLow (link : LinkState) (cls : TxClass) (attempts : Nat) : Nat :=
  (deferralRange cls).1 + (if link = .passive then 8 else 0) + 4 * attempts

/-- How many counts the range holds (R9). -/
def deferralWidth (cls : TxClass) : Nat := (deferralRange cls).2 - (deferralRange cls).1 + 1

/-- A count drawn from the range by the n-th free value (R9). -/
def drawDeferral (n : Nat) (link : LinkState) (cls : TxClass) (attempts : Nat) : Nat :=
  deferralLow link cls attempts + Config.deferralDraw n % deferralWidth cls

/-- A BID's wait for free slots: 1 in the busy case, 1 + 4 a after a attempts (R10). -/
def bidWait (attempts : Nat) : Nat := 1 + 4 * attempts

end Sys2Proof.Machine
end

