-- ==== Sys2Proof/Machine/Scheduler.lean ====
section
/-! DEFINITION. The pending queue and the choice of the next entry (R40 to R46), and the link controller's taking of the
chosen entry (R8, R9, R10). -/

namespace Sys2Proof.Machine

/-! ## Entries -/

def TxPayload.kind : TxPayload → FrameKind
  | .beacon _ _ => .beacon | .bid _ _ _ => .bid | .accept _ => .accept | .refuse _ _ => .refuse
  | .tripReport _ => .tripReport | .receipt _ _ _ => .receipt | .emergency _ _ _ _ => .emergency
  | .emergencyAck _ => .emergencyAck | .data _ => .terminalData

/-- A frame is unicast when its destination is a station (R4). -/
def isStation (dest : Nat) : Bool := decide (1 ≤ dest) && decide (dest ≤ 4000)

def PendEntry.unicast (e : PendEntry) : Bool := isStation e.dest

def PendEntry.isEmergency (e : PendEntry) : Bool := e.cls == .emergencyOrigin || e.cls == .emergencyRelay

/-- Not held by the link controller in an exchange (R47 to R50). -/
def PendEntry.unkeyed (e : PendEntry) : Bool := e.state == .waiting || e.state == .deferring

/-- A WAITING entry that may be chosen: any class but BID, and a BID from its slot to its window end (R44, R45). -/
def PendEntry.candidate (e : PendEntry) : Bool :=
  e.state == .waiting && (e.cls != .bid || (e.eligible && !e.windowEnded))

/-- FLEET and ALL (R4). -/
def destFleet : Nat := 0xFFFE
def destAll : Nat := 0xFFFF

/-- An entry as an owner offers it: WAITING, no attempt, no sequence (R41). -/
def newEntry (owner : Owner) (ref : OwnerRef) (cls : TxClass) (payload : TxPayload) (dest fleet : Nat) : PendEntry :=
  { uid := 0, owner := owner, ref := ref, cls := cls, payload := payload, dest := dest, fleet := fleet, hop := 0,
    relayed := false, seq := none, attempts := 0, state := .waiting, bidWindow := none, eligible := false,
    windowEnded := false, tag := none }

/-! ## The queue -/

def updateEntry (uid : Nat) (f : PendEntry → PendEntry) (s : State) : State :=
  { s with tx.queue := updateWhere (fun e => e.uid == uid) f s.tx.queue }

/-- The entry's place is freed (R46). -/
def dequeue (uid : Nat) (s : State) : State :=
  { s with tx.queue := s.tx.queue.filter fun e => e.uid != uid }

def findEntry (uid : Nat) (s : State) : Option PendEntry := s.tx.queue.find? fun e => e.uid == uid

/-- The entry the link controller holds: the one that is not WAITING (R43). -/
def heldEntry (s : State) : Option PendEntry := s.tx.queue.find? fun e => e.state != .waiting

/-! ## The channel -/

/-- The channel is free while there is no carrier, own or other, no gap runs (R3), and the listen-in is over (R22). -/
def channelFree (s : State) : Bool :=
  s.link.slotClock && !s.link.carrier && !s.link.keyed && s.link.gap.isNone && s.link.listenIn.isNone

/-- The link controller takes presentations (R8, R22). -/
def canPresent (s : State) : Bool :=
  s.link.slotClock && !s.link.state.mute && s.link.listenIn.isNone

/-! ## Choosing and presenting (R44, R8) -/

/-- The highest class, and within it the entry that joined first (R44). -/
def choose (q : List PendEntry) : Option PendEntry :=
  (q.filter PendEntry.candidate).foldl
    (fun best e =>
      match best with
      | none => some e
      | some b => if e.cls.rank < b.cls.rank then some e else some b)
    none

/-- The link controller takes an entry: a deferral count is drawn (R9), or a BID's wait is set (R10). `boundary` says that
the channel is free at a slot boundary that is now, so that the count starts here. -/
def present (e : PendEntry) (boundary : Bool) (s : State) : State :=
  let s := updateEntry e.uid (fun e => { e with state := .deferring }) s
  if e.cls = .bid then
    { s with link.side := .deferring, link.deferral := some ⟨bidWait e.attempts, boundary⟩ }
  else
    { s.useFree with
      link.side := .deferring
      link.deferral := some ⟨drawDeferral s.free s.link.state e.cls e.attempts, boundary⟩ }

/-- An access opportunity (R8): the link controller is IDLE and takes what the scheduler chooses (R44). -/
def accessOpportunity (boundary : Bool) (s : State) : State :=
  if canPresent s && s.link.side == .idle then
    match choose s.tx.queue with
    | some e => present e boundary s
    | none => s
  else s

/-- The entry in DEFERRING goes back to WAITING in its place, its count discarded (R8, R46). -/
def handBackDeferring (s : State) : State :=
  if s.link.side = .deferring then
    { s with
      link.side := .idle
      link.deferral := none
      tx.queue := updateWhere (fun e => e.state == .deferring) (fun e => { e with state := .waiting }) s.tx.queue }
  else s

/-- A candidate of a higher class than the held entry's displaces it (R8, R44). -/
def displace (boundary : Bool) (s : State) : State :=
  match heldEntry s, choose s.tx.queue with
  | some h, some e =>
    if s.link.side = .deferring ∧ canPresent s = true ∧ e.cls.rank < h.cls.rank then
      accessOpportunity boundary (handBackDeferring s)
    else s
  | _, _ => s

/-- The channel has become free at a slot boundary (R3): a count that waited for it starts, or an access opportunity
arises (R8). DESIGN CHOICE (unsafe, log 55): every SLOT_BOUNDARY after this event is a later boundary, which counts (R9). -/
def channelBecomesFree (s : State) : State :=
  if channelFree s then
    match s.link.deferral with
    | some d => { s with link.deferral := some { d with started := true } }
    | none => accessOpportunity true s
  else s

/-! ## Offering an entry (R41) -/

/-- The scheduler's answer to an offer. -/
inductive OfferAnswer where
  | joined (uid : Nat)
  | full
  | link
  deriving DecidableEq, Repr

/-- Entries of the classes that share the 18 places (R41). -/
def ordinaryCount (q : List PendEntry) : Nat := (q.filter fun e => !e.isEmergency).length

def refusedFull (q : List PendEntry) (cls : TxClass) : Bool :=
  decide (Config.pendingCapacity ≤ q.length)
    || (cls != .emergencyOrigin && cls != .emergencyRelay && decide (Config.pendingOrdinary ≤ ordinaryCount q))

def refusedLink (l : LinkState) (cls : TxClass) : Bool :=
  match cls with
  | .emergencyRelay => l.mute || l == .passive
  | .bid | .beacon => l.mute
  | .emergencyOrigin | .reply | .normal => false

/-- An entry joins WAITING with no attempt made; while the channel is free that makes an access opportunity, and over a
lower class in DEFERRING it is presented at once (R41, R8, R44). -/
def joinEntry (e : PendEntry) (s : State) : State :=
  let e := { e with uid := s.nextUid, state := .waiting, attempts := 0, seq := none }
  let s := { s with nextUid := s.nextUid + 1, tx.queue := s.tx.queue ++ [e] }
  if s.link.side = .idle then (if channelFree s then accessOpportunity false s else s)
  else displace false s

/-- An owner offers an entry; it joins or is refused with its reason (R41). -/
def offerEntry (e : PendEntry) (s : State) : State × OfferAnswer :=
  if refusedFull s.tx.queue e.cls then (s, .full)
  else if refusedLink s.link.state e.cls then (s, .link)
  else (joinEntry e s, .joined s.nextUid)

end Sys2Proof.Machine
end

