-- ==== Sys2Proof/Machine/Store.lean ====
section
/-! DEFINITION. The totals store (chapter 7): sectors and records, the write queue, writing, the sector swap, and the
repairs of the start-up scan. Time-driven completions are commands; here is what each starts next. -/

namespace Sys2Proof.Machine

/-! ## Records and sectors (R129, R130) -/

/-- Length in slots (R130). -/
def RecordBody.slots : RecordBody → Nat
  | .trip t => 3 + (t.extras.length + 3) / 4
  | .checkpoint _ | .totalizer _ _ | .shift _ _ | .alarmOpen _ => 2
  | .uploadDone _ | .alarmClear _ | .carryDone _ _ => 1

def Record.slots (r : Record) : Nat := r.body.slots

def Group.need (g : Group) : Nat := (g.records.map RecordBody.slots).sum

def sectorOf (s : State) (n : Nat) : Sector := s.store.sectors.getD (n - 1) .fresh

def updateSector (n : Nat) (f : Sector → Sector) (s : State) : State :=
  { s with store.sectors := s.store.sectors.set (n - 1) (f (sectorOf s n)) }

/-- The numbers of the sectors in rotation, ascending (R129, R141). -/
def rotation (s : State) : List Nat :=
  [1, 2, 3, 4].filter fun n => decide (n ≤ s.store.sectors.length) && !(sectorOf s n).fault

def Header.seq : Header → Option Nat
  | .carrying n | .active n | .full n => some n
  | .bad | .erased => none

def Header.isActive : Header → Bool
  | .active _ => true
  | _ => false

def Header.isFull : Header → Bool
  | .full _ => true
  | _ => false

def Header.isCarrying : Header → Bool
  | .carrying _ => true
  | _ => false

def headerOf (s : State) (n : Nat) : Header := (sectorOf s n).header

def seqOf (s : State) (n : Nat) : Nat := (headerOf s n).seq.getD 0

def sectorsWith (p : Header → Bool) (s : State) : List Nat := (rotation s).filter fun n => p (headerOf s n)

/-- The ACTIVE sector. DESIGN CHOICE (unsafe, log 74): of two, between the header writes of a swap's step 3, the one with the lower
number (R137). -/
def activeSector (s : State) : Option Nat := (sectorsWith Header.isActive s).head?

/-- The ERASED sector with the lowest number (R135). -/
def spareSector (s : State) : Option Nat := (sectorsWith (fun h => h == .erased) s).head?

/-- The sector of a list with the lowest sequence number. -/
def oldestOf (s : State) (l : List Nat) : Option Nat :=
  l.foldl
    (fun best n =>
      match best with
      | none => some n
      | some b => if seqOf s n < seqOf s b then some n else some b)
    none

/-- The FULL sector with the lowest sequence number (R137, R142). -/
def oldestFull (s : State) : Option Nat := oldestOf s (sectorsWith Header.isFull s)

/-- One above a write number or a sequence number. DESIGN CHOICE (safe, log 26): past 4294967295, where R129 and R130 end both,
the `free`-th free value, within 1..4294967295. -/
def oneAbove (free n : Nat) : Nat := if n < 4294967295 then n + 1 else 1 + Config.numberPastEnd free % 4294967295

/-- One above the highest sequence number held by any header in rotation (R129). -/
def nextSeq (s : State) : Nat := oneAbove s.free (((rotation s).map (seqOf s)).foldl max 0)

/-- How many slots of the last record of a sector are missing, when it was cut short. -/
def missingSlots : Nat → List Slot → Nat
  | 0, _ => 0
  | fuel + 1, .head r :: rest =>
    if rest.length < r.slots - 1 then r.slots - 1 - rest.length
    else missingSlots fuel (rest.drop (r.slots - 1))
  | fuel + 1, _ :: rest => missingSlots fuel rest
  | _, [] => 0

/-- A record is being written into a sector: the slots it still needs are on their way. -/
def writingInto (s : State) (n : Nat) : Bool := s.store.inProgress && s.store.record.any fun w => w.sector == n

/-- The slots a record cut short by a hold or a power loss left unwritten, which count as used (R129, R140). -/
def cutSlots (s : State) (n : Nat) : Nat :=
  if writingInto s n then 0 else missingSlots (sectorOf s n).slots.length (sectorOf s n).slots

/-- Next free slot of a sector: the slot after its last used one (R129, R143). -/
def usedSlots (s : State) (n : Nat) : Nat := (sectorOf s n).slots.length + cutSlots s n

def freeSlots (s : State) (n : Nat) : Nat := Config.sectorSlots - usedSlots s n

/-- Free slots of the ACTIVE sector (R129, R146). DESIGN CHOICE (unsafe, log 74): 0 when there is no ACTIVE sector. -/
def activeFree (s : State) : Nat := (activeSector s).elim 0 (freeSlots s)

/-- Supply-low holds the store (R139). -/
def State.held (s : State) : Bool := s.store.supplyLow

/-! ## Reading a sector (R143) -/

/-- The records of groups written whole, slot by slot from slot 0; `group` is the open group (R143). -/
def readSlots : Nat → List Slot → List Record → List Record
  | 0, _, _ => []
  | _, [], _ => []
  | _, .blank :: _, _ => []
  | _, .unreadable :: _, _ => []
  | _, .tail :: _, _ => []
  | fuel + 1, .head r :: rest, group =>
    let n := r.slots - 1
    let after := rest.drop n
    if (rest.take n).length = n ∧ (rest.take n).all (fun x => x == .tail) = true then
      let group :=
        if r.position = 1 then [r]
        else if group ≠ [] ∧ r.position = group.length + 1 then group ++ [r]
        else []
      if r.groupEnd = true ∧ group ≠ [] then group ++ readSlots fuel after []
      else readSlots fuel after group
    else readSlots fuel after []

/-- The records accepted from one sector (R143). -/
def acceptedIn (s : State) (n : Nat) : List Record :=
  let slots := (sectorOf s n).slots
  readSlots (slots.length + 1) slots []

def Record.isCarryDone (r : Record) : Bool :=
  match r.body with
  | .carryDone _ _ => true
  | _ => false

/-- Insert by write number; of two copies with one write number one is kept, a HISTORY_COPY before another, since it says
that its trip is settled (R143, R144). -/
def insertRecord (r : Record) : List Record → List Record
  | [] => [r]
  | a :: l =>
    if r.writeNo < a.writeNo then r :: a :: l
    else if r.writeNo = a.writeNo then (if a.carry = .historyCopy then a :: l else r :: l)
    else a :: insertRecord r l

/-- Records of some sectors, merged and ordered by write number, oldest first (R143). -/
def recordsIn (s : State) (ns : List Nat) : List Record :=
  (ns.flatMap (acceptedIn s)).foldl (fun l r => if r.isCarryDone then l else insertRecord r l) []

/-- The records of every ACTIVE and FULL sector in rotation (R135, R143). -/
def allRecords (s : State) : List Record := recordsIn s (sectorsWith (fun h => h.isActive || h.isFull) s)

/-! ## Kinds of records in a list ordered oldest first -/

def Record.trip? (r : Record) : Option TripRecord :=
  match r.body with
  | .trip t => some t
  | _ => none

def Record.isTotalizer (r : Record) : Bool :=
  match r.body with
  | .totalizer _ _ => true
  | _ => false

def Record.isShift (r : Record) : Bool :=
  match r.body with
  | .shift _ _ => true
  | _ => false

def Record.isCheckpoint (r : Record) : Bool :=
  match r.body with
  | .checkpoint _ => true
  | _ => false

def Record.isTripOf (n : Nat) (r : Record) : Bool :=
  match r.body with
  | .trip t => t.number == n
  | _ => false

def Record.alarmOpen? (r : Record) : Option AlarmOpenRecord :=
  match r.body with
  | .alarmOpen a => some a
  | _ => none

def Record.isClearOf (n : Nat) (r : Record) : Bool :=
  match r.body with
  | .alarmClear m => m == n
  | _ => false

/-- The newest record of a kind (R130). -/
def newest (p : Record → Bool) (rs : List Record) : Option Record := (rs.filter p).getLast?

/-- The newest ALARM_OPEN, when no ALARM_CLEAR of its alarm number with a higher write number stands (R135). -/
def openAlarm (rs : List Record) : Option Record :=
  match newest (fun r => r.alarmOpen?.isSome) rs with
  | some r =>
    match r.alarmOpen? with
    | some a => if rs.any (fun c => c.isClearOf a.number && decide (r.writeNo < c.writeNo)) then none else some r
    | none => none
  | none => none

/-! ## The upload list that some records stand for (R127, R144) -/

/-- An UPLOAD_DONE settles the newest listed TRIP of its number that stands before it (R127). -/
def settleUpload (n : Nat) (l : List TripRecord) : List TripRecord :=
  match (l.reverse.findIdx? fun t => t.number == n) with
  | some i => (l.reverse.eraseIdx i).reverse
  | none => l

/-- One record, oldest first, on the list of TRIP records still to upload (R127, R144). -/
def uploadStep (l : List TripRecord) (r : Record) : List TripRecord :=
  match r.body with
  | .trip t => if t.upload = .unsent ∧ r.carry ≠ .historyCopy then l ++ [t] else l
  | .uploadDone n => settleUpload n l
  | _ => l

def uploadsFrom (rs : List Record) : List TripRecord := rs.foldl uploadStep []

/-- The trips of the upload list; during the scan, of the list its records stand for (R135, R142 item 4). -/
def listedTrips (s : State) (rs : List Record) : List TripRecord :=
  if s.store.scan.isSome then uploadsFrom rs else s.trips.uploads.map (·.trip)

/-- The record is a listed trip's own: recorded UNSENT, not settled, with the trip's contents (R116, R121, R144). -/
def Record.standsFor (t : TripRecord) (r : Record) : Bool :=
  r.trip? == some { t with upload := .unsent } && r.carry != .historyCopy

/-- A listed trip's own TRIP record. DEDUCED (safe, log 53): the newest TRIP record of its number (R135) that is this trip's, not
that of another trip under the same number (R121). -/
def listedRecord (rs : List Record) (t : TripRecord) : Option Record := newest (Record.standsFor t) rs

/-! ## What a swap carries (R135, R136) -/

def essentialCopy (r : Record) : Record := { r with position := 1, groupEnd := true, carry := .essentialCopy }

def historyCopy (r : Record) : Record := { r with position := 1, groupEnd := true, carry := .historyCopy }

/-- The ESSENTIAL records, in the order of R135. -/
def essentials (listed : List TripRecord) (rs : List Record) : List Record :=
  (newest Record.isTotalizer rs).toList ++ (newest Record.isShift rs).toList
    ++ (newest Record.isCheckpoint rs).toList
    ++ listed.filterMap (listedRecord rs) ++ (openAlarm rs).toList

/-- HISTORY by R130's table: a TRIP that is no listed trip's own, also one under a listed trip's number (R121), and an ALARM_OPEN
or ALARM_CLEAR that is not the open alarm. -/
def isHistory (listed : List TripRecord) (rs : List Record) (r : Record) : Bool :=
  match r.body with
  | .trip _ => listed.all fun t => (listedRecord rs t).all fun o => o.writeNo != r.writeNo
  | .alarmOpen _ => (openAlarm rs).all fun o => o.writeNo != r.writeNo
  | .alarmClear _ => true
  | _ => false

/-- The candidate a HISTORY record makes: a TRIP, or an ALARM_OPEN with the first ALARM_CLEAR of its number after it; an
ALARM_CLEAR goes with its ALARM_OPEN (R136). -/
def candidateOf (listed : List TripRecord) (rs : List Record) (r : Record) : List Record :=
  if isHistory listed rs r then
    match r.body with
    | .trip _ => [r]
    | .alarmOpen a => r :: (rs.find? fun c => c.isClearOf a.number && decide (r.writeNo < c.writeNo)).toList
    | _ => []
  else []

def candidateNo (c : List Record) : Nat := (c.map (·.writeNo)).foldl max 0

def insertCandidate (c : List Record) : List (List Record) → List (List Record)
  | [] => [c]
  | a :: l => if candidateNo a < candidateNo c then c :: a :: l else a :: insertCandidate c l

/-- The candidates, newest first by the newer record of a pair (R136). -/
def historyCandidates (listed : List TripRecord) (rs : List Record) : List (List Record) :=
  ((rs.map (candidateOf listed rs)).filter fun c => !c.isEmpty).foldl (fun l c => insertCandidate c l) []

def slotsOf (rs : List Record) : Nat := (rs.map Record.slots).sum

/-! ## Starting physical work. Work that a hold keeps from starting stays due (R139, R140). -/

/-- The next slot of a record is to be written. -/
def beginRecord (r : Record) (sector : Nat) (s : State) : State :=
  { s with store.record := some ⟨r, sector, 0⟩, store.inProgress := !s.held }

def beginHeader (n : Nat) (h : Header) (s : State) : State :=
  { s with store.headerWrite := some ⟨n, h⟩, store.inProgress := !s.held }

/-- An erase starts; from then on the sector counts as half erased until it completes (R139, R142 item 1). DESIGN CHOICE (unsafe,
log 49): in a hold it stays due and the activity shown is ERASING. -/
def beginErase (n : Nat) (s : State) : State :=
  let s := { s with store.erasing := some n, store.inProgress := !s.held, store.activity := .erasing }
  if s.held then s else updateSector n (fun c => { c with eraseBegun := true }) s

/-- The store writes nothing more (R141). -/
def haltStore (s : State) : State :=
  raise .storeFault .store
    { s with store.activity := .halted, store.record := none, store.rest := [], store.headerWrite := none,
             store.erasing := none, store.inProgress := false, store.swap := none }

/-! ## Swap (R135 to R137) -/

/-- Step 1: the CARRYING header of the ERASED sector with the lowest number. With no ERASED sector a FULL one is erased
to make a spare (DEDUCED, safe, log 33); when none can be made the store is HALTED (R135, R141). -/
def beginSwap (s : State) : State :=
  match spareSector s with
  | some n =>
    let seq := nextSeq s
    beginHeader n (.carrying seq)
      { s.useFree with
        store.activity := .swapping
        store.swap := some { target := n, seq := seq, old := activeSector s, step := .newHeader, toCopy := [],
                             candidates := [], copied := 0 } }
  | none =>
    match oldestFull s with
    | some n => beginErase n s
    | none => haltStore s

/-! ## The head group's turn (R134) -/

/-- The write number `i` records after one that takes `first` (R130). -/
def writeNoAfter (free first : Nat) : Nat → Nat
  | 0 => first
  | i + 1 => oneAbove (free + i) (writeNoAfter free first i)

/-- The records of a group with their write numbers, positions and group-end mark (R130, R131). -/
def numberRecords (free first : Nat) (bodies : List RecordBody) : List Record :=
  bodies.mapIdx fun i b =>
    { body := b, writeNo := writeNoAfter free first i, position := i + 1, groupEnd := decide (i + 1 = bodies.length),
      carry := .original }

/-- The head group is written when it fits in the ACTIVE sector; otherwise the store swaps first (R134). DESIGN CHOICE (unsafe,
log 49): in a hold, with nothing in progress, it is not begun and the activity shown is IDLE (R139). -/
def startHead (s : State) : State :=
  match s.store.queue with
  | [] => { s with store.activity := .idle }
  | g :: gs =>
    if s.held then { s with store.activity := .idle }
    else
      match activeSector s with
      | some n =>
        if g.need ≤ freeSlots s n then
          match numberRecords s.free s.store.writeCounter g.records with
          | [] => { s with store.activity := .idle }
          | r :: rs =>
            beginRecord r n
              { s with
                free := s.free + g.records.length
                store.queue := { g with writing := true } :: gs
                store.activity := .writing
                store.writeCounter := writeNoAfter s.free s.store.writeCounter g.records.length
                store.rest := rs }
        else beginSwap s
      | none => beginSwap s

/-! ## The start-up scan's repairs (R142, R145) -/

def markRepaired (s : State) : State :=
  { s with store.scan := s.store.scan.map fun c => { c with repaired := true } }

/-- A sector whose header fails its check, or whose erase was abandoned (R142 item 1). DESIGN CHOICE (unsafe, log 57): of several
the one with the lowest number is erased first. -/
def unreadableSector (s : State) : Option Nat :=
  (rotation s).find? fun n => headerOf s n == .bad || (sectorOf s n).eraseBegun

/-- CARRYING sectors that hold a CARRY_DONE carrying their own sequence number (R142 item 3). -/
def carryComplete (s : State) (n : Nat) : Bool :=
  (acceptedIn s n).any fun r =>
    match r.body with
    | .carryDone seq _ => decide (seq = seqOf s n)
    | _ => false

/-- Formatting goes on: the next erase, then the ACTIVE header of the lowest sector that verified (R145). DESIGN CHOICE (unsafe,
log 50): during that header write the activity is SWAPPING (R134). -/
def formatNext (s : State) : State :=
  match s.store.scan with
  | some c =>
    match c.formatting with
    | some (n :: ns) => beginErase n { s with store.scan := some { c with formatting := some ns } }
    | some [] =>
      match spareSector s with
      | some n => beginHeader n (.active 1) { s with store.activity := .swapping }
      | none => haltStore { s with store.scan := some { c with formatted := true } }
    | none => s
  | none => s

/-- The next repair, in the order of R142's items, or formatting, or nothing. DESIGN CHOICE (unsafe, log 50): during the header
writes of items 2 and 3 the activity is SWAPPING (R134). DESIGN CHOICE (unsafe, log 52): when item 4's erase does not verify and
no sector is ERASED or FULL, the swap is not made again and the store is IDLE, with no STORE_FAULT for the store. DESIGN CHOICE
(unsafe, log 57): formatting erases the sectors in rotation in the order of their numbers (R145). DESIGN CHOICE (unsafe, log 75): a
repair counts for the start-up result as it begins, whatever its erase comes to. DESIGN CHOICE (unsafe, log 80): where the swap of
item 4 or 5 finds no ERASED sector and a FULL one stands, item 6's erase of the oldest FULL one is made first and the store is not
HALTED (R141); with item 5 and a sole FULL sector nothing is then left to copy and the store formats itself. -/
def nextRepair (s : State) : State :=
  let actives := sectorsWith Header.isActive s
  let carrying := sectorsWith Header.isCarrying s
  let anyFull := !(sectorsWith Header.isFull s).isEmpty
  match unreadableSector s with
  | some n => beginErase n (markRepaired s)
  | none =>
    if 2 ≤ actives.length then
      match oldestOf s actives with
      | some n => beginHeader n (.full (seqOf s n)) { markRepaired s with store.activity := .swapping }
      | none => s
    else
      match carrying.find? (carryComplete s) with
      | some n => beginHeader n (.active (seqOf s n)) { markRepaired s with store.activity := .swapping }
      | none =>
        match carrying.head? with
        | some n =>
          beginErase n
            { markRepaired s with store.scan := s.store.scan.map fun c => { c with repaired := true, redoSwap := true } }
        | none =>
          if (((s.store.scan.elim false (·.redoSwap)) && (anyFull || !actives.isEmpty)) || (actives.isEmpty && anyFull))
              && (spareSector s).isSome then
            beginSwap
              { markRepaired s with store.scan := s.store.scan.map fun c => { c with repaired := true, redoSwap := false } }
          else if (spareSector s).isNone && anyFull then
            match oldestFull s with
            | some n => beginErase n (markRepaired s)
            | none => s
          else if actives.isEmpty && !anyFull then
            formatNext { s with store.scan := s.store.scan.map fun c => { c with formatting := some (rotation s) } }
          else { s with store.activity := .idle }

/-- What comes when no step of a swap or a group is left: the scan's next repair or the head group. -/
def continueStore (s : State) : State :=
  match s.store.scan with
  | some c => if c.formatting.isSome then formatNext s else nextRepair s
  | none => startHead s

/-! ## Swap, later steps -/

/-- The swap is complete (R137). -/
def swapComplete (s : State) : State :=
  continueStore (raise .storeEvent .store { s with store.swap := none })

def setStep (sw : Swap) (step : SwapStep) (s : State) : State :=
  { s with store.swap := some { sw with step := step }, store.activity := .swapping }

/-- Step 4: with no ERASED sector in rotation the oldest FULL one is erased (R137, R141). -/
def swapErase (sw : Swap) (s : State) : State :=
  if (spareSector s).isNone then
    match oldestFull s with
    | some n => beginErase n (setStep sw .erase s)
    | none => swapComplete s
  else swapComplete s

/-- The old ACTIVE sector's header is set to FULL (R137). -/
def swapHeaderFull (sw : Swap) (s : State) : State :=
  match sw.old with
  | some n => beginHeader n (.full (seqOf s n)) (setStep sw .headerFull s)
  | none => swapErase sw s

/-- The new sector's header is set to ACTIVE (R137). -/
def swapHeaderActive (sw : Swap) (s : State) : State :=
  beginHeader sw.target (.active sw.seq) (setStep sw .headerActive s)

/-- Step 3: CARRY_DONE goes into the next free slot (R137). -/
def swapCarryDone (sw : Swap) (s : State) : State :=
  beginRecord { body := .carryDone sw.seq sw.copied, writeNo := 0, position := 1, groupEnd := true, carry := .original }
    sw.target (setStep sw .carryDone s)

/-- Copy a record into the new sector. DEDUCED (safe, log 25): when holds have used up the sector so that it does not fit
with the CARRY_DONE, the store is HALTED. -/
def copyRecord (r : Record) (sw : Swap) (s : State) : State :=
  if usedSlots s sw.target + r.slots + 1 ≤ Config.sectorSlots then
    beginRecord r sw.target { s with store.swap := some sw, store.activity := .swapping }
  else haltStore s

/-- The history carry: candidates newest first, while 64 slots stay free after the candidate and the CARRY_DONE (R136). -/
def swapHistory (sw : Swap) (s : State) : State :=
  match sw.candidates with
  | [] => swapCarryDone { sw with step := .history } s
  | c :: cs =>
    if usedSlots s sw.target + slotsOf c + 1 + Config.historyReserve ≤ Config.sectorSlots then
      match c.map historyCopy with
      | r :: rest => copyRecord r { sw with step := .history, toCopy := rest, candidates := cs } s
      | [] => swapCarryDone { sw with step := .history } s
    else swapCarryDone { sw with step := .history, candidates := [] } s

/-- The next record of a carry. -/
def swapCopyNext (sw : Swap) (s : State) : State :=
  match sw.toCopy with
  | r :: rest => copyRecord r { sw with toCopy := rest } s
  | [] => swapHistory sw s

/-- Step 2: the selection is made at its start and not revised (R135, R138). -/
def swapSelect (sw : Swap) (s : State) : State :=
  let rs := allRecords s
  let listed := listedTrips s rs
  let history := s.store.historyCarry || s.store.scan.isSome
  swapCopyNext
    { sw with step := .essential, toCopy := (essentials listed rs).map essentialCopy,
              candidates := if history then historyCandidates listed rs else [] } s

/-! ## Completions -/

/-- HISTORY records of a sector whose write number stands in no other sector in rotation (R136). -/
def historyLost (s : State) (n : Nat) : Nat :=
  let rs := allRecords s
  let listed := listedTrips s rs
  let others := recordsIn s ((rotation s).filter fun m => m != n)
  ((recordsIn s [n]).filter fun r => isHistory listed rs r && others.all fun o => o.writeNo != r.writeNo).length

/-- The history-dropped count as a sector is erased at step 4; STORE_EVENT is raised when it rises, which it does not while it
is held at 65535 (R136). -/
def countDropped (n : Nat) (s : State) : State :=
  let count := satAdd 65535 s.store.dropped (historyLost s n)
  if count = s.store.dropped then s else raise .storeEvent .store { s with store.dropped := count }

/-- One slot of the record in progress stands written. -/
def putSlot (w : RecordWrite) (s : State) : State :=
  updateSector w.sector
    (fun c => { c with slots := c.slots ++ [if w.written = 0 then .head w.record else .tail] }) s

/-- A header stands written. -/
def putHeader (h : HeaderWrite) (s : State) : State :=
  updateSector h.sector (fun c => { c with header := h.header }) { s with store.headerWrite := none, store.inProgress := false }

/-- A header write completes: the swap, the formatting or the repairs go on (R135, R137, R142, R145). -/
def headerDone (h : HeaderWrite) (s : State) : State :=
  let s := putHeader h s
  match s.store.swap with
  | some sw =>
    match sw.step with
    | .newHeader => swapSelect sw s
    | .headerActive => swapHeaderFull sw s
    | .headerFull => swapErase sw s
    | .essential | .history | .carryDone | .erase => s
  | none =>
    match s.store.scan with
    | some c =>
      if c.formatting.isSome then
        { s with store.scan := some { c with formatted := true }, store.writeCounter := 1, store.activity := .idle }
      else nextRepair s
    | none => startHead s

/-- An erase completes: it verifies and the sector becomes ERASED, or the sector leaves rotation (R137, R141). DESIGN CHOICE
(unsafe, log 37): of its notices the history-dropped count's STORE_EVENT comes first and the end of the swap's last. DESIGN CHOICE
(unsafe, log 65): a sector that leaves rotation goes on showing the state and the sequence number it had before the erase. -/
def eraseDone (n : Nat) (verified : Bool) (s : State) : State :=
  let full := (headerOf s n).isFull
  let s := if full then countDropped n s else s
  let s := { s with store.erasing := none, store.inProgress := false }
  let s :=
    if verified then updateSector n (fun c => { c with header := .erased, slots := [], eraseBegun := false }) s
    else raise .storeFault (.sector n) (updateSector n (fun c => { c with fault := true }) s)
  match s.store.swap with
  | some sw => swapErase sw s
  | none => continueStore s

/-- A record of a carry, or the CARRY_DONE, stands written: the swap goes on (R135 to R137). -/
def carriedDone (sw : Swap) (s : State) : State :=
  match sw.step with
  | .essential | .history => swapCopyNext { sw with copied := sw.copied + 1 } s
  | .carryDone => swapHeaderActive sw s
  | .newHeader | .headerActive | .headerFull | .erase => s

/-! ## Offering a group (R132, R133) -/

inductive StoreAnswer where
  | joined
  | full
  | sectorFault
  deriving DecidableEq, Repr

def Group.isWaitingCheckpointOf (k : GroupKind) (g : Group) : Bool :=
  match k with
  | .checkpoint _ => g.kind == k && !g.writing
  | _ => false

/-- A group that joins while the store is IDLE starts its write on the same event (R132, R134). -/
def kickStore (s : State) : State :=
  if s.store.activity = .idle ∧ s.store.scan = none then startHead s else s

/-- An owner offers a group, tested in the order of R132's table; a waiting checkpoint of the same trip is replaced
(R133). DESIGN CHOICE (unsafe, log 51): so is one that is the head group of a swap, and the new one joins at the tail (R138). -/
def offerGroup (kind : GroupKind) (records : List RecordBody) (s : State) : State × StoreAnswer :=
  if (rotation s).length < 3 then (s, .sectorFault)
  else if s.store.queue.any (Group.isWaitingCheckpointOf kind) then
    let kept := s.store.queue.filter fun g => !g.isWaitingCheckpointOf kind
    (kickStore { s with store.queue := kept ++ [⟨kind, records, false⟩] }, .joined)
  else if Config.writeCapacity ≤ s.store.queue.length then (s, .full)
  else (kickStore { s with store.queue := s.store.queue ++ [⟨kind, records, false⟩] }, .joined)

end Sys2Proof.Machine
end

