-- ==== Sys2Proof/Machine/Owners.lean ====
section
/-! DEFINITION. What each owner does with the scheduler's result of one of its entries (R46): the offer engine (R68, R70, R75,
R76), the trip recorder (R122, R123), the message unit (R155), the emergency controller (R171, R176, R182) and the
terminal port (R57); and the retraction handshake (R50 to R52). -/

namespace Sys2Proof.Machine

/-! ## Offer engine: one change of an entry (R61, R63, R71, R77, R81) -/

def findOffer (id : OfferId) (s : State) : Option OfferEntry := s.offers.table.find? fun e => e.id == id

/-- The award timer runs in BID_SENT alone and the accept timer in AWARDED alone (R71, R77). -/
def stopTimers (e : OfferEntry) : OfferEntry :=
  { e with awardTimer := if e.state = .bidSent then e.awardTimer else none,
           acceptTimer := if e.state = .awarded then e.acceptTimer else none }

/-- The held-job reference names the entry that is in a job-held state (R63). -/
def heldAfter (id : OfferId) (state : OfferState) (held : Option OfferId) : Option OfferId :=
  if state.isJobHeld then some id else if held = some id then none else held

/-- An entry changes: its timers follow its state, the held-job reference follows it, a change of state raises
OFFER_CHANGED, and the JOB page is rewritten. -/
def updateOffer (id : OfferId) (f : OfferEntry → OfferEntry) (s : State) : State :=
  match findOffer id s with
  | none => s
  | some e =>
    let e' := stopTimers (f e)
    let s := { s with
      offers.table := updateWhere (fun a => a.id == id) (fun _ => e') s.offers.table
      offers.heldJob := heldAfter id e'.state s.offers.heldJob }
    writeJobPage (if e'.state = e.state then s else raise .offerChanged (.offer id) s)

/-- The entry one of whose queued frames a result belongs to (R60). -/
def offerOfFrame (uid : Nat) (s : State) : Option OfferEntry :=
  s.offers.table.find? fun e => e.bidFrame.any (·.uid == uid) || e.replyFrame.any (·.uid == uid)

/-- The state of an entry in BID_WAIT after its BID's result, by the recorded reason (R68, R70). -/
def bidResultState (reason : Option RetractReason) (o : TxOutcome) : OfferState × Option OfferReason :=
  match reason with
  | none =>
    match o with
    | .delivered => (.bidSent, none)
    | .noLack | .removed | .retracted | .broadcastSent => (.missed, none)
  | some .suppression =>
    match o with
    | .delivered => (.bidSent, none)
    | .noLack => (.missed, none)
    | .removed | .retracted | .broadcastSent => (.suppressed, none)
  | some .meter => (.ineligible, some .meter)
  | some .alarm => (.ineligible, some .alarm)
  | some .award | some .withdraw => (.bidWait, none)

/-- A BID's result: the frame is cleared, and an entry in BID_WAIT moves by the table of R68 or R70. -/
def bidResult (awardTimeout : Nat) (o : TxOutcome) (e : OfferEntry) : OfferEntry :=
  let reason := e.bidFrame.bind (·.reason)
  let e := { e with bidFrame := none }
  if e.state = .bidWait then
    let r := bidResultState reason o
    { e with state := r.1, reason := r.2, awardTimer := if r.1 = .bidSent then some awardTimeout else none }
  else e

/-- An ACCEPT's or a REFUSE's result: the last reply outcome, and ACCEPTING is left (R75, R76). -/
def replyResult (isAccept : Bool) (o : TxOutcome) (e : OfferEntry) : OfferEntry :=
  let e := { e with replyFrame := none, lastReply := some o }
  if isAccept ∧ e.state = .accepting then
    match o with
    | .delivered => { e with state := .held }
    | .noLack => { e with state := .heldUnconfirmed }
    | .broadcastSent | .retracted | .removed => e
  else e

/-- The offer engine acts on a result; one that finds no entry is discarded (R62). -/
def offerResult (r : TxResult) (s : State) : State :=
  match offerOfFrame r.entry.uid s with
  | none => s
  | some e =>
    if e.bidFrame.any (·.uid == r.entry.uid) then
      updateOffer e.id (bidResult s.offers.awardTimeout r.outcome) s
    else updateOffer e.id (replyResult (r.entry.payload.kind == .accept) r.outcome) s

/-! ## Trip recorder (R122, R123) -/

def setUpload (n : Nat) (st : UploadState) (s : State) : State :=
  raise .uploadChanged (.trip n)
    { s with trips.uploads :=
        updateWhere (fun u => u.trip.number == n) (fun u => { u with trip.upload := st }) s.trips.uploads }

def findUpload (n : Nat) (s : State) : Option UploadEntry := s.trips.uploads.find? fun u => u.trip.number == n

/-- An UPLOAD_DONE group is offered, or stays owed (R123). -/
def offerUploadDone (n : Nat) (s : State) : State :=
  let (s, a) := offerGroup (.uploadDone n) [.uploadDone n] s
  { s with trips.uploads :=
      updateWhere (fun u => u.trip.number == n) (fun u => { u with doneOwed := a != .joined }) s.trips.uploads }

/-- A TRIP_REPORT's result (R122). -/
def tripResult (r : TxResult) (s : State) : State :=
  match r.entry.ref with
  | .trip n =>
    match r.outcome with
    | .delivered => offerUploadDone n (setUpload n .delivered s)
    | .noLack | .broadcastSent | .retracted | .removed => setUpload n .unsent s
  | _ => s

/-! ## Message unit (R155) -/

/-- A RECEIPT's result; the entry's field follows its latest receipt alone (R155). -/
def receiptResult (r : TxResult) (s : State) : State :=
  let result : Receipt := if r.outcome = .delivered then .delivered else .noLack
  let queue :=
    updateWhere (fun m => m.receipt == some (.queued r.entry.uid)) (fun m => { m with receipt := some result })
      s.msg.queue
  { s with msg.queue := queue }

/-! ## Emergency controller (R171, R176, R182) -/

/-- Every change of the alarm state raises ALARM_STATE (R166). -/
def setAlarm (a : AlarmState) (s : State) : State :=
  if s.emerg.alarm = a then s else raise .alarmState .ownAlarm { s with emerg.alarm := a }

/-- An own EMERGENCY entry (R171). -/
def ownEmergency (phase : Phase) (s : State) : PendEntry :=
  let n := s.emerg.number.getD 0
  { newEntry .emergencyController (.alarm n) .emergencyOrigin
      (.emergency ⟨s.station, n⟩ s.emerg.nextRepeat phase s.cell) destAll 0 with hop := 3 }

/-- An own EMERGENCY is offered when none stands in the queue; joining, it takes the repeat sequence (R167, R171). -/
def offerOwn (phase : Phase) (s : State) : State :=
  if s.emerg.ownEntry.isSome then s
  else
    match offerEntry (ownEmergency phase s) s with
    | (s, .joined uid) =>
      { s with emerg.ownEntry := some ⟨phase, uid⟩, emerg.nextRepeat := satAdd 65535 s.emerg.nextRepeat 1 }
    | (s, .full) | (s, .link) => s

/-- The next CLEARED entry is offered; refused, it comes again after the spacing timer (R176). -/
def offerCleared (s : State) : State :=
  let s := offerOwn .cleared s
  if s.emerg.ownEntry.isSome then s else { s with emerg.spacingTimer := some 2 }

/-- The alarm is over: the number is kept as the last alarm number and the record is as QUIET has it (R166, R176). -/
def alarmQuiet (s : State) : State :=
  setAlarm .quiet
    { s with emerg.number := none, emerg.source := none, emerg.repeatTimer := none, emerg.spacingTimer := none }

/-- A CLEARED frame was sent: at 3 the alarm is QUIET, below 3 the spacing timer starts (R176). -/
def clearedSent (s : State) : State :=
  let s := { s with emerg.clearedSent := s.emerg.clearedSent + 1 }
  if 3 ≤ s.emerg.clearedSent then alarmQuiet s else { s with emerg.spacingTimer := some 2 }

/-- The own EMERGENCY's result (R171, R175, R176). -/
def ownResult (o : OwnEntry) (r : TxResult) (s : State) : State :=
  let s := { s with emerg.ownEntry := none }
  if s.emerg.alarm = .clearing then
    match o.phase with
    | .open => offerCleared s
    | .cleared => if r.outcome = .broadcastSent then clearedSent s else s
  else s

def updateRelay (id : AlarmId) (f : RelayEntry → RelayEntry) (s : State) : State :=
  { s with emerg.relays := updateWhere (fun e => e.id == id) f s.emerg.relays }

def RelayEntry.relaying (e : RelayEntry) : Bool :=
  e.pending.isSome || (match e.ackRelay with
    | .pending _ _ => true
    | .no | .done => false)

/-- An entry aged out while a relay of it was pending leaves when its last relay's result returns (R179). -/
def dropAged (s : State) : State :=
  { s with emerg.relays := s.emerg.relays.filter fun e => !e.agedOut || e.relaying }

/-- A relay's result, by R182's table. -/
def relayResult (r : TxResult) (e : RelayEntry) : RelayEntry :=
  match e.pending with
  | some p =>
    if p.uid = r.entry.uid then
      { e with pending := none, highest := if r.outcome = .removed then p.before else e.highest }
    else ackResult r e
  | none => ackResult r e
where
  ackResult (r : TxResult) (e : RelayEntry) : RelayEntry :=
    match e.ackRelay with
    | .pending uid _ =>
      if uid = r.entry.uid then { e with ackRelay := if r.outcome = .removed then .no else .done } else e
    | .no | .done => e

/-- The emergency controller acts on a result of its own call or of a relay. -/
def emergencyResult (r : TxResult) (s : State) : State :=
  match r.entry.ref with
  | .relay id => dropAged (updateRelay id (relayResult r) s)
  | _ =>
    match s.emerg.ownEntry with
    | some o => if o.uid = r.entry.uid then ownResult o r s else s
    | none => s

/-! ## Host data (R57) -/

/-- A send outcome is formed: it joins, or is dropped and counted; either way SEND_OUTCOME is raised (R57). -/
def dataResult (r : TxResult) (keyed : Nat) (s : State) : State :=
  let o : SendOutcome :=
    { tag := r.entry.tag.getD 0, outcome := r.outcome, attempts := keyed,
      inFlight := r.retraction && r.entry.state == .retractPending }
  raise .sendOutcome .outcomes
    (if s.tx.outcomes.length < Config.outcomeCapacity then { s with tx.outcomes := s.tx.outcomes ++ [o] }
     else { s with tx.outcomeLost := satAdd 255 s.tx.outcomeLost 1 })

/-! ## Reporting (R46) -/

/-- A removal's result goes to the entry's owner (R46). -/
def report (r : TxResult) (s : State) : State :=
  match r.entry.owner with
  | .offerEngine => offerResult r s
  | .tripRecorder => tripResult r s
  | .messageUnit => receiptResult r s
  | .emergencyController => emergencyResult r s
  | .terminalPort => dataResult r r.entry.attempts s
  | .beaconCycle => s

/-- An entry leaves the queue and its result is reported (R46). -/
def finishEntry (e : PendEntry) (o : TxOutcome) (retraction : Bool) (s : State) : State :=
  report ⟨e, o, retraction⟩ (dequeue e.uid s)

/-- An entry in WAITING or DEFERRING is taken out; when it was held, the link controller goes IDLE (R8, R50). -/
def removeUnkeyed (e : PendEntry) (o : TxOutcome) (retraction : Bool) (s : State) : State :=
  finishEntry e o retraction
    (if e.state = .deferring then { s with link.side := .idle, link.deferral := none } else s)

/-- Every unkeyed entry that satisfies `p` is removed with one outcome (R47, R48, R49, R56). DESIGN CHOICE (unsafe, log 38): their
results are reported one after another in the order in which they joined. -/
def removeWhere (p : PendEntry → Bool) (o : TxOutcome) (s : State) : State :=
  (s.tx.queue.filter fun e => e.unkeyed && p e).foldl (fun s e => removeUnkeyed e o false s) s

/-! ## Retraction (R50 to R52) -/

/-- NOT_PRESENT: the owner clears what it recorded of the entry (R52, R70, R171, R182). -/
def notPresent (uid : Nat) (s : State) : State :=
  let s := { s with
    offers.table := s.offers.table.map fun e =>
      { e with bidFrame := e.bidFrame.filter (·.uid != uid), replyFrame := e.replyFrame.filter (·.uid != uid) }
    emerg.ownEntry := s.emerg.ownEntry.filter (·.uid != uid)
    emerg.relays := s.emerg.relays.map fun e => { e with pending := e.pending.filter (·.uid != uid) } }
  s

/-- An owner asks for an entry back: at once from WAITING or DEFERRING, at the exchange's end from the air (R50, R51). -/
def retract (uid : Nat) (s : State) : State :=
  match findEntry uid s with
  | none => notPresent uid s
  | some e =>
    match e.state with
    | .waiting | .deferring => removeUnkeyed e .retracted true s
    | .onAir | .awaitLack => updateEntry uid (fun e => { e with state := .retractPending }) s
    | .retractPending => s

/-- The reason recorded for a retraction: AWARD and WITHDRAW replace a pending reason, the others leave it (R70). -/
def recordReason (reason : RetractReason) (f : QueuedFrame) : QueuedFrame :=
  match reason, f.reason with
  | .award, _ | .withdraw, _ | _, none => { f with reason := some reason }
  | _, some _ => f

/-- The offer engine asks its entry's BID back, with a reason (R70). -/
def retractBid (reason : RetractReason) (id : OfferId) (s : State) : State :=
  match (findOffer id s).bind (·.bidFrame) with
  | some f =>
    retract f.uid (updateOffer id (fun e => { e with bidFrame := e.bidFrame.map (recordReason reason) }) s)
  | none => s

/-- The offer engine asks its entry's ACCEPT or REFUSE back, with a reason (R73, R80). -/
def retractReply (reason : RetractReason) (id : OfferId) (s : State) : State :=
  match (findOffer id s).bind (·.replyFrame) with
  | some f =>
    retract f.uid (updateOffer id (fun e => { e with replyFrame := e.replyFrame.map (recordReason reason) }) s)
  | none => s

end Sys2Proof.Machine
end

