-- ==== Sys2Proof/Machine/Confinement.lean ====
section
/-! DEFINITION. Link confinement: the link state as the counts change (R18), entry to PASSIVE (R47), SILENT (R19, R48) and
RECOVERING (R20), the alarm that follows the link (R173), and what an alarm's leaving QUIET does (R170, R79, R56, R107). -/

namespace Sys2Proof.Machine

/-- Every change of link state raises LINK_STATE (R18). -/
def setLink (l : LinkState) (s : State) : State :=
  if s.link.state = l then s else raise .linkState .link { s with link.state := l }

/-- The last fault kind is overwritten (R21). -/
def setFault (f : FaultKind) (s : State) : State := { s with link.lastFault := f }

/-- RECOVERING is entered with both spans at 0 (R20). -/
def enterRecovering (s : State) : State :=
  setLink .recovering { s with link.quietSpans := 0, link.partialSpan := 0 }

/-- What SILENT does to the queue: BID, BEACON and relay entries not on the air are removed, another entry in DEFERRING
is handed back (R48). -/
def silentQueue (s : State) : State :=
  let gone := fun e : PendEntry => e.cls == .bid || e.cls == .beacon || e.cls == .emergencyRelay
  handBackDeferring (removeWhere gone .removed s)

/-- The alarm follows the link's entry to SILENT: the link goes on to RECOVERING, and OPEN or ACKNOWLEDGED becomes HELD
(R19, R173). DESIGN CHOICE (unsafe, log 37): ALARM_STATE comes after LINK_STATE and the notices of the entries removed. -/
def alarmAtSilent (s : State) : State :=
  match s.emerg.alarm with
  | .quiet => s
  | .held | .clearing => enterRecovering s
  | .open | .acknowledged => setAlarm .held { enterRecovering s with emerg.repeatTimer := none }

/-- SILENT is entered (R19). DESIGN CHOICE (unsafe, log 37): LINK_STATE is raised before the queue is treated, so before the
OFFER_CHANGED notices of the BIDs that it removes. -/
def enterSilent (s : State) : State := alarmAtSilent (silentQueue (setLink .silent s))

/-- PASSIVE is entered: relays not on the air are removed (R47). -/
def enterPassive (s : State) : State := removeWhere (fun e => e.cls == .emergencyRelay) .removed (setLink .passive s)

/-- The link state is evaluated after a change of either count; SILENT and RECOVERING are left only by their own rules
(R18). -/
def evaluateLink (s : State) : State :=
  if s.link.state.mute then s
  else
    let l := namedLink s.link.sfc s.link.hfc
    if l = s.link.state then s
    else
      match l with
      | .silent => enterSilent s
      | .passive => enterPassive s
      | .active | .warned | .recovering => setLink l s

/-- Recovery completes: the counts are cleared, the link is ACTIVE, a HELD alarm becomes OPEN with its repeats, and the
waiting entries are candidates (R20, R173, R8). DESIGN CHOICE (unsafe, log 37): LINK_STATE comes before ALARM_STATE. -/
def recoveryCompletes (s : State) : State :=
  let s := setLink .active { s with link.sfc := 0, link.hfc := 0, link.quietSpans := 0, link.partialSpan := 0 }
  let s :=
    if s.emerg.alarm = .held then offerOwn .open { setAlarm .open s with emerg.repeatTimer := some 2 } else s
  channelBecomesFree s

/-- A slot with no carrier at its boundary counts toward the quiet span (R20). -/
def quietSlot (s : State) : State :=
  if s.link.partialSpan < 5 then { s with link.partialSpan := s.link.partialSpan + 1 }
  else if s.link.quietSpans < 79 then
    { s with link.partialSpan := 0, link.quietSpans := s.link.quietSpans + 1 }
  else recoveryCompletes s

/-! ## Refusals sent of the offer engine's own accord -/

/-- A reply entry of the offer engine (R74 to R77). -/
def replyEntry (id : OfferId) (p : TxPayload) (s : State) : PendEntry :=
  newEntry .offerEngine (.offer id) .reply p id.base s.fleet

/-- A REFUSE is offered; joining, it is recorded among the entry's queued frames (R74, R77). -/
def offerRefuse (id : OfferId) (reason : RefuseReason) (s : State) : State :=
  match offerEntry (replyEntry id (.refuse id reason) s) s with
  | (s, .joined uid) => updateOffer id (fun e => { e with replyFrame := some ⟨uid, none⟩ }) s
  | (s, .full) | (s, .link) => s

/-- The entry becomes REFUSED whether or not its REFUSE joins (R42, R74, R77, R78). -/
def refuseOwn (id : OfferId) (reason : RefuseReason) (s : State) : State :=
  updateOffer id (fun e => { e with state := .refused, reason := some (.refusal reason) }) (offerRefuse id reason s)

/-! ## The alarm leaves QUIET -/

/-- The offer engine's treatment of one entry (R79). -/
def alarmOnOffer (s : State) (e : OfferEntry) : State :=
  match e.state with
  | .bidWait => retractBid .alarm e.id s
  | .bidSent => updateOffer e.id (fun e => { e with state := .ineligible, reason := some .alarm }) s
  | .awarded => refuseOwn e.id .unavailable s
  | .accepting | .held | .heldUnconfirmed | .ineligible | .suppressed | .missed | .lost | .expired | .withdrawn
  | .refused | .done => s

/-- An open trip gets EMERGENCY_DURING_TRIP (R107). -/
def flagEmergency (s : State) : State :=
  { s with fare.trip := s.fare.trip.map fun t => { t with flags.emergencyDuringTrip := true } }

/-- The neighbours' part of the event on which the alarm leaves QUIET (R170): R79, R107 and R56. DESIGN CHOICE (unsafe,
log 38): the offer entries are treated in table order, and before the BEACON is removed. DESIGN CHOICE (unsafe, log 37): their
notices come after ALARM_STATE. -/
def alarmLeavesQuiet (s : State) : State :=
  removeWhere (fun e => e.cls == .beacon) .removed (flagEmergency (s.offers.table.foldl alarmOnOffer s))

/-- HELD when the link is SILENT or RECOVERING, OPEN otherwise, with the neighbours' effects; then the first own EMERGENCY
and, in OPEN, the repeat timer of 2 s (R170 steps 4 to 6, R178). -/
def alarmStarts (s : State) : State :=
  let a : AlarmState := if s.link.state.mute then .held else .open
  let s := offerOwn .open (alarmLeavesQuiet (setAlarm a s))
  if a = .open then { s with emerg.repeatTimer := some 2 } else s

/-- The ALARM_OPEN record of a raise: the clock and the cell are those of the raise (R177). -/
def openRecordNow (s : State) : AlarmOpenRecord :=
  { origin := s.station, number := s.emerg.number.getD 0, source := s.emerg.source.getD .host, time := s.port.clock,
    cell := s.cell }

/-- The ALARM_OPEN group is offered; the open record moves by R177's table. -/
def offerAlarmOpen (s : State) : State :=
  match s.emerg.openGroup with
  | some r =>
    match offerGroup .alarmOpen [.alarmOpen r] s with
    | (s, .joined) => { s with emerg.openRecord := .queued, emerg.openGroup := none }
    | (s, .full) => { s with emerg.openRecord := .owed }
    | (s, .sectorFault) => { s with emerg.openRecord := .none, emerg.openGroup := none }
  | none => s

/-- An OWED ALARM_OPEN group is offered again (R172, R177). -/
def reofferAlarmOpen (s : State) : State := if s.emerg.openRecord = .owed then offerAlarmOpen s else s

/-- A raise (R170). -/
def raiseAlarm (source : RaiseSource) (s : State) : State :=
  let n := wrapInc 255 s.emerg.lastNumber
  let s := { s with
    emerg.number := some n
    emerg.lastNumber := n
    emerg.nextRepeat := 0
    emerg.ackHeard := false
    emerg.clearedSent := 0
    emerg.source := some source }
  let s := offerAlarmOpen { s with emerg.openGroup := some (openRecordNow s) }
  let s := if s.link.state = .silent then enterRecovering s else s
  alarmStarts s

end Sys2Proof.Machine
end

