-- ==== Sys2Proof/Machine/Operands.lean ====
section
/-! DEFINITION. The operand forms of heard frames: the payload of each kind read from its bytes (R202) with the field ranges
of R4 and R6; none for a payload that R28 calls malformed. -/

namespace Sys2Proof.Machine

/-- A value within bounds. -/
def inRange (lo hi n : Nat) : Bool := decide (lo ≤ n) && decide (n ≤ hi)

/-- A text with no byte below 0x20 (R200, R201). -/
def textOk (t : List Byte) : Bool := t.all fun b => decide (0x20 ≤ b.toNat)

def cellOk (c : Cell) : Bool := inRange 0 4095 c.x && inRange 0 4095 c.y

def offerIdOk (i : OfferId) : Bool := inRange 1 4000 i.base

/-- A check within a parse. -/
def need (b : Bool) : Option Unit := if b then some () else none

/-! ## Enumerated fields, numbered from 1 (R200) -/

def vehicleNeedOf : Nat → Option VehicleNeed
  | 1 => some .standard | 2 => some .large | 3 => some .accessible | _ => none

def refuseReasonOf : Nat → Option RefuseReason
  | 1 => some .driver | 2 => some .timeout | 3 => some .busy | 4 => some .unavailable | _ => none

def msgKindOf : Nat → Option MsgKind
  | 1 => some .text | 2 => some .priorityText | 3 => some .query | _ => none

def receiptKindOf : Nat → Option ReceiptKind
  | 1 => some .read | 2 => some .reply | _ => none

def phaseOf : Nat → Option Phase
  | 1 => some .open | 2 => some .cleared | _ => none

def cabStatusOf : Nat → Option CabStatus
  | 1 => some .vacant | 2 => some .hired | 3 => some .stopped | 4 => some .unavailable | _ => none

def beaconLinkOf : Nat → Option LinkState
  | 1 => some .active | 2 => some .warned | 3 => some .passive | _ => none

/-! ## Payloads -/

/-- OFFER's fields (R6). -/
structure OfferFields where
  number : Nat
  zone : Nat
  pickup : Cell
  need : VehicleNeed
  window : Nat
  fareEstimate : Option Nat
  pickupText : Option (List Byte)
  deriving DecidableEq, Repr

/-- An OFFER's fields lie in their ranges and its length matches them (R6, R28, R202). DESIGN CHOICE (unsafe, log 72): the fare
estimate may be any 3-byte number. -/
def parseOffer (bs : List Byte) : Option OfferFields := do
  let (number, bs) ← takeNum 2 bs
  let (zone, bs) ← takeNum 1 bs
  let (pickup, bs) ← takeCell bs
  let (n, bs) ← takeNum 1 bs
  let vehicle ← vehicleNeedOf n
  let (window, bs) ← takeNum 1 bs
  let (p, bs) ← takeNum 1 bs
  let (fare, bs) ← takeIf (p % 2 == 1) (takeNum 3) bs
  let (text, bs) ← takeIf (p / 2 % 2 == 1) takeText bs
  need (cellOk pickup && inRange 8 250 window && decide (p < 4) && text.all textOk
    && text.all (fun t => decide (t.length ≤ 40)) && bs.isEmpty)
  some ⟨number, zone, pickup, vehicle, window, fare, text⟩

/-- BID's fields (R6). -/
structure BidFields where
  id : OfferId
  rank : Nat
  cell : Cell
  deriving DecidableEq, Repr

/-- The cell of a BID is packed in 3 bytes, x in the first 12 bits (R202). -/
def parseBid (bs : List Byte) : Option BidFields := do
  let (id, bs) ← takeOfferId bs
  let (rank, bs) ← takeNum 1 bs
  let (c, bs) ← takeNum 3 bs
  need (offerIdOk id && bs.isEmpty)
  some ⟨id, rank, ⟨c / 4096, c % 4096⟩⟩

/-- AWARD's fields (R6). -/
structure AwardFields where
  id : OfferId
  winner : Nat
  jobText : Option (List Byte)
  deriving DecidableEq, Repr

def parseAward (bs : List Byte) : Option AwardFields := do
  let (id, bs) ← takeOfferId bs
  let (winner, bs) ← takeNum 2 bs
  let (p, bs) ← takeNum 1 bs
  let (text, bs) ← takeIf (p % 2 == 1) takeText bs
  need (offerIdOk id && inRange 1 4000 winner && decide (p < 2) && text.all textOk
    && text.all (fun t => decide (t.length ≤ 60)) && bs.isEmpty)
  some ⟨id, winner, text⟩

/-- WITHDRAW and ACCEPT carry an offer id (R6). -/
def parseOfferId (bs : List Byte) : Option OfferId := do
  let (id, bs) ← takeOfferId bs
  need (offerIdOk id && bs.isEmpty)
  some id

/-- MESSAGE's fields (R6). -/
structure MessageFields where
  number : Nat
  kind : MsgKind
  lifetime : Nat
  text : List Byte
  replies : List (List Byte)
  deriving DecidableEq, Repr

/-- A reply list stands in a QUERY alone (R28, R202). -/
def takeReplies (kind : MsgKind) (bs : List Byte) : Option (List (List Byte) × List Byte) :=
  match kind with
  | .query => takeList takeText bs
  | .text | .priorityText => some ([], bs)

def parseMessage (bs : List Byte) : Option MessageFields := do
  let (number, bs) ← takeNum 2 bs
  let (k, bs) ← takeNum 1 bs
  let kind ← msgKindOf k
  let (lifetime, bs) ← takeNum 1 bs
  let (text, bs) ← takeText bs
  let (replies, bs) ← takeReplies kind bs
  need (inRange 1 80 text.length && textOk text && decide (replies.length ≤ 4)
    && replies.all (fun r => inRange 1 16 r.length && textOk r) && bs.isEmpty)
  some ⟨number, kind, lifetime, text, replies⟩

/-- EMERGENCY's fields (R6). -/
structure EmergencyFields where
  alarm : AlarmId
  repeatSeq : Nat
  phase : Phase
  cell : Cell
  deriving DecidableEq, Repr

def takeAlarm (bs : List Byte) : Option (AlarmId × List Byte) := do
  let (o, bs) ← takeNum 2 bs
  let (n, bs) ← takeNum 1 bs
  some (⟨o, n⟩, bs)

def parseEmergency (bs : List Byte) : Option EmergencyFields := do
  let (alarm, bs) ← takeAlarm bs
  let (rep, bs) ← takeNum 2 bs
  let (p, bs) ← takeNum 1 bs
  let phase ← phaseOf p
  let (cell, bs) ← takeCell bs
  need (inRange 1 4000 alarm.origin && cellOk cell && bs.isEmpty)
  some ⟨alarm, rep, phase, cell⟩

def parseEmergencyAck (bs : List Byte) : Option AlarmId := do
  let (alarm, bs) ← takeAlarm bs
  need (inRange 1 4000 alarm.origin && bs.isEmpty)
  some alarm

/-- A BEACON's form, 1 FULL or 2 SHORT, must match its length (R202). -/
def parseBeacon (bs : List Byte) : Option BeaconInfo := do
  let (form, bs) ← takeNum 1 bs
  let (st, bs) ← takeNum 1 bs
  let status ← cabStatusOf st
  let (l, bs) ← takeNum 1 bs
  let link ← beaconLinkOf l
  let (zone, bs) ← takeNum 1 bs
  let (cell, bs) ← takeIf (form == 1) takeCell bs
  need ((form == 1 || form == 2) && cell.all cellOk && bs.isEmpty)
  some ⟨status, zone, cell, link⟩

/-- TERMINAL_DATA is of 1..64 bytes (R6, R28). -/
def parseData (bs : List Byte) : Option (List Byte) :=
  if inRange 1 64 bs.length then some bs else none

/-- A TRIP_REPORT's fields lie in their ranges and its length matches them (R6, R28, R202). DESIGN CHOICE (unsafe, log 63): the
ranges of its numbers are those of the trip record and of the extras' catalogue (R116, R85), for R6 gives them none, and bits 4 to 6
of its flags byte are clear. -/
def tripReportOk (bs : List Byte) : Bool :=
  (do
    let (number, bs) ← takeNum 2 bs
    let (flags, bs) ← takeNum 1 bs
    let (job, bs) ← takeIf (flags / 128 == 1) takeOfferId bs
    let (_, bs) ← takeNum 4 bs
    let (_, bs) ← takeNum 4 bs
    let (hired, bs) ← takeNum 3 bs
    let (waiting, bs) ← takeNum 3 bs
    let (charged, bs) ← takeNum 3 bs
    let (fare, bs) ← takeNum 3 bs
    let (extras, bs) ← takeList takeExtra bs
    need (inRange 1 65535 number && flags / 16 % 8 == 0 && job.all offerIdOk && inRange 0 9999999 hired
      && inRange 0 864000 waiting && inRange 0 999999 charged && inRange 0 Config.fareLimit fare
      && decide (extras.length ≤ 8)
      && extras.all (fun e => inRange 1 255 e.code && inRange 1 9999 e.amount) && bs.isEmpty) : Option Unit).isSome

/-- A REFUSE's fields (R6, R202). -/
def refuseOk (bs : List Byte) : Bool :=
  (do
    let (id, bs) ← takeOfferId bs
    let (r, bs) ← takeNum 1 bs
    need (offerIdOk id && (refuseReasonOf r).isSome && bs.isEmpty) : Option Unit).isSome

/-- A RECEIPT of kind REPLY has a reply index, one of kind READ has none (R28, R202). DESIGN CHOICE (unsafe, log 36): the index
is any byte, for R6 gives it no range. -/
def receiptOk (bs : List Byte) : Bool :=
  (do
    let (_, bs) ← takeNum 2 bs
    let (k, bs) ← takeNum 1 bs
    let kind ← receiptKindOf k
    need (decide (bs.length = if kind = .reply then 1 else 0)) : Option Unit).isSome

/-- Payload validation of the kinds that have no owner (R28, R29). -/
def unownedOk (kind : UnownedKind) (bs : List Byte) : Bool :=
  match kind with
  | .accept => (parseOfferId bs).isSome
  | .refuse => refuseOk bs
  | .tripReport => tripReportOk bs
  | .receipt => receiptOk bs

end Sys2Proof.Machine
end

