-- ==== Sys2Proof/Machine/OfferEngine.lean ====
section
/-! DEFINITION. The offer engine (chapter 4): what it does with an OFFER, another cab's BID, an AWARD and a WITHDRAW, with its
timers, with the host's ACCEPT_JOB and REFUSE_JOB, and with the meter. -/

namespace Sys2Proof.Machine

/-- The verdict on a frame (R23). -/
inductive Verdict where
  | stored | ackOnly | notStored
  deriving DecidableEq, Repr

/-! ## Eligibility, rank and slot (R64, R66, R67) -/

/-- The conditions of R64 in their order; conditions 2 and 7 are left out for a direct assignment, and condition 6 applies
where a vehicle need is known (R74). The first that fails names the reason. -/
def ineligible (direct : Bool) (vehicle : Option VehicleNeed) (s : State) : Option OfferReason :=
  if s.fare.meter ≠ .vacant then some .meter
  else if direct = false ∧ s.offers.available = false then some .availability
  else if s.emerg.alarm ≠ .quiet then some .alarm
  else if s.link.state.mute then some .link
  else if s.offers.heldJob.isSome then some .jobHeld
  else if vehicle.any (fun v => !s.offers.capability.contains v) then some .vehicle
  else if direct = false ∧ (s.offers.cell.isNone = true ∨ 30 < s.offers.positionAge) then some .position
  else none

/-- Sum of the absolute differences of x and of y, held at 127 (R66). -/
def distance (a b : Cell) : Nat :=
  min 127 ((a.x - b.x) + (b.x - a.x) + (a.y - b.y) + (b.y - a.y))

/-- Floor of a quarter of the idle minutes, held at 15 (R66). -/
def idleBonus (minutes : Nat) : Nat := min 15 (minutes / 4)

/-- 2 × dist + link penalty − idle bonus, held within 0..255 (R66). -/
def ownRank (own pickup : Cell) (link : LinkState) (minutes : Nat) : Nat :=
  min 255 (2 * distance own pickup + linkPenalty link - idleBonus minutes)

/-- floor(rank × (W − 1) / 255) (R67). -/
def bidSlotOf (rank window : Nat) : Nat := rank * (window - 1) / 255

/-! ## The table (R60, R62) -/

def blankOffer (id : OfferId) (arrival : Nat) : OfferEntry :=
  { id := id, zone := none, pickup := none, need := none, window := none, fareEstimate := none, pickupText := none,
    jobText := none, arrival := arrival, state := .ineligible, reason := none, rank := none, bidSlot := none,
    bestRank := none, awardTimer := none, acceptTimer := none, bidFrame := none, replyFrame := none,
    lastReply := none, linkedTrip := none }

/-- The first entry in a final state leaves (R62). -/
def evictFinal : List OfferEntry → List OfferEntry
  | [] => []
  | e :: l => if e.state.isFinal then l else e :: evictFinal l

/-- A new entry takes the end of the table order, with eviction when the table is full; none when nothing can be evicted
(R62). -/
def roomFor (t : List OfferEntry) : Option (List OfferEntry) :=
  if t.length < Config.offerCapacity then some t
  else if t.any (·.state.isFinal) then some (evictFinal t)
  else none

def countOverflow (s : State) : State := { s with offers.overflow := satAdd 255 s.offers.overflow 1 }

/-! ## OFFER (R62, R67) -/

/-- A BID entry (R67). -/
def bidEntry (id : OfferId) (rank slot window : Nat) (s : State) : PendEntry :=
  { newEntry .offerEngine (.offer id) .bid (.bid id rank s.cell) id.base s.fleet with bidWindow := some (slot, window) }

def offerFrom (id : OfferId) (f : OfferFields) (arrival : Nat) : OfferEntry :=
  { blankOffer id arrival with
    zone := some f.zone, pickup := some f.pickup, need := some f.need, window := some f.window,
    fareEstimate := f.fareEstimate, pickupText := f.pickupText }

/-- An eligible offer is ranked and bid for (R66, R67). -/
def bidFor (e : OfferEntry) (f : OfferFields) (t : List OfferEntry) (s : State) : State :=
  let rank := ownRank s.cell f.pickup s.link.state s.offers.idleMinutes
  let slot := bidSlotOf rank f.window
  let e := { e with rank := some rank, bidSlot := some slot }
  match offerEntry (bidEntry e.id rank slot f.window s) s with
  | (s, .joined uid) =>
    raise .offerHeard (.offer e.id)
      (writeJobPage { s with offers.table := t ++ [{ e with state := .bidWait, bidFrame := some ⟨uid, none⟩ }] })
  | (s, .full) | (s, .link) =>
    raise .offerChanged (.offer e.id) (writeJobPage { s with offers.table := t ++ [{ e with state := .missed }] })

/-- An OFFER handed over by the receive filter (R62). -/
def offerHeard (source : Nat) (f : OfferFields) (s : State) : State × Verdict :=
  let id : OfferId := ⟨source, f.number⟩
  if (findOffer id s).isSome then (s, .notStored)
  else
    match roomFor s.offers.table with
    | none => (countOverflow s, .notStored)
    | some t =>
      let e := offerFrom id f s.port.clock
      match ineligible false (some f.need) s with
      | some r =>
        (writeJobPage { s with offers.table := t ++ [{ e with state := .ineligible, reason := some r }] }, .stored)
      | none => (bidFor e f t s, .stored)

/-! ## Overheard BID (R69) -/

/-- An overheard bid is better on a lower rank, or on an equal rank from a lower station (R69). -/
def betterBid (rank source : Nat) (own : Option Nat) (station : Nat) : Bool :=
  own.any fun o => decide (rank < o) || (rank == o && decide (source < station))

def noteRank (rank : Nat) (e : OfferEntry) : OfferEntry :=
  { e with bestRank := some (e.bestRank.elim rank fun b => min b rank) }

/-- Another cab's BID: its rank is recorded, and a better one suppresses the own waiting BID (R69). -/
def bidHeard (source : Nat) (f : BidFields) (s : State) : State × Verdict :=
  match findOffer f.id s with
  | none => (s, .notStored)
  | some e =>
    if e.state = .bidWait ∨ e.state = .bidSent then
      let s := updateOffer f.id (noteRank f.rank) s
      if e.state = .bidWait ∧ betterBid f.rank source e.rank s.station = true
          ∧ e.bidFrame.any (·.reason.isNone) = true then
        (retractBid .suppression f.id s, .notStored)
      else (s, .notStored)
    else (s, .notStored)

/-! ## AWARD (R72 to R74) -/

/-- The entry becomes AWARDED (R72). DESIGN CHOICE (unsafe, log 37): OFFER_CHANGED is raised before JOB_AWARDED. -/
def makeAwarded (id : OfferId) (text : Option (List Byte)) (s : State) : State :=
  let s := updateOffer id
    (fun e => { e with state := .awarded, reason := none, jobText := text.orElse fun _ => e.jobText,
                       acceptTimer := some s.offers.acceptTimeout }) s
  showPage 1 (raise .jobAwarded (.offer id) s)

/-- An entry in a final state is reused (R74). -/
def clearForReuse (e : OfferEntry) : OfferEntry :=
  { e with reason := none, rank := none, bidSlot := none, awardTimer := none, acceptTimer := none, bestRank := none,
           jobText := none, lastReply := none, linkedTrip := none, bidFrame := none, replyFrame := none }

/-- BUSY for the meter and a held job, UNAVAILABLE otherwise (R74). -/
def directReason : OfferReason → RefuseReason
  | .meter | .jobHeld => .busy
  | .availability | .alarm | .link | .vehicle | .position | .refusal _ => .unavailable

/-- The decision of a direct assignment for an entry that stands in the table (R74). DESIGN CHOICE (unsafe, log 39): the job
text of an AWARD that is refused is not stored. DESIGN CHOICE (unsafe, log 38): of an entry in BID_WAIT the REFUSE is offered
before the BID is taken back. -/
def assign (e : OfferEntry) (text : Option (List Byte)) (s : State) : State :=
  let s' := if e.state.isFinal then updateOffer e.id clearForReuse s else s
  match ineligible true e.need s with
  | none =>
    let s' := makeAwarded e.id text s'
    if e.state = .bidWait then retractBid .award e.id s' else s'
  | some r =>
    let s' := refuseOwn e.id (directReason r) s'
    if e.state = .bidWait then retractBid .award e.id s' else s'

/-- A direct assignment (R74). -/
def directAssignment (id : OfferId) (text : Option (List Byte)) (s : State) : State :=
  match findOffer id s with
  | some e => assign e text s
  | none =>
    match roomFor s.offers.table with
    | some t =>
      let e := blankOffer id s.port.clock
      assign e text { s with offers.table := t ++ [e] }
    | none => (offerEntry (replyEntry id (.refuse id .busy) s) (countOverflow s)).1

/-- An AWARD naming this station (R72, R74). -/
def awardOwn (f : AwardFields) (s : State) : State × Verdict :=
  match findOffer f.id s with
  | some e =>
    if e.state.isJobHeld then
      (updateOffer f.id (fun e => { e with jobText := f.jobText.orElse fun _ => e.jobText }) s, .stored)
    else if e.state = .bidSent ∧ s.offers.heldJob = none then (makeAwarded f.id f.jobText s, .stored)
    else (directAssignment f.id f.jobText s, .stored)
  | none => (directAssignment f.id f.jobText s, .stored)

/-- An entry leaves for `st`; its BID and its reply in the pending queue are asked back (R73, R80). -/
def takeAway (id : OfferId) (st : OfferState) (reason : RetractReason) (s : State) : State :=
  retractReply reason id
    (retractBid reason id (updateOffer id (fun e => { e with state := st, reason := none }) s))

/-- An AWARD naming another station (R73). -/
def awardOther (id : OfferId) (s : State) : State × Verdict :=
  match findOffer id s with
  | some e => if e.state.isFinal then (s, .notStored) else (takeAway id .lost .award s, .stored)
  | none => (s, .notStored)

/-- An AWARD handed over by the receive filter. -/
def awardHeard (f : AwardFields) (s : State) : State × Verdict :=
  if f.winner = s.station then awardOwn f s else awardOther f.id s

/-- A WITHDRAW handed over by the receive filter (R80). -/
def withdrawHeard (id : OfferId) (s : State) : State × Verdict :=
  match findOffer id s with
  | some e => if e.state.isFinal then (s, .notStored) else (takeAway id .withdrawn .withdraw s, .stored)
  | none => (s, .notStored)

/-! ## Timers (R71, R77) -/

/-- The row AWARD_TIMER_EXPIRY (R71); the timer runs on in DORMANT (R83). -/
def awardTimerExpiry (id : OfferId) (s : State) : State :=
  match findOffer id s with
  | some e =>
    if s.awake = true ∧ e.state = .bidSent ∧ e.awardTimer.isSome = true then
      updateOffer id (fun e => { e with state := .expired }) s
    else s
  | none => s

/-- The row ACCEPT_TIMER_EXPIRY (R77). -/
def acceptTimerExpiry (id : OfferId) (s : State) : State :=
  match findOffer id s with
  | some e =>
    if s.running = true ∧ e.state = .awarded ∧ e.acceptTimer.isSome = true then refuseOwn id .timeout s else s
  | none => s

/-- A second of the running award and accept timers; the JOB page follows the accept timer (R60, R81). -/
def offerSecond (s : State) : State :=
  writeJobPage
    { s with offers.table := s.offers.table.map fun e =>
        { e with awardTimer := e.awardTimer.map (· - 1), acceptTimer := e.acceptTimer.map (· - 1) } }

/-! ## The host's answers (R75, R76) -/

/-- TOO_LATE for an entry that timed out, STATE otherwise (R75, R76). -/
def lateStatus (e : OfferEntry) : Status :=
  if e.state = .refused ∧ e.reason = some (.refusal .timeout) then .tooLate else .state

/-- ACCEPT_JOB (R75). DESIGN CHOICE (unsafe, log 76): an offer id with a base station outside 1 to 4000 is answered UNKNOWN_ID,
as any id without an entry, and not RANGE. -/
def acceptJob (id : OfferId) (s : State) : State × Status :=
  match findOffer id s with
  | none => (s, .unknownId)
  | some e =>
    if e.state = .awarded then
      match offerEntry (replyEntry id (.accept id) s) s with
      | (s, .joined uid) =>
        (updateOffer id (fun e => { e with state := .accepting, replyFrame := some ⟨uid, none⟩ }) s, .ok)
      | (s, .full) | (s, .link) => (s, .queueFull)
    else (s, lateStatus e)

/-- REFUSE_JOB is taken in AWARDED, and in HELD or HELD_UNCONFIRMED without a linked trip (R76). -/
def refusable (e : OfferEntry) : Bool :=
  e.state == .awarded || ((e.state == .held || e.state == .heldUnconfirmed) && e.linkedTrip.isNone)

/-- REFUSE_JOB (R76). DESIGN CHOICE (unsafe, log 76): an offer id with a base station outside 1 to 4000 is answered UNKNOWN_ID,
as any id without an entry, and not RANGE. -/
def refuseJob (id : OfferId) (s : State) : State × Status :=
  match findOffer id s with
  | none => (s, .unknownId)
  | some e =>
    if refusable e then
      match offerEntry (replyEntry id (.refuse id .driver) s) s with
      | (s, .joined uid) =>
        (updateOffer id (fun e => { e with state := .refused, reason := some (.refusal .driver),
                                           replyFrame := some ⟨uid, none⟩ }) s, .ok)
      | (s, .full) | (s, .link) => (s, .queueFull)
    else (s, lateStatus e)

/-! ## The meter (R78) -/

/-- The offer engine's treatment of one entry at METER_HIRE; `trip` is the new trip's number (R78). -/
def hireOnOffer (trip : Nat) (s : State) (e : OfferEntry) : State :=
  match e.state with
  | .bidWait => retractBid .meter e.id s
  | .bidSent => updateOffer e.id (fun e => { e with state := .ineligible, reason := some .meter }) s
  | .awarded => refuseOwn e.id .busy s
  | .accepting | .held | .heldUnconfirmed => updateOffer e.id (fun e => { e with linkedTrip := some trip }) s
  | .ineligible | .suppressed | .missed | .lost | .expired | .withdrawn | .refused | .done => s

/-- The offer id a new trip takes as its job id: the entry in ACCEPTING, HELD or HELD_UNCONFIRMED (R78). -/
def jobForTrip (s : State) : Option OfferId :=
  (s.offers.table.find? fun e => e.state == .accepting || e.state == .held || e.state == .heldUnconfirmed).map (·.id)

/-- The entry linked to a closing trip becomes DONE if it is in a job-held state (R78). -/
def closeLinked (trip : Nat) (s : State) : State :=
  match s.offers.table.find? fun e => e.linkedTrip == some trip && e.state.isJobHeld with
  | some e => updateOffer e.id (fun e => { e with state := .done }) s
  | none => s

end Sys2Proof.Machine
end

