-- ==== Sys2Proof/Machine/Emergency.lean ====
section
/-! DEFINITION. The emergency controller (chapter 9): emergency frames heard and relayed, acknowledgements of the own alarm,
its timers, clearing, the marker and the switch. -/

namespace Sys2Proof.Machine

/-! ## The relay table (R179) -/

/-- When a PENDING ACK relay joined (R179). -/
def AckRelay.joined : AckRelay → Option Nat
  | .pending _ joined => some joined
  | .no | .done => none

def findRelay (id : AlarmId) (s : State) : Option RelayEntry := s.emerg.relays.find? fun e => e.id == id

def blankRelay (id : AlarmId) (now : Nat) : RelayEntry :=
  { id := id, highest := none, ackRelay := .no, pending := none, lastHeard := now, hearing := 0, lastPhase := none,
    lastCell := none, agedOut := false }

/-- The place of the next hearing after those of the table's entries (log 20). -/
def nextHearing (l : List RelayEntry) : Nat := (l.map (·.hearing)).foldl max 0 + 1

/-- The entry was last heard before the other one (R179). -/
def RelayEntry.heardBefore (a b : RelayEntry) : Bool :=
  decide (a.lastHeard < b.lastHeard) || (a.lastHeard == b.lastHeard && decide (a.hearing < b.hearing))

/-- The entry with the oldest last heard (R179). -/
def oldestRelay : List RelayEntry → Option RelayEntry
  | [] => none
  | e :: l =>
    match oldestRelay l with
    | some m => if m.heardBefore e then some m else some e
    | none => some e

/-- The table with room for a new entry: not full, or without the oldest entry when that one was last heard more than 30 s
ago and has no relay pending; none when no entry can be made (R179). -/
def relayRoom (now : Nat) (l : List RelayEntry) : Option (List RelayEntry) :=
  if l.length < Config.relayCapacity then some l
  else
    match oldestRelay l with
    | some e => if 30 < now - e.lastHeard ∧ e.relaying = false then some (l.filter fun a => a.id != e.id) else none
    | none => none

/-- The entry of a pair is found and last heard is set, or it is made with an OTHER_ALARM notice; none when no entry can be
made (R179). DESIGN CHOICE (unsafe, log 68): a new entry stands behind the others, and GET_STATUS lists them so (R185). -/
def hearPair (id : AlarmId) (s : State) : Option State :=
  let place := nextHearing s.emerg.relays
  if (findRelay id s).isSome then
    some (updateRelay id (fun e => { e with lastHeard := s.elapsed, hearing := place, agedOut := false }) s)
  else
    match relayRoom s.elapsed s.emerg.relays with
    | some l =>
      some (raise .otherAlarm (.alarm id)
        { s with emerg.relays := l ++ [{ blankRelay id s.elapsed with hearing := place }] })
    | none => none

def countRelayOverflow (s : State) : State :=
  { s with emerg.relayOverflow := satAdd 255 s.emerg.relayOverflow 1 }

/-! ## Relaying (R180 to R182) -/

/-- A relay entry: the hop count one lower, the relayed flag set, the payload unchanged (R180). -/
def relayEntry (id : AlarmId) (p : TxPayload) (hop : Nat) : PendEntry :=
  { newEntry .emergencyController (.relay id) .emergencyRelay p destAll 0 with hop := hop - 1, relayed := true }

/-- Relays are offered in ACTIVE and WARNED (R180, R181). -/
def relayLink (l : LinkState) : Bool := l == .active || l == .warned

/-- An EMERGENCY relay is offered; joining, it is recorded (R180). -/
def relayEmergency (f : EmergencyFields) (hop : Nat) (s : State) : State :=
  match offerEntry (relayEntry f.alarm (.emergency f.alarm f.repeatSeq f.phase f.cell) hop) s with
  | (s, .joined uid) =>
    updateRelay f.alarm
      (fun e => { e with pending := some ⟨uid, f.repeatSeq, e.highest, s.elapsed⟩, highest := some f.repeatSeq }) s
  | (s, .full) | (s, .link) => s

/-- An EMERGENCY of another origin, once its entry stands: a pending relay is tested for suppression, or a relay is offered
(R180, R182). -/
def treatEmergency (f : EmergencyFields) (hop : Nat) (s : State) : State :=
  match findRelay f.alarm s with
  | some e =>
    match e.pending with
    | some p => if p.repeatSeq = f.repeatSeq then retract p.uid s else s
    | none =>
      if 0 < hop ∧ relayLink s.link.state = true ∧ e.highest.all (fun h => decide (h < f.repeatSeq)) = true then
        relayEmergency f hop s
      else s
  | none => s

/-- An EMERGENCY handed over by the receive filter (R174, R180). -/
def emergencyHeard (f : EmergencyFields) (hop : Nat) (s : State) : State × Verdict :=
  if f.alarm.origin = s.station then (s, .notStored)
  else
    match hearPair f.alarm s with
    | none => (countRelayOverflow s, .notStored)
    | some s =>
      let s := updateRelay f.alarm (fun e => { e with lastPhase := some f.phase, lastCell := some f.cell }) s
      (treatEmergency f hop s, .stored)

/-- An EMERGENCY_ACK relay is offered; joining, ACK relayed becomes PENDING (R181). -/
def relayAck (id : AlarmId) (hop : Nat) (s : State) : State :=
  match offerEntry (relayEntry id (.emergencyAck id) hop) s with
  | (s, .joined uid) => updateRelay id (fun e => { e with ackRelay := .pending uid s.elapsed }) s
  | (s, .full) | (s, .link) => s

def treatAck (id : AlarmId) (hop : Nat) (s : State) : State :=
  match findRelay id s with
  | some e =>
    match e.ackRelay with
    | .pending uid _ => retract uid s
    | .no => if 0 < hop ∧ relayLink s.link.state = true then relayAck id hop s else s
    | .done => s
  | none => s

/-! ## The own alarm's acknowledgement (R174, R184) -/

/-- The marker is written at page 0, line 0, column 19, and its timer starts with 10 s (R184). -/
def showMarker (s : State) : State :=
  setChar 0 0 19 (byteOf s.emerg.marker) { s with emerg.markerShown := true, emerg.markerTimer := some 10 }

/-- An EMERGENCY_ACK for the current own alarm, by the alarm state (R174). -/
def ownAck (s : State) : State × Verdict :=
  match s.emerg.alarm with
  | .open =>
    (showMarker (setAlarm .acknowledged { s with emerg.ackHeard := true, emerg.repeatTimer := some 15 }), .stored)
  | .acknowledged => (showMarker s, .stored)
  | .held => (showMarker { s with emerg.ackHeard := true }, .stored)
  | .clearing | .quiet => (s, .notStored)

/-- An EMERGENCY_ACK handed over by the receive filter (R174, R181). -/
def ackHeard (id : AlarmId) (hop : Nat) (s : State) : State × Verdict :=
  if id.origin = s.station then
    if s.emerg.number = some id.alarm then ownAck s else (s, .notStored)
  else
    match hearPair id s with
    | none => (countRelayOverflow s, .notStored)
    | some s => (treatAck id hop s, .stored)

/-! ## Timers (R172, R176, R179, R182, R184) -/

/-- The row REPEAT_TIMER_EXPIRY (R172). -/
def repeatTimerExpiry (s : State) : State :=
  if s.emerg.repeatTimer.isNone then s
  else
    match s.emerg.alarm with
    | .open => offerOwn .open (reofferAlarmOpen { s with emerg.repeatTimer := some 2 })
    | .acknowledged => offerOwn .open (reofferAlarmOpen { s with emerg.repeatTimer := some 15 })
    | .quiet | .held | .clearing => s

/-- The row SPACING_TIMER_EXPIRY (R176). -/
def spacingTimerExpiry (s : State) : State :=
  if s.emerg.spacingTimer.isSome = true ∧ s.emerg.alarm = .clearing then
    offerCleared { s with emerg.spacingTimer := none }
  else s

/-- The row MARKER_TIMER_EXPIRY (R184). -/
def markerTimerExpiry (s : State) : State :=
  if s.emerg.markerTimer.isSome = true ∧ s.awake = true then
    setChar 0 0 19 space { s with emerg.markerTimer := none, emerg.markerShown := false }
  else s

/-- The row RELAY_STALE: a relay that has not been keyed is asked back (R182). -/
def relayStale (id : AlarmId) (kind : RelayKind) (s : State) : State :=
  let uid? : Option Nat :=
    match findRelay id s, kind with
    | some e, .emergency => e.pending.map (·.uid)
    | some e, .ack =>
      match e.ackRelay with
      | .pending uid _ => some uid
      | .no | .done => none
    | none, _ => none
  match uid?.bind fun uid => findEntry uid s with
  | some e => if e.unkeyed then retract e.uid s else s
  | none => s

/-- The row RELAY_ENTRY_AGED_OUT: the entry leaves, or leaves when its last pending relay's result returns (R179). -/
def relayEntryAgedOut (id : AlarmId) (s : State) : State :=
  dropAged (updateRelay id (fun e => { e with agedOut := true }) s)

/-- A second of the controller's running timers. -/
def emergencySecond (s : State) : State :=
  { s with
    emerg.repeatTimer := s.emerg.repeatTimer.map (· - 1)
    emerg.spacingTimer := s.emerg.spacingTimer.map (· - 1)
    emerg.markerTimer := s.emerg.markerTimer.map (· - 1) }

/-! ## Clearing (R175) -/

/-- The clear is taken (R175); the first CLEARED entry comes at once, or when the own OPEN entry's result returns. -/
def takeClear (s : State) : State :=
  let s := setAlarm .clearing { s with emerg.repeatTimer := none, emerg.clearedSent := 0 }
  match s.emerg.ownEntry with
  | some o => retract o.uid s
  | none => offerCleared s

/-- CLEAR_ALARM (R175). -/
def clearAlarm (s : State) : State × Status :=
  match s.emerg.alarm with
  | .quiet | .clearing => (s, .state)
  | .open | .acknowledged | .held =>
    match s.emerg.openRecord with
    | .owed => (takeClear { s with emerg.openRecord := .none, emerg.openGroup := none }, .ok)
    | .none => (takeClear s, .ok)
    | .queued | .written =>
      match offerGroup .alarmClear [.alarmClear (s.emerg.number.getD 0)] s with
      | (s, .joined) | (s, .sectorFault) => (takeClear s, .ok)
      | (s, .full) => (s, .storeBusy)

/-- RAISE_ALARM (R169). -/
def hostRaise (s : State) : State × Status × Reply :=
  if s.emerg.alarm = .quiet then
    let s := raiseAlarm .host s
    (s, .ok, .alarmNumber (s.emerg.number.getD 0))
  else (s, .state, .bare)

/-- The row ROOF_LAMP_PHASE: a flashing pattern's phase ends (R183). -/
def roofLampPhase (s : State) : State :=
  if s.emerg.lamp = .slow ∨ s.emerg.lamp = .fast then { s with emerg.lampOn := !s.emerg.lampOn } else s

end Sys2Proof.Machine
end

