-- ==== Sys2Proof/Machine/Link.lean ====
section
/-! DEFINITION. The link controller's events (chapter 1): keying, the end of the own frame, its gaps, carrier, gaps of other
stations, slots, and the end of a carrier period. -/

namespace Sys2Proof.Machine

/-! ## Payloads on the air (R202) -/

def CabStatus.code : CabStatus → Nat
  | .vacant => 1 | .hired => 2 | .stopped => 3 | .unavailable => 4

/-- ACTIVE, WARNED, PASSIVE are numbered 1 to 3; a beacon is not keyed in the other two (R6, R200). -/
def LinkState.code : LinkState → Nat
  | .active => 1 | .warned => 2 | .passive => 3 | .silent => 4 | .recovering => 5

def RefuseReason.code : RefuseReason → Nat
  | .driver => 1 | .timeout => 2 | .busy => 3 | .unavailable => 4

def ReceiptKind.code : ReceiptKind → Nat
  | .read => 1 | .reply => 2

def Phase.code : Phase → Nat
  | .open => 1 | .cleared => 2

/-- Flags and presence of a TRIP_REPORT: bits 0..3 the flags, bit 7 a job id (R202). -/
def tripFlagByte (f : TripFlags) (job : Bool) : Nat :=
  (if f.fareLimit then 1 else 0) + (if f.pulseAnomaly then 2 else 0) + (if f.emergencyDuringTrip then 4 else 0)
    + (if f.powerInterrupted then 8 else 0) + (if job then 128 else 0)

/-- A beacon's fields: form, cab status, link state, zone, and the cell in a full one (R202). -/
def beaconBytes (full : Bool) (b : BeaconInfo) : List Byte :=
  [byteOf (if full then 1 else 2), byteOf b.status.code, byteOf b.link.code, byteOf b.zone]
    ++ b.cell.elim [] cellBytes

/-- The payload bytes of a frame to be sent (R202). -/
def TxPayload.bytes : TxPayload → List Byte
  | .beacon full info => info.elim [] (beaconBytes full)
  | .bid id rank cell => offerIdBytes id ++ toBytes 1 rank ++ toBytes 3 (cell.x * 4096 + cell.y)
  | .accept id => offerIdBytes id
  | .refuse id reason => offerIdBytes id ++ [byteOf reason.code]
  | .tripReport t =>
    toBytes 2 t.number ++ [byteOf (tripFlagByte t.flags t.jobId.isSome)] ++ t.jobId.elim [] offerIdBytes
      ++ toBytes 4 t.startTime ++ toBytes 4 t.endTime ++ toBytes 3 t.hiredDistance ++ toBytes 3 t.waiting
      ++ toBytes 3 t.charged ++ toBytes 3 t.fare ++ listBytes extraBytes t.extras
  | .receipt n kind index =>
    toBytes 2 n ++ [byteOf kind.code] ++ (if kind = .reply then toBytes 1 index else [])
  | .emergency a rep phase cell =>
    toBytes 2 a.origin ++ toBytes 1 a.alarm ++ toBytes 2 rep ++ [byteOf phase.code] ++ cellBytes cell
  | .emergencyAck a => toBytes 2 a.origin ++ toBytes 1 a.alarm
  | .data b => b

/-- Kinds whose unicast frames set the needs-LACK flag (R4). -/
def needsLackKind : FrameKind → Bool
  | .bid | .accept | .refuse | .tripReport | .message | .receipt | .terminalData => true
  | .beacon | .offer | .award | .withdraw | .emergency | .emergencyAck | .lack => false

def PendEntry.needsLack (e : PendEntry) : Bool := e.unicast && needsLackKind e.payload.kind

/-- The frame of an entry as this station sends it (R4, R5). -/
def PendEntry.frame (e : PendEntry) (station : Nat) : RxFrame :=
  { fleet := e.fleet, source := station, dest := e.dest, seq := e.seq.getD 0, hop := e.hop, needsLack := e.needsLack,
    relayed := e.relayed, payload := e.payload.bytes }

/-! ## Keying (R5, R8, R9, R56) -/

def cabStatus (s : State) : CabStatus :=
  match s.fare.meter with
  | .hired => .hired
  | .stopped => .stopped
  | .vacant => if s.offers.available then .vacant else .unavailable

/-- A BEACON's payload is filled in from the state at keying (R56). -/
def fillBeacon (s : State) : TxPayload → TxPayload
  | .beacon full _ =>
    .beacon full (some { status := cabStatus s, zone := s.rx.zones.headD 0,
                         cell := if full then some s.cell else none, link := s.link.state })
  | p => p

/-- The first attempt takes the counter's sequence; later attempts keep it (R5). -/
def giveSequence (counter : Nat) (e : PendEntry) : PendEntry :=
  { e with seq := some (e.seq.getD counter) }

/-- The transmitter is keyed for the held entry (R8, R9, R10). -/
def keyEntry (e : PendEntry) (s : State) : State :=
  let e' := { giveSequence s.link.seqCounter e with state := .onAir, payload := fillBeacon s e.payload }
  let frame := e'.frame s.station
  { s with
    tx.queue := updateWhere (fun a => a.uid == e.uid) (fun _ => e') s.tx.queue
    link.seqCounter := if e.seq.isNone then wrapInc 255 s.link.seqCounter else s.link.seqCounter
    link.side := .onAir
    link.deferral := none
    link.keyed := true
    link.keyFault := false
    link.lackHeard := false
    link.decisionWaits := false
    link.txFrame := encodeFrame e'.payload.kind frame
    link.txSlots := airtime frame.payload.length }

/-- The transmitter is unkeyed. -/
def unkey (s : State) : State := { s with link.keyed := false, link.txFrame := [], link.txSlots := 0 }

/-- A BID held past its window, or waiting as it ends, is removed with NO_LACK; no count changes (R10, R45). -/
def bidUnsent (e : PendEntry) (s : State) : State := removeUnkeyed e .noLack false s

/-- The row BID_KEYING_BOUNDARY: the free slots of the held BID are counted (R10). -/
def bidKeyingBoundary (s : State) : State :=
  match heldEntry s, s.link.deferral with
  | some e, some d =>
    if e.cls = .bid ∧ d.started = true ∧ d.slots = 0 ∧ channelFree s = true then
      if e.windowEnded then bidUnsent e s else keyEntry e s
    else s
  | _, _ => s

/-- The row DEFERRAL_COUNT_RUN_OUT: the count stands at 0 with the channel free (R9). -/
def deferralCountRunOut (s : State) : State :=
  match heldEntry s, s.link.deferral with
  | some e, some d =>
    if e.cls ≠ .bid ∧ d.started = true ∧ d.slots = 0 ∧ channelFree s = true then keyEntry e s else s
  | _, _ => s

/-- The BID entry of an offer whose window has not ended. -/
def openBid (id : OfferId) (s : State) : Option PendEntry :=
  s.tx.queue.find? fun e => e.cls == .bid && e.ref == .offer id && !e.windowEnded

/-- The row BID_SLOT_ARRIVES: the BID becomes eligible; with the channel free and taken it is keyed at this boundary,
otherwise the busy case follows (R10, R44, R45). -/
def bidSlotArrives (id : OfferId) (s : State) : State :=
  match openBid id s with
  | some b =>
    if s.running = true ∧ b.state = .waiting ∧ b.eligible = false then
      let s := updateEntry b.uid (fun e => { e with eligible := true }) s
      let free := channelFree s
      let s := if s.link.side = .idle then accessOpportunity free s else displace free s
      match findEntry b.uid s with
      | some e => if e.state = .deferring ∧ e.attempts = 0 ∧ free = true then keyEntry e s else s
      | none => s
    else s
  | none => s

/-- The row BID_WINDOW_END: a BID not on the air is removed; one on the air may not be keyed again (R45). -/
def bidWindowEnd (id : OfferId) (s : State) : State :=
  match openBid id s with
  | some b =>
    if s.running then
      if b.unkeyed then bidUnsent b s else updateEntry b.uid (fun e => { e with windowEnded := true }) s
    else s
  | none => s

/-! ## Attempts and their ends (R11 to R13, R46, R51) -/

/-- The entry of a unicast attempt that ended without LACK goes back to WAITING, or leaves with NO_LACK: after its fourth
attempt, past a BID's window end, or when its retraction was asked (R10, R13, R45, R46, R51). -/
def attemptFailed (e : PendEntry) (s : State) : State :=
  let n := e.attempts + 1
  let e' := { e with attempts := n }
  if e.state = .retractPending then finishEntry e' .noLack true s
  else if Config.maxAttempts ≤ n ∨ e.windowEnded = true then finishEntry e' .noLack false s
  else updateEntry e.uid (fun e => { e with attempts := n, state := .waiting }) s

/-- The entry of an exchange that reached its destination, or was broadcast, leaves with that outcome (R12, R13, R51). -/
def attemptDone (e : PendEntry) (o : TxOutcome) (s : State) : State :=
  finishEntry { e with attempts := e.attempts + 1 } o (e.state == .retractPending) s

/-- The link controller goes IDLE after an exchange. -/
def goIdle (s : State) : State :=
  { s with link.side := .idle, link.deferral := none, link.lackHeard := false, link.decisionWaits := false }

/-- The decision at the close of the own ack gap (R12, R13). The link state is evaluated after the entry is handed back or
given its outcome (R48). DESIGN CHOICE (unsafe, log 37): so are the moves among ACTIVE, WARNED and PASSIVE, whose LINK_STATE comes
after the owner's notices. -/
def decideAttempt (s : State) : State :=
  match heldEntry s with
  | some e =>
    if s.link.lackHeard then
      let s := setFault .none { goIdle s with link.sfc := sfcDrop s.link.sfc }
      evaluateLink (attemptDone e .delivered s)
    else
      let s := setFault .noLack { goIdle s with link.sfc := sfcRise s.link.sfc }
      evaluateLink (attemptFailed e s)
  | none => goIdle s

/-- The row ACK_GAP_CLOSES: while a frame is still being received the decision waits for its end (R12). DESIGN CHOICE (unsafe,
log 34): any carrier of another station counts as one, also a carrier in which no frame start has been found. -/
def ackGapCloses (s : State) : State :=
  if s.link.side = .ackWait ∧ s.link.gap = some .ownAck ∧ s.running = true then
    let s := { s with link.gap := none }
    if s.link.carrier then { s with link.decisionWaits := true }
    else channelBecomesFree (decideAttempt s)
  else s

/-- The row IDLE_GAP_CLOSES: the own broadcast's exchange ends BROADCAST_SENT (R13). -/
def idleGapCloses (s : State) : State :=
  match heldEntry s with
  | some e =>
    if s.link.side = .onAir ∧ s.link.keyed = false ∧ s.running = true then
      let s := { goIdle s with link.gap := if s.link.gap = some .ownIdle then none else s.link.gap }
      channelBecomesFree (attemptDone e .broadcastSent (setFault .none s))
    else s
  | none => s

/-- A frame that only completes its airtime: under DORMANT a unicast one is handed back with its attempts as they stood and a
broadcast one is BROADCAST_SENT (R49), with the last fault kind NONE when it had no keying fault (R21); under RESTART its entry
goes without a result (R59). DESIGN CHOICE (unsafe, log 42): a unicast exchange that DORMANT ends leaves the last fault kind as it
stands, and so does any frame left by RESTART, a broadcast without a fault among them. DESIGN CHOICE (unsafe, log 46): the attempt
that DORMANT cuts is not counted in an entry handed back, and is counted in one whose retraction was asked (R49, R57). DESIGN
CHOICE (unsafe, log 64): under DORMANT a broadcast of any class is BROADCAST_SENT, a TERMINAL_DATA among them. -/
def runOffEnds (why : RunOff) (faulted : Bool) (s : State) : State :=
  match heldEntry s with
  | some e =>
    match why with
    | .restart => dequeue e.uid s
    | .dormant =>
      if e.unicast then
        if e.state = .retractPending then attemptFailed e s
        else updateEntry e.uid (fun e => { e with state := .waiting }) s
      else attemptDone e .broadcastSent (if faulted then s else setFault .none s)
  | none => s

/-- A keying-faulted frame's end (R11): a unicast attempt ends without a LACK, a broadcast is BROADCAST_SENT. While the
link is SILENT or RECOVERING a BID leaves with NO_LACK (R15, R48). DESIGN CHOICE (unsafe, log 45): the broadcast ends as its
airtime ends (R11), not at the close of an idle gap (R13, R43, R46). -/
def faultedEnds (e : PendEntry) (s : State) : State :=
  if e.unicast then
    if e.cls = .bid ∧ s.link.state.mute = true ∧ e.state ≠ .retractPending then
      finishEntry { e with attempts := e.attempts + 1 } .noLack false s
    else attemptFailed e s
  else attemptDone e .broadcastSent s

/-- The gap an own frame calls for (R3). DESIGN CHOICE (unsafe, log 44): after a keying-faulted own frame it is held like the
gap of another station's frame, which GAP_CLOSES closes. -/
def ownGap (e : PendEntry) : Gap := if e.needsLack then .ack else .idle

/-- The row END_OF_AIRTIME (R2, R3, R8, R11, R15). A LACK's keying ends; its state is left at the close of the gap. DESIGN CHOICE
(unsafe, log 43): a frame that only runs off starts no gap, also where the part is RUNNING again as its airtime ends. -/
def endOfAirtime (s : State) : State :=
  if s.link.keyed = false then s
  else
    let s := unkey s
    match s.link.runOff with
    | some why => runOffEnds why s.link.keyFault { goIdle s with link.runOff := none, link.keyFault := false }
    | none =>
      if s.link.side = .onAir then
        match heldEntry s with
        | some e =>
          if s.link.keyFault then
            faultedEnds e { goIdle s with link.gap := some (ownGap e), link.keyFault := false }
          else if e.needsLack then
            updateEntry e.uid (fun e => { e with state := if e.state = .onAir then .awaitLack else e.state })
              { s with link.side := .ackWait, link.gap := some .ownAck }
          else { s with link.gap := some .ownIdle }
        | none => goIdle s
      else s

/-- The row KEYING_FAULT: once for each frame keyed, the last fault kind becomes KEYING and SFC rises (R11, R16, R21). A frame that
only runs off after ENTER_DORMANT or RESTART changes no count (R15), nor does one outside RUNNING (R22). -/
def keyingFault (s : State) : State :=
  if s.link.keyed = true ∧ s.link.keyFault = false then
    let t := setFault .keying { s with link.keyFault := true }
    if s.link.runOff = none ∧ s.running = true then evaluateLink { t with link.sfc := sfcRise s.link.sfc } else t
  else s

/-! ## Carrier and gaps (R3, R9, R20, R22) -/

/-- Carrier is detected and is not the own transmission: the channel is busy at once (R3), a deferral is abandoned and its
entry handed back (R9, R10), the partial span and the listen-in start again (R20, R22). DESIGN CHOICE (unsafe, log 54): a carrier
of another station that rises while the own transmitter is keyed is not taken. -/
def carrierAppears (s : State) : State :=
  if s.link.keyed || s.link.carrier then s
  else if s.running then
    handBackDeferring
      { s with
        link.carrier := true
        link.carrierInAckGap := s.link.gap = some .ack || s.link.gap = some .ownAck
        link.partialSpan := 0
        link.listenIn := s.link.listenIn.map fun _ => 0 }
  else { s with link.carrier := true }

/-- The row GAP_CLOSES: a gap after another station's carrier or an own LACK closes; a LACK's state is left with it (R3, R8,
R14). DESIGN CHOICE (unsafe, log 55): a SLOT_BOUNDARY that follows is a later boundary. -/
def gapCloses (s : State) : State :=
  if s.link.gap = some .ownAck ∨ s.link.gap = some .ownIdle ∨ s.link.gap = none ∨ s.running = false then s
  else
    let s := { s with link.gap := none }
    let s := if s.link.side = .lacking then goIdle { unkey s with link.keyFault := false } else s
    channelBecomesFree s

/-- One slot of a running count passes on a free channel; the first boundary starts a count that has not started (R1, R9,
R10). -/
def countSlot (s : State) : State :=
  match s.link.deferral with
  | some d =>
    if channelFree s then
      { s with link.deferral := some (if d.started then { d with slots := d.slots - 1 } else { d with started := true }) }
    else s
  | none => s

/-- The row SLOT_BOUNDARY (R1, R9, R10, R20, R22). DESIGN CHOICE (safe, log 35): a slot in which the own transmitter is keyed is
not quiet, also after a keying fault. -/
def slotBoundary (s : State) : State :=
  if s.link.slotClock = false then s
  else
    let quiet := !s.link.carrier && !s.link.keyed
    let s := countSlot s
    match s.link.listenIn with
    | some n => if quiet then { s with link.listenIn := some (min 3 (n + 1)) } else s
    | none => if s.link.state = .recovering ∧ quiet = true then quietSlot s else s

/-- The row QUIET_SPAN_COMPLETES: the boundary at which the partial span reaches 6 (R20, log 6). -/
def quietSpanCompletes (s : State) : State :=
  if s.link.slotClock = true ∧ s.link.state = .recovering ∧ s.link.listenIn = none ∧ s.link.partialSpan = 5
      ∧ s.link.carrier = false ∧ s.link.keyed = false then quietSlot s
  else s

/-- The row LISTEN_IN_COMPLETES: 3 slots without carrier, the last of them counted or falling now (R22, log 6). -/
def listenInCompletes (s : State) : State :=
  match s.link.listenIn with
  | some n =>
    if 2 ≤ n ∧ s.link.slotClock = true ∧ s.link.carrier = false then
      channelBecomesFree { s with link.listenIn := none }
    else s
  | none => s

/-- Entry to RUNNING: the slot clock starts and the link controller listens in (R1, R22). -/
def startListening (s : State) : State :=
  { s with link.slotClock := true, link.listenIn := some 0 }

/-! ## The end of a carrier period (R3, R7, R12) -/

/-- The gap an end of carrier starts; none when the carrier began during an ack gap (R3). -/
def gapAfter (g : Gap) (s : State) : State :=
  let s := { s with link.carrier := false, link.carrierInAckGap := false,
                    link.gap := if s.link.carrierInAckGap then s.link.gap else some g }
  s

/-- What the end of carrier leaves: a decision that waited for it (R12), and the channel free when no gap runs (R3). DESIGN CHOICE
(unsafe, log 37): the notices of what was heard come before those of the decision. -/
def afterCarrier (s : State) : State :=
  channelBecomesFree (if s.link.decisionWaits then decideAttempt s else s)

/-- A carrier period that was not announced has still begun before it ends (log 7). -/
def ensureCarrier (s : State) : State := if s.link.carrier then s else carrierAppears s

/-- HFC rises and the last fault kind is written (R7, R17, R21). -/
def badCarrier (k : Nat) (f : FaultKind) (s : State) : State :=
  evaluateLink (setFault f { s with link.hfc := hfcRise k s.link.hfc })

/-- A carrier period that hands nothing on: CHECK, CUT_OFF or NO_FRAME (R7). -/
def unreadCarrier (o : FrameOutcome) (s : State) : State :=
  let s :=
    match o with
    | .check => badCarrier 1 .check s
    | .cutOff => badCarrier 2 .cutOff s
    | .noFrame | .pass _ _ => s
  afterCarrier (gapAfter .unread s)

end Sys2Proof.Machine
end

