-- ==== Sys2Proof/Machine/Messages.lean ====
section
/-! DEFINITION. The message unit (chapter 8): messages heard, their lifetime, reading and replying, receipts, and the host
cursor on the terminal pages. -/

namespace Sys2Proof.Machine

def findMessage (p : MsgPair) (s : State) : Option Message := s.msg.queue.find? fun m => m.pair == p

def updateMessage (p : MsgPair) (f : Message → Message) (s : State) : State :=
  { s with msg.queue := updateWhere (fun m => m.pair == p) f s.msg.queue }

/-! ## A message arrives (R149 to R151) -/

/-- READ, REPLIED and EXPIRED entries are the first choice for eviction (R150). -/
def Message.settled (m : Message) : Bool := m.state == .read || m.state == .replied || m.state == .expired

/-- The entry a full queue evicts: the oldest settled one, otherwise the oldest TEXT in SHOWN (R150). -/
def evictable (q : List Message) : Option Message :=
  match q.find? Message.settled with
  | some m => some m
  | none => q.find? fun m => m.kind == .text && m.state == .shown

def Message.owesReceipt (m : Message) : Bool :=
  match m.receipt with
  | some (.owed _) => true
  | _ => false

/-- An evicted entry leaves; a receipt it owed is lost and counted (R150, R155). -/
def evict (m : Message) (s : State) : State :=
  let s := { s with msg.queue := s.msg.queue.filter fun e => e.pair != m.pair }
  if m.owesReceipt then { s with msg.receiptLost := satAdd 65535 s.msg.receiptLost 1 } else s

/-- A stored message becomes an entry in NEW; its pair joins the recent list, MESSAGE_NEW is raised, the pages are composed,
and a PRIORITY_TEXT makes page 2 the shown page (R150, R151, R158, R159). DESIGN CHOICE (unsafe, log 59): page 2 is made the shown
page before the pages are composed, once. -/
def storeMessage (p : MsgPair) (fleet : Nat) (f : MessageFields) (s : State) : State :=
  let m : Message :=
    { pair := p, kind := f.kind, fleet := fleet, text := f.text, replies := f.replies,
      lifetime := if f.lifetime = 0 then none else some (60 * f.lifetime), arrival := s.port.clock, state := .new,
      replyChosen := none, receipt := none }
  let s := { s with msg.queue := s.msg.queue ++ [m],
                    msg.recent := pushDropHead Config.recentCapacity s.msg.recent p }
  let s := raise .messageNew (.message p) s
  if f.kind = .priorityText then showPage 2 s else composeMessages s

/-- A MESSAGE handed over by the receive filter (R149, R150). DESIGN CHOICE (unsafe, log 67): where it evicts an entry the pages are
composed once, after the storing (R158). -/
def messageHeard (source dest fleet : Nat) (f : MessageFields) (s : State) : State × Verdict :=
  let p : MsgPair := ⟨source, f.number⟩
  if dest ≠ s.station then (s, .notStored)
  else if (findMessage p s).isSome = true ∨ s.msg.recent.contains p = true then (s, .ackOnly)
  else if s.msg.queue.length < Config.messageCapacity then (storeMessage p fleet f s, .stored)
  else
    match evictable s.msg.queue with
    | some m => (storeMessage p fleet f (evict m s), .stored)
    | none => ({ s with msg.refusals := satAdd 65535 s.msg.refusals 1 }, .notStored)

/-! ## Receipts (R155) -/

def receiptEntry (m : Message) (kind : ReceiptKind) : PendEntry :=
  newEntry .messageUnit (.message m.pair) .reply
    (.receipt m.pair.number kind (m.replyChosen.getD 0)) m.pair.source m.fleet

/-- A RECEIPT is offered; the field becomes QUEUED or OWED (R155). -/
def offerReceipt (p : MsgPair) (kind : ReceiptKind) (s : State) : State :=
  match findMessage p s with
  | none => s
  | some m =>
    match offerEntry (receiptEntry m kind) s with
    | (s, .joined uid) => updateMessage p (fun m => { m with receipt := some (.queued uid) }) s
    | (s, .full) | (s, .link) => updateMessage p (fun m => { m with receipt := some (.owed kind) }) s

/-- An OWED receipt is offered again (R152, R153, R154, R155). -/
def reofferReceipt (p : MsgPair) (s : State) : State :=
  match (findMessage p s).bind (·.receipt) with
  | some (.owed kind) => offerReceipt p kind s
  | _ => s

def receiptField (p : MsgPair) (s : State) : Reply := .receipt ((findMessage p s).bind (·.receipt))

/-! ## Reading and replying (R153, R154) -/

/-- MSG_READ (R153). DESIGN CHOICE (unsafe, log 76): a pair with a source outside 1 to 4000 is answered UNKNOWN_ID, as any pair
without an entry, and not RANGE. -/
def msgRead (p : MsgPair) (s : State) : State × Status × Reply :=
  match findMessage p s with
  | none => (s, .unknownId, .bare)
  | some m =>
    let s := reofferReceipt p s
    match m.state with
    | .new | .shown =>
      let s := composeMessages (updateMessage p (fun m => { m with state := .read }) s)
      let s := if m.kind = .text then s else offerReceipt p .read s
      (s, .ok, receiptField p s)
    | .read | .replied => (s, .ok, receiptField p s)
    | .expired => (s, .state, .bare)

/-- MSG_REPLY (R154). -/
def msgReply (p : MsgPair) (index : Nat) (s : State) : State × Status × Reply :=
  match findMessage p s with
  | none => (s, .unknownId, .bare)
  | some m =>
    let s := reofferReceipt p s
    if m.kind ≠ .query then (s, .state, .bare)
    else if m.state = .replied ∨ m.state = .expired then (s, .state, .bare)
    else if m.replies.length ≤ index then (s, .range, .bare)
    else
      let s := composeMessages
        (updateMessage p (fun m => { m with state := .replied, replyChosen := some index }) s)
      let s := offerReceipt p .reply s
      (s, .ok, receiptField p s)

/-! ## Lifetime (R152) -/

/-- An entry expires as its lifetime reaches 0 (R152). -/
def expireMessage (p : MsgPair) (s : State) : State :=
  let s := updateMessage p (fun m => { m with state := .expired, lifetime := some 0 }) s
  reofferReceipt p (composeMessages (raise .messageExpired (.message p) s))

/-- A lifetime that stands at 0 and has not yet expired its entry. -/
def Message.overdue (m : Message) : Bool := m.lifetime == some 0 && m.state != .expired

/-- A second of every lifetime, and the expiry of the entries that it brings to 0 (R152). DESIGN CHOICE (unsafe, log 37):
several expiries of one second come one after another in queue order. -/
def messageSecond (s : State) : State :=
  let queue := s.msg.queue.map fun m => { m with lifetime := m.lifetime.map (· - 1) }
  (queue.filter Message.overdue).foldl (fun s m => expireMessage m.pair s) { s with msg.queue := queue }

/-- The row MESSAGE_EXPIRY: the second that brings the entry's lifetime to 0 (R152, log 6). -/
def messageExpiry (p : MsgPair) (s : State) : State :=
  match findMessage p s with
  | some m =>
    if s.awake = true ∧ m.lifetime.any (fun n => decide (n ≤ 1)) = true ∧ m.state ≠ .expired then expireMessage p s else s
  | none => s

/-! ## The host cursor (R161 to R163) -/

/-- Column, then line, then the page's start; never another page (R161). -/
def advance (c : Cursor) : Cursor :=
  if c.col < 19 then { c with col := c.col + 1 }
  else if c.line < 3 then { c with line := c.line + 1, col := 0 }
  else { c with line := 0, col := 0 }

def positionOk (c : Cursor) : Bool := decide (c.page ≤ 7) && decide (c.line ≤ 3) && decide (c.col ≤ 19)

def lineAttrOf : Nat → Option LineAttr
  | 1 => some .normal | 2 => some .inverse | 3 => some .blink | _ => none

/-- The last two tests of R161's table. -/
def positionStatus (position : Option Cursor) (s : State) : Status :=
  match position with
  | none => .ok
  | some c => if s.msg.editMode = true ∨ ¬(c.page = 6 ∨ c.page = 7) then .state else .ok

/-- Characters are written at the cursor, which advances; an attribute goes to every line that received one (R161). -/
def writeText (attr : Option LineAttr) : List Byte → State → State
  | [], s => s
  | b :: text, s =>
    let c := s.msg.cursor
    let s := setChar c.page c.line c.col b s
    let s := attr.elim s fun a => setAttr c.page c.line a s
    writeText attr text { s with msg.cursor := advance c }

/-- DISPLAY_WRITE (R161). -/
def displayWrite (position : Option Cursor) (text : List Byte) (attr : Option Nat) (stray : Nat) (s : State) :
    State × Status × Reply :=
  if stray = 0 ∧ position.all positionOk = true ∧ inRange 1 80 text.length = true ∧ textOk text = true
      ∧ attr.all (fun a => (lineAttrOf a).isSome) = true then
    if positionStatus position s = .ok then
      let s := writeText (attr.bind lineAttrOf) text { s with msg.cursor := position.getD s.msg.cursor }
      (s, .ok, .cursor s.msg.cursor)
    else (s, .state, .bare)
  else (s, .range, .bare)

def charAt (c : Cursor) (s : State) : Byte := ((pageOf s c.page).getD c.line .blank).chars.getD c.col space

def attrAt (c : Cursor) (s : State) : LineAttr := ((pageOf s c.page).getD c.line .blank).attr

/-- The positions a read of `n` characters visits. -/
def visited : Nat → Cursor → List Cursor
  | 0, _ => []
  | n + 1, c => c :: visited n (advance c)

/-- The cursor after `n` advances. -/
def advanceBy : Nat → Cursor → Cursor
  | 0, c => c
  | n + 1, c => advanceBy n (advance c)

/-- The lines some positions lie on (R162). DESIGN CHOICE (unsafe, log 77): each line stands once, also where the wrap meets it
again, in the order first met. -/
def linesOf (l : List Cursor) : List Cursor :=
  l.foldl (fun acc c => if acc.any (·.line == c.line) then acc else acc ++ [c]) []

/-- DISPLAY_READ: the characters from the cursor onward, the attribute of each line they come from, and the cursor, which
stays in edit mode (R162, R163). -/
def displayRead (position : Option Cursor) (count stray : Nat) (s : State) : State × Status × Reply :=
  if stray = 0 ∧ position.all positionOk = true ∧ inRange 1 80 count = true then
    if positionStatus position s = .ok then
      let start := position.getD s.msg.cursor
      let cells := visited count start
      let s := { s with msg.cursor := if s.msg.editMode then start else advanceBy count start }
      (s, .ok, .chars (cells.map fun c => charAt c s) ((linesOf cells).map fun c => attrAt c s) s.msg.cursor)
    else (s, .state, .bare)
  else (s, .range, .bare)

/-- DISPLAY_EDIT_BEGIN (R163). -/
def displayEditBegin (s : State) : State × Status :=
  if s.msg.editMode then (s, .state)
  else ({ s with msg.editMode := true, msg.editMark := some s.msg.cursor }, .ok)

/-- DISPLAY_EDIT_END (R163). -/
def displayEditEnd (s : State) : State × Status :=
  if s.msg.editMode then
    ({ s with msg.editMode := false, msg.cursor := s.msg.editMark.getD s.msg.cursor }, .ok)
  else (s, .state)

/-- DISPLAY_SELECT (R159). -/
def displaySelect (n : Nat) (s : State) : State × Status :=
  if n ≤ 7 then (showPage n s, .ok) else (s, .range)

end Sys2Proof.Machine
end

