-- ==== Sys2Proof/Machine/Reception.lean ====
section
/-! DEFINITION. The receive filter (chapter 2) and the arrival of a frame at the link controller (R7, R12, R14): screens,
validation, routing, the acceptance list, the receive queues, and the LACK. -/

namespace Sys2Proof.Machine

/-! ## Screens (R24 to R26) -/

/-- The frame carries this station's number as its source (R24). -/
def ownSource (f : RxFrame) (s : State) : Bool := s.link.station == some f.source

/-- Own fleet code, inter-fleet, or one of the emergency kinds (R25). -/
def fleetPasses (k : FrameKind) (f : RxFrame) (s : State) : Bool :=
  s.link.fleet == some f.fleet || f.fleet == 0 || k == .emergency || k == .emergencyAck

/-- This station, a zone of the zone set, FLEET or ALL; a BID passes whatever its destination (R26). -/
def destPasses (k : FrameKind) (f : RxFrame) (s : State) : Bool :=
  k == .bid || s.link.station == some f.dest || f.dest == destFleet || f.dest == destAll
    || (inRange 0xF000 0xF0FF f.dest && s.rx.zones.contains (f.dest - 0xF000))

/-! ## The acceptance list and the receive queues (R30 to R34) -/

/-- R14's conditions on a frame that passed its check. None is owed for an EMERGENCY or an EMERGENCY_ACK (R174). DEDUCED (safe,
log 61): of any origin. -/
def lackOwed (k : FrameKind) (f : RxFrame) (s : State) : Bool :=
  f.needsLack && s.link.station == some f.dest && !ownSource f s && k != .emergency && k != .emergencyAck

/-- The link controller is in no exchange of its own (R8). -/
def TxSide.noExchange (t : TxSide) : Bool := t == .idle || t == .deferring

/-- Whether an owed LACK can be keyed: not in SILENT or RECOVERING (R14). DEDUCED (safe, log 9): only at the start of an ack
gap, which the end of a carrier that began in an ack gap does not give (R3), and not within an own exchange. -/
def lackAllowed (s : State) : Bool :=
  !s.link.state.mute && s.link.side.noExchange && !s.link.carrierInAckGap

/-- The LACK state of a received entry (R32). -/
def lackStateOf (k : FrameKind) (f : RxFrame) (s : State) : LackState :=
  if lackOwed k f s then (if lackAllowed s then .sent else .withheld) else .notOwed

def RxPayload.kind : RxPayload → FrameKind
  | .beacon _ => .beacon
  | .data _ => .terminalData

/-- An entry matches by kind and source range (R31). -/
def acceptMatches (p : RxPayload) (source : Nat) (e : AcceptEntry) : Bool :=
  (if p.kind = .terminalData then e.terminalData else e.beacon) && inRange e.lo e.hi source

/-- The first entry that matches decides, otherwise the default action (R31). -/
def acceptAction (p : RxPayload) (source : Nat) (s : State) : Action :=
  ((s.rx.acceptance.find? (acceptMatches p source)).map (·.action)).getD s.rx.defaultAction

def rxEntry (f : RxFrame) (p : RxPayload) (s : State) : RxEntry :=
  { source := f.source, dest := f.dest, fleet := f.fleet, seq := f.seq, arrival := s.port.clock,
    lack := lackStateOf p.kind f s, payload := p }

/-- A frame offered to a receive queue: joined, refused in BLOCKING mode, or put in place of the oldest in OVERWRITE mode;
the new queue, the new lost count, and whether it was stored (R33, R34). -/
def queueJoin (cap : Nat) (mode : QueueMode) (q : List RxEntry) (lost : Nat) (e : RxEntry) :
    List RxEntry × Nat × Bool :=
  if q.length < cap then (q ++ [e], lost, true)
  else
    match mode with
    | .blocking => (q, satAdd 255 lost 1, false)
    | .overwrite => (q.tail ++ [e], satAdd 255 lost 1, true)

def storedVerdict (b : Bool) : Verdict := if b then .stored else .notStored

/-- RECEIVED is raised for a stored frame (R33, R34). -/
def receivedNotice (q : RxQueue) (b : Bool) (s : State) : State := if b then raise .received (.queue q) s else s

def toPriority (e : RxEntry) (s : State) : State × Verdict :=
  let r := queueJoin Config.priorityCapacity s.rx.priorityMode s.rx.priorityQueue s.rx.priorityLost e
  (receivedNotice .priority r.2.2 { s with rx.priorityQueue := r.1, rx.priorityLost := r.2.1 }, storedVerdict r.2.2)

def toOrdinary (e : RxEntry) (s : State) : State × Verdict :=
  let r := queueJoin Config.ordinaryCapacity s.rx.ordinaryMode s.rx.ordinaryQueue s.rx.ordinaryLost e
  (receivedNotice .ordinary r.2.2 { s with rx.ordinaryQueue := r.1, rx.ordinaryLost := r.2.1 }, storedVerdict r.2.2)

/-- A BEACON or TERMINAL_DATA frame by its action (R31). -/
def forHost (f : RxFrame) (p : RxPayload) (s : State) : State × Verdict :=
  match acceptAction p f.source s with
  | .toPriority => toPriority (rxEntry f p s) s
  | .toOrdinary => toOrdinary (rxEntry f p s) s
  | .reject => (s, .notStored)

/-! ## Validation and routing (R28, R29) -/

/-- The header's field ranges (R28). DESIGN CHOICE (unsafe, log 71): a destination is never out of range, so that a BID is valid
with any that its screen lets past (R26). -/
def headerOk (k : FrameKind) (f : RxFrame) : Bool :=
  inRange 1 4000 f.source && (f.hop == 0 || k == .emergency || k == .emergencyAck)

/-- A valid frame goes to its owner, whose answer is the verdict; none for a malformed payload (R28, R29). -/
def route (k : FrameKind) (f : RxFrame) (s : State) : Option (State × Verdict) :=
  match k with
  | .offer => (parseOffer f.payload).map fun p => offerHeard f.source p s
  | .bid => (parseBid f.payload).map fun p => bidHeard f.source p s
  | .award => (parseAward f.payload).map fun p => awardHeard p s
  | .withdraw => (parseOfferId f.payload).map fun id => withdrawHeard id s
  | .message => (parseMessage f.payload).map fun p => messageHeard f.source f.dest f.fleet p s
  | .emergency => (parseEmergency f.payload).map fun p => emergencyHeard p f.hop s
  | .emergencyAck => (parseEmergencyAck f.payload).map fun id => ackHeard id f.hop s
  | .beacon => (parseBeacon f.payload).map fun p => forHost f (.beacon p) s
  | .terminalData => (parseData f.payload).map fun p => forHost f (.data p) s
  | .accept => (need (unownedOk .accept f.payload)).map fun _ => (s, .notStored)
  | .refuse => (need (unownedOk .refuse f.payload)).map fun _ => (s, .notStored)
  | .tripReport => (need (unownedOk .tripReport f.payload)).map fun _ => (s, .notStored)
  | .receipt => (need (unownedOk .receipt f.payload)).map fun _ => (s, .notStored)
  | .lack => some (s, .notStored)

def countMalformed (s : State) : State := { s with rx.malformed := satAdd 65535 s.rx.malformed 1 }

/-- The three screens pass the frame (R24, R25, R26). -/
def screened (k : FrameKind) (f : RxFrame) (s : State) : Bool :=
  !ownSource f s && fleetPasses k f s && destPasses k f s

/-- The five steps of an arrival and its verdict (R23). -/
def filterFrame (k : FrameKind) (f : RxFrame) (s : State) : State × Verdict :=
  if screened k f s then
    if headerOk k f then
      match route k f s with
      | some r => r
      | none => (countMalformed s, .notStored)
    else (countMalformed s, .notStored)
  else (s, .notStored)

/-! ## The LACK (R12, R14) -/

/-- A LACK counts when the own ack gap runs, or its decision waits, and it names this station, the attempt's destination and
the attempt's sequence (R12). -/
def lackMatches (f : RxFrame) (s : State) : Bool :=
  match heldEntry s with
  | some e =>
    s.link.side == .ackWait && s.link.station == some f.dest && f.source == e.dest
      && f.payload == [byteOf (e.seq.getD 0)]
  | none => false

def useLack (f : RxFrame) (s : State) : State :=
  if lackMatches f s then { s with link.lackHeard := true } else s

/-- The LACK of a heard frame (R4, R5, R6). -/
def lackFrame (f : RxFrame) (s : State) : RxFrame :=
  { fleet := s.fleet, source := s.station, dest := f.source, seq := f.seq, hop := 0, needsLack := false,
    relayed := false, payload := [byteOf f.seq] }

/-- The transmitter is keyed for a LACK at the start of the ack gap (R2, R14). A BID that is held for its wait goes back to
WAITING first, for while the link controller is LACKING every entry is (R8, R43). -/
def keyLack (f : RxFrame) (s : State) : State :=
  { handBackDeferring s with
    link.side := .lacking
    link.keyed := true
    link.keyFault := false
    link.txFrame := encodeFrame .lack (lackFrame f s)
    link.txSlots := airtime 1 }

/-- Whether the owner's verdict lets the LACK be sent (R14, R23). -/
def Verdict.acked : Verdict → Bool
  | .stored | .ackOnly => true
  | .notStored => false

/-! ## An arrival (R7) -/

/-- PASS lowers HFC (R7, R17). -/
def hearPass (s : State) : State := evaluateLink { s with link.hfc := hfcDrop s.link.hfc }

/-- What a frame that passed its check does inside the part: a LACK is the link controller's, any other kind the filter's
(R7). -/
def takeFrame (k : FrameKind) (f : RxFrame) (s : State) : State × Verdict :=
  if k = .lack then (useLack f s, .notStored) else filterFrame k f s

/-- The end of the carrier of a frame that passed: its gap starts (R3), an owed LACK is keyed (R14), and a decision that
waited is taken (R12). -/
def endOfFrame (k : FrameKind) (f : RxFrame) (v : Verdict) (s : State) : State :=
  let send := lackOwed k f s && v.acked && lackAllowed s
  let s := gapAfter (if f.needsLack then .ack else .idle) s
  afterCarrier (if send then keyLack f s else s)

/-- A frame is heard with a passing check. The part hears nothing while its transmitter is keyed (R7) and decodes nothing
outside RUNNING (R22). -/
def arrive (k : FrameKind) (f : RxFrame) (s : State) : State :=
  if s.link.keyed then s
  else if s.running then
    let r := takeFrame k f (hearPass (ensureCarrier s))
    endOfFrame k f r.2 r.1
  else { s with link.carrier := false }

/-- The row END_OF_CARRIER: the outcome of the bytes recovered (R7, R201). -/
def endOfCarrier (received : List Byte) (s : State) : State :=
  match receiveBytes received with
  | .pass k f => arrive k f s
  | o =>
    if s.link.keyed then s
    else if s.running then unreadCarrier o (ensureCarrier s)
    else { s with link.carrier := false }

end Sys2Proof.Machine
end

