-- ==== Sys2Proof/Machine/ChannelCommands.lean ====
section
/-! DEFINITION. The meanings of the commands that the fleet channel and the slot clock give: one definition each, over the
operations of Link.lean and Reception.lean. -/

namespace Sys2Proof.Machine

/-- SLOT_BOUNDARY (R1, R9, R10, R20, R22). -/
def execSlotBoundary (s : State) : Host.Outcome State Fault Refusal := .next (settle (slotBoundary s))

/-- CARRIER_APPEARS (R3, R9, R20, R22). -/
def execCarrierAppears (s : State) : Host.Outcome State Fault Refusal := .next (settle (carrierAppears s))

/-- END_OF_CARRIER (R7, R3, R17, R21, R201). -/
def execEndOfCarrier (received : List Byte) (s : State) : Host.Outcome State Fault Refusal :=
  .next (settle (endOfCarrier received s))

/-- DEFERRAL_COUNT_RUN_OUT (R9, R5, R56). -/
def execDeferralCountRunOut (s : State) : Host.Outcome State Fault Refusal := .next (settle (deferralCountRunOut s))

/-- BID_SLOT_ARRIVES (R45, R10, R44). -/
def execBidSlotArrives (id : OfferId) (s : State) : Host.Outcome State Fault Refusal :=
  .next (settle (bidSlotArrives id s))

/-- BID_KEYING_BOUNDARY (R10). -/
def execBidKeyingBoundary (s : State) : Host.Outcome State Fault Refusal := .next (settle (bidKeyingBoundary s))

/-- BID_WINDOW_END (R45). -/
def execBidWindowEnd (id : OfferId) (s : State) : Host.Outcome State Fault Refusal :=
  .next (settle (bidWindowEnd id s))

/-- KEYING_FAULT (R11, R16, R21). -/
def execKeyingFault (s : State) : Host.Outcome State Fault Refusal := .next (settle (keyingFault s))

/-- END_OF_AIRTIME (R8, R2, R3, R11, R15). -/
def execEndOfAirtime (s : State) : Host.Outcome State Fault Refusal := .next (settle (endOfAirtime s))

/-- ACK_GAP_CLOSES (R12, R13). -/
def execAckGapCloses (s : State) : Host.Outcome State Fault Refusal := .next (settle (ackGapCloses s))

/-- IDLE_GAP_CLOSES (R13). -/
def execIdleGapCloses (s : State) : Host.Outcome State Fault Refusal := .next (settle (idleGapCloses s))

/-- GAP_CLOSES (R3, R8, R14). -/
def execGapCloses (s : State) : Host.Outcome State Fault Refusal := .next (settle (gapCloses s))

/-- QUIET_SPAN_COMPLETES (R20). -/
def execQuietSpanCompletes (s : State) : Host.Outcome State Fault Refusal := .next (settle (quietSpanCompletes s))

/-- LISTEN_IN_COMPLETES (R22). -/
def execListenInCompletes (s : State) : Host.Outcome State Fault Refusal := .next (settle (listenInCompletes s))

/-- LACK (R12, R7). -/
def execLack (frame : RxFrame) (s : State) : Host.Outcome State Fault Refusal := .next (settle (arrive .lack frame s))

/-- OFFER (R62, R23). -/
def execOffer (frame : RxFrame) (s : State) : Host.Outcome State Fault Refusal :=
  .next (settle (arrive .offer frame s))

/-- BID (R69, R23). -/
def execBid (frame : RxFrame) (s : State) : Host.Outcome State Fault Refusal := .next (settle (arrive .bid frame s))

/-- AWARD (R72, R73, R74, R23). -/
def execAward (frame : RxFrame) (s : State) : Host.Outcome State Fault Refusal :=
  .next (settle (arrive .award frame s))

/-- WITHDRAW (R80, R23). -/
def execWithdraw (frame : RxFrame) (s : State) : Host.Outcome State Fault Refusal :=
  .next (settle (arrive .withdraw frame s))

/-- MESSAGE (R149, R23). -/
def execMessage (frame : RxFrame) (s : State) : Host.Outcome State Fault Refusal :=
  .next (settle (arrive .message frame s))

/-- EMERGENCY (R180, R23). -/
def execEmergency (frame : RxFrame) (s : State) : Host.Outcome State Fault Refusal :=
  .next (settle (arrive .emergency frame s))

/-- EMERGENCY_ACK (R181, R174, R23). -/
def execEmergencyAck (frame : RxFrame) (s : State) : Host.Outcome State Fault Refusal :=
  .next (settle (arrive .emergencyAck frame s))

/-- BEACON (R31, R23). -/
def execBeacon (frame : RxFrame) (s : State) : Host.Outcome State Fault Refusal :=
  .next (settle (arrive .beacon frame s))

/-- TERMINAL_DATA (R31, R23). -/
def execTerminalData (frame : RxFrame) (s : State) : Host.Outcome State Fault Refusal :=
  .next (settle (arrive .terminalData frame s))

/-- UNOWNED_FRAME (R29, R23). -/
def execUnownedFrame (kind : UnownedKind) (frame : RxFrame) (s : State) : Host.Outcome State Fault Refusal :=
  .next (settle (arrive kind.frameKind frame s))

end Sys2Proof.Machine
end

