-- ==== Sys2Proof/Machine/FareEngine.lean ====
section
/-! DEFINITION. The fare engine (chapter 5) and what the trip recorder does with it (chapter 6): meter requests, measuring
intervals, checkpoints, shifts, closing, totals and the upload list. -/

namespace Sys2Proof.Machine

/-! ## Tariffs and limits (R84, R102) -/

/-- A configured tariff by its number, 1 upward (R84). -/
def tariffNo (n : Nat) (s : State) : Option Tariff := if n = 0 then none else s.fare.tariffs[n - 1]?

/-- An increment's worth in progress units (R84). -/
def tariffWorth (t : Tariff) : Nat := t.D * t.T

def noFlags : TripFlags :=
  { fareLimit := false, pulseAnomaly := false, emergencyDuringTrip := false, powerInterrupted := false }

def updateTrip (f : Trip → Trip) (s : State) : State := { s with fare.trip := s.fare.trip.map f }

/-! ## Checkpoints (R104 to R106) -/

def checkpointOf (m : MeterState) (t : Trip) : Checkpoint :=
  { number := t.number, jobId := t.jobId, meter := m, hireTariff := t.hireTariff, tariff := t.tariff,
    tariffList := t.tariffList, startTime := t.startTime, hiredDistance := t.hiredDistance, waiting := t.waiting,
    earned := t.earned, charged := t.charged, freeLeft := t.freeLeft, freeUsed := t.freeUsed, fare := t.fare,
    extras := t.extras, flags := t.flags }

/-- A checkpoint of the open trip is offered: it joins and the counters return to 0, or it stays owed (R105). -/
def offerCheckpoint (s : State) : State :=
  match s.fare.trip with
  | some t =>
    match offerGroup (.checkpoint t.number) [.checkpoint (checkpointOf s.fare.meter t)] s with
    | (s, .joined) =>
      { s with fare.incrementsSince := 0, fare.intervalsSince := 0, fare.checkpointOwed := false }
    | (s, .full) | (s, .sectorFault) => { s with fare.checkpointOwed := true }
  | none => s

/-! ## Meter requests (R87 to R91) -/

/-- The trip a hire forms (R87). -/
def newTrip (n tariff : Nat) (t : Tariff) (s : State) : Trip :=
  { number := n, jobId := jobForTrip s, hireTariff := tariff, tariff := tariff, pendingTariff := none,
    tariffList := [tariff], startTime := s.port.clock, endTime := none, hiredDistance := 0, waiting := 0, earned := 0,
    charged := 0, freeLeft := t.N, freeUsed := 0, fare := t.F, extras := [],
    flags := { noFlags with emergencyDuringTrip := decide (s.emerg.alarm ≠ .quiet) } }

/-- METER_HIRE (R87, R88, R115, R78). DESIGN CHOICE (unsafe, log 38): the offer entries are treated in table order.
DESIGN CHOICE (unsafe, log 37): their notices come before FARE_CHANGED. -/
def meterHire (n : Nat) (s : State) : State × Status × Reply :=
  if s.fare.meter ≠ .vacant then (s, .state, .bare)
  else
    match tariffNo n s with
    | none => (s, .range, .bare)
    | some t =>
      if s.trips.shift.isOpen = false then (s, .noShift, .bare)
      else if (rotation s).length < 3 then (s, .storeFault, .bare)
      else
        let number := wrapIncFromOne s.trips.lastTrip
        let s := { s with
          trips.lastTrip := number
          fare.meter := .hired
          fare.trip := some (newTrip number n t s)
          fare.progress := 0
          fare.incrementsSince := 0
          fare.intervalsSince := 0
          fare.checkpointOwed := false
          fare.opening := true
          fare.restored := false }
        let s := s.offers.table.foldl (hireOnOffer number) s
        (writeFarePage s, .ok, .number number)

/-- The pending tariff after METER_TARIFF names `n` (R89). -/
def pendingAfter (n : Nat) (t : Trip) : Option Nat := if n = t.tariff then none else some n

/-- METER_TARIFF (R89); the page is rewritten when the pending tariff changes (R108). -/
def meterTariff (n : Nat) (s : State) : State × Status :=
  if s.fare.meter ≠ .hired then (s, .state)
  else if (tariffNo n s).isNone then (s, .range)
  else if s.fare.trip.all (fun t => pendingAfter n t == t.pendingTariff) = true then (s, .ok)
  else (writeFarePage (updateTrip (fun t => { t with pendingTariff := pendingAfter n t }) s), .ok)

/-- METER_STOP (R90). -/
def meterStop (s : State) : State × Status :=
  if s.fare.meter ≠ .hired then (s, .state)
  else
    let s := updateTrip (fun t => { t with pendingTariff := none }) { s with fare.meter := .stopped, fare.opening := false }
    (writeFarePage (offerCheckpoint s), .ok)

/-- The fare rises by an extra's amount within its limit (R91, R101). -/
def addExtra (e : Extra) (t : Trip) : Trip :=
  let t := { t with extras := t.extras ++ [e] }
  if t.flags.fareLimit then t
  else if t.fare + e.amount ≤ Config.fareLimit then { t with fare := t.fare + e.amount }
  else { t with fare := Config.fareLimit, flags.fareLimit := true }

/-- METER_EXTRA (R91). -/
def meterExtra (code : Nat) (s : State) : State × Status :=
  match s.fare.trip with
  | none => (s, .state)
  | some t =>
    if s.fare.meter = .vacant then (s, .state)
    else
      match s.fare.catalogue.find? fun e => e.code == code with
      | none => (s, .range)
      | some e => if 8 ≤ t.extras.length then (s, .full) else (writeFarePage (updateTrip (addExtra e) s), .ok)

/-! ## Totals (R119) -/

/-- A vacant interval's distance, and an anomaly, added to one set of totals (R119). -/
def Totals.addVacant (d anomalies : Nat) (t : Totals) : Totals :=
  { t with totalDistance := satAdd 999999999 t.totalDistance d, anomalies := satAdd 65535 t.anomalies anomalies }

def extrasSum (t : Trip) : Nat := (t.extras.map (·.amount)).sum

/-- A closing trip added to one set of totals (R119). -/
def Totals.addTrip (t : Trip) (a : Totals) : Totals :=
  { a with
    totalDistance := satAdd 999999999 a.totalDistance t.hiredDistance
    hiredDistance := satAdd 999999999 a.hiredDistance t.hiredDistance
    hirings := satAdd 9999999 a.hirings 1
    earned := satAdd 999999999 a.earned t.earned
    charged := satAdd 999999999 a.charged t.charged
    fare := satAdd 999999999999 a.fare t.fare
    extras := satAdd 999999999999 a.extras (extrasSum t) }

/-- Vacant distance and anomalies go to the lifetime totals, and to the shift totals while the shift is OPEN (R119). -/
def addVacant (d anomalies : Nat) (s : State) : State :=
  { s with
    trips.totals := s.trips.totals.addVacant d anomalies
    trips.shift.totals :=
      if s.trips.shift.isOpen then s.trips.shift.totals.addVacant d anomalies else s.trips.shift.totals }

/-! ## Measuring intervals (R94 to R103) -/

/-- The row ODOMETER_PULSE: Q rises by 1000 and completes metres while it is at least k (R95). -/
def odometerPulse (s : State) : State :=
  match s.fare.pulseConstant with
  | some k =>
    if s.fare.clockRunning then
      { s with fare.q := (s.fare.q + 1000) % k, fare.metres := s.fare.metres + (s.fare.q + 1000) / k }
    else s
  | none => s

/-- An earned increment is spent (R100, R101). -/
def spendIncrement (amount : Nat) (t : Trip) : Trip :=
  if 0 < t.freeLeft then { t with freeLeft := t.freeLeft - 1, freeUsed := t.freeUsed + 1 }
  else if t.flags.fareLimit then t
  else if t.fare + amount ≤ Config.fareLimit then
    { t with fare := t.fare + amount, charged := satAdd 999999 t.charged 1 }
  else { t with fare := Config.fareLimit, flags.fareLimit := true }

/-- Progress of one HIRED interval of `d` metres: distance-ruled or time-ruled (R98). -/
def intervalProgress (t : Tariff) (d : Nat) : Nat := if t.D < d * t.T then d * t.T else t.D

/-- The trip's distance and waiting time (R98, R102). -/
def addInterval (t : Tariff) (d : Nat) (trip : Trip) : Trip :=
  { trip with
    hiredDistance := satAdd 9999999 trip.hiredDistance d
    waiting := if t.D < d * t.T then trip.waiting else satAdd 864000 trip.waiting 1 }

/-- One increment is earned (R99). -/
def earn (amount : Nat) (trip : Trip) : Trip := spendIncrement amount { trip with earned := satAdd 999999 trip.earned 1 }

/-- A HIRED interval ends (R98 to R100). DESIGN CHOICE (unsafe, log 56): the FARE page is written when the fare changes (R108), so not
when an increment sets FARE_LIMIT alone, with the fare at 999999. -/
def chargeInterval (t : Tariff) (d : Nat) (s : State) : State :=
  let p := s.fare.progress + intervalProgress t d
  let s := updateTrip (addInterval t d) { s with fare.intervalsSince := satAdd 600 s.fare.intervalsSince 1 }
  if tariffWorth t ≤ p then
    let fareBefore := s.fare.trip.map (·.fare)
    let s := updateTrip (earn t.A)
      { s with fare.progress := p - tariffWorth t, fare.incrementsSince := satAdd 16 s.fare.incrementsSince 1 }
    if s.fare.trip.map (·.fare) = fareBefore then s else writeFarePage s
  else { s with fare.progress := p }

/-- A pending tariff takes effect after the interval is charged (R103). -/
def applyPending (s : State) : State :=
  match s.fare.trip.bind (·.pendingTariff) with
  | some n =>
    writeFarePage
      (updateTrip
        (fun t => { t with tariff := n, pendingTariff := none,
                           tariffList := if t.tariffList.contains n then t.tariffList else t.tariffList ++ [n] })
        { s with fare.progress := 0 })
  | none => s

/-- The interval's metres, clamped at 8 with an anomaly (R96). -/
def clampInterval (s : State) : State :=
  if 8 < s.fare.metres then
    addVacant 0 1 (updateTrip (fun t => { t with flags.pulseAnomaly := true }) s)
  else s

/-- The tariff in force of the open trip (R86). A restored trip is STOPPED and is not charged. -/
def tariffInForce (s : State) : Option Tariff := s.fare.trip.bind fun t => tariffNo t.tariff s

/-- The interval is treated by the meter state in force when it ends (R97, R98, R88). -/
def treatInterval (d : Nat) (s : State) : State :=
  if s.fare.meter = .hired ∧ s.fare.opening = false then
    match tariffInForce s with
    | some t => chargeInterval t d s
    | none => s
  else addVacant d 0 s

/-- A checkpoint is due at a boundary, or is owed while a trip is open (R104, R105). -/
def checkpointDue (s : State) : Bool :=
  s.fare.trip.isSome
    && (s.fare.checkpointOwed || decide (16 ≤ s.fare.incrementsSince) || decide (600 ≤ s.fare.intervalsSince))

/-- The row INTERVAL_BOUNDARY (R94 to R105). DESIGN CHOICE (unsafe, log 40): a pending tariff takes effect before a checkpoint
that is due at the same boundary is offered. -/
def intervalBoundary (s : State) : State :=
  if s.fare.clockRunning then
    let d := min 8 s.fare.metres
    let s := treatInterval d (clampInterval s)
    let s := if s.fare.meter = .hired then applyPending s else s
    let s := { s with fare.metres := 0, fare.opening := false }
    if checkpointDue s then offerCheckpoint s else s
  else s

/-! ## Closing a trip (R92, R116, R117) -/

def tripRecordOf (t : Trip) (endTime : Nat) (up : UploadState) : TripRecord :=
  { number := t.number, jobId := t.jobId, tariffList := t.tariffList, startTime := t.startTime, endTime := endTime,
    hiredDistance := t.hiredDistance, waiting := t.waiting, earned := t.earned, charged := t.charged,
    freeUsed := t.freeUsed, fare := t.fare, extras := t.extras, flags := t.flags, upload := up }

/-- A trip is listed when the upload list has room and holds no entry with its number (R117). -/
def listable (n : Nat) (s : State) : Bool :=
  decide (s.trips.uploads.length < Config.uploadCapacity) && s.trips.uploads.all fun u => u.trip.number != n

def shiftAfter (t : Trip) (s : State) : Shift := { s.trips.shift with totals := s.trips.shift.totals.addTrip t }

/-- The close group: TRIP, TOTALIZER, SHIFT (R117). -/
def closeGroup (t : Trip) (listed : Bool) (s : State) : List RecordBody :=
  [ .trip (tripRecordOf t s.port.clock (if listed then .unsent else .notListed)),
    .totalizer (s.trips.totals.addTrip t) t.number,
    .shift { shiftAfter t s with isOpen := true } s.trips.lastTrip ]

/-- The group joined: totals, upload list and last closed trip move, and the notices are raised (R117). -/
def recordClose (t : Trip) (listed : Bool) (s : State) : State :=
  let r := tripRecordOf t s.port.clock (if listed then .storing else .notListed)
  let s := { s with
    trips.totals := s.trips.totals.addTrip t
    trips.shift := shiftAfter t s
    trips.lastClosedNumber := t.number
    trips.uploads := if listed then s.trips.uploads ++ [⟨r, false⟩] else s.trips.uploads
    trips.lastClosed := some r }
  let s := raise .tripClosed (.trip t.number) s
  if listed then s else raise .uploadChanged (.trip t.number) s

/-- The meter goes VACANT as the close group joins (R92, R78, R65). -/
def meterVacant (t : Trip) (s : State) : State :=
  let s := { s with
    fare.meter := .vacant
    fare.trip := none
    fare.progress := 0
    fare.incrementsSince := 0
    fare.intervalsSince := 0
    fare.checkpointOwed := false
    fare.restored := false
    offers.idleMinutes := 0 }
  writeFarePage (closeLinked t.number s)

/-- METER_CLEAR (R92, R117). DESIGN CHOICE (unsafe, log 37): TRIP_CLOSED and UPLOAD_CHANGED are raised before the linked entry's
OFFER_CHANGED and the meter's FARE_CHANGED. -/
def meterClear (s : State) : State × Status :=
  match s.fare.meter, s.fare.trip with
  | .stopped, some t =>
    let listed := listable t.number s
    match offerGroup (.close t.number listed) (closeGroup t listed s) s with
    | (s, .joined) => (meterVacant t (recordClose t listed s), .ok)
    | (s, .full) => (s, .storeBusy)
    | (s, .sectorFault) => (s, .storeFault)
  | _, _ => (s, .state)

/-! ## Shifts (R113, R114) -/

/-- SHIFT_OPEN (R113). -/
def shiftOpen (s : State) : State × Status × Reply :=
  if s.trips.shift.isOpen then (s, .state, .bare)
  else
    let sh : Shift :=
      { number := wrapIncFromOne s.trips.shift.number, isOpen := true, openTime := some s.port.clock,
        closeTime := none, totals := .zero }
    match offerGroup .shiftOpen [.shift sh s.trips.lastTrip] s with
    | (s, .joined) => ({ s with trips.shift := sh }, .ok, .number sh.number)
    | (s, .full) => (s, .storeBusy, .bare)
    | (s, .sectorFault) => (s, .storeFault, .bare)

/-- SHIFT_CLOSE (R114). -/
def shiftClose (s : State) : State × Status × Reply :=
  if s.trips.shift.isOpen = false then (s, .noShift, .bare)
  else if s.fare.meter ≠ .vacant ∨ s.offers.heldJob.isSome = true then (s, .state, .bare)
  else
    let sh : Shift := { s.trips.shift with isOpen := false, closeTime := some s.port.clock }
    match offerGroup .shiftClose
        [.shift sh s.trips.lastTrip, .totalizer s.trips.totals s.trips.lastClosedNumber] s with
    | (s, .joined) => ({ s with trips.shift := { sh with totals := .zero } }, .ok, .totals sh.totals)
    | (s, .full) => (s, .storeBusy, .bare)
    | (s, .sectorFault) => (s, .storeFault, .bare)

/-! ## The upload list (R118, R122 to R124) -/

def tripReportOf (r : TripRecord) : TripReport :=
  { number := r.number, jobId := r.jobId, startTime := r.startTime, endTime := r.endTime,
    hiredDistance := r.hiredDistance, waiting := r.waiting, charged := r.charged, fare := r.fare, extras := r.extras,
    flags := r.flags }

/-- A TRIP_REPORT of a listed trip is offered: QUEUED when it joins, UNSENT when it is refused; UPLOAD_CHANGED when the
state changes (R118, R122). Without a home base no report is offered (R128). -/
def offerReport (u : UploadEntry) (s : State) : State :=
  match s.trips.homeBase with
  | none => s
  | some base =>
    let n := u.trip.number
    match offerEntry
        (newEntry .tripRecorder (.trip n) .normal (.tripReport (tripReportOf u.trip)) base s.fleet) s with
    | (s, .joined _) => setUpload n .queued s
    | (s, .full) | (s, .link) => if u.trip.upload = .unsent then s else setUpload n .unsent s

/-- The owed UPLOAD_DONE groups are offered again (R123). DESIGN CHOICE (unsafe, log 47): one after another in the order of the
upload list. -/
def offerOwedDone (s : State) : State :=
  (s.trips.uploads.filter (·.doneOwed)).foldl (fun s u => offerUploadDone u.trip.number s) s

/-- A beacon cycle rollover: the oldest UNSENT trip is reported and owed UPLOAD_DONE groups come again (R123, R124). -/
def rollover (s : State) : State :=
  let s :=
    match s.trips.uploads.find? fun u => u.trip.upload == .unsent with
    | some u => offerReport u s
    | none => s
  offerOwedDone s

/-- An UPLOAD_DONE group was written: the listed entry leaves the list, and the last closed trip is DELIVERED when it is that
trip; a trip that was NOT_LISTED under the same number is another one (R117, R121, R123). -/
def uploadDoneWritten (n : Nat) (s : State) : State :=
  raise .uploadChanged (.trip n)
    { s with
      trips.uploads := s.trips.uploads.filter fun u => u.trip.number != n
      trips.lastClosed := s.trips.lastClosed.map fun t =>
        if t.number = n ∧ t.upload ≠ .notListed then { t with upload := .delivered } else t }

/-- A group of the trip recorder or the emergency controller was written (R118, R123, R177). An ALARM_OPEN group of an
earlier alarm stands before the present alarm's in the queue, so the open record is WRITTEN with the last one. -/
def groupReported (k : GroupKind) (s : State) : State :=
  match k with
  | .close n _ =>
    match findUpload n s with
    | some u => if u.trip.upload = .storing then offerReport u s else s
    | none => s
  | .uploadDone n => uploadDoneWritten n s
  | .alarmOpen =>
    if s.emerg.openRecord = .queued ∧ s.store.queue.all (fun g => g.kind != .alarmOpen) = true then
      { s with emerg.openRecord := .written }
    else s
  | .checkpoint _ | .shiftOpen | .shiftClose | .alarmClear => s

/-- Owed groups are offered again at each group written; R132 lets either owner's offer be taken first. -/
def owedGroups (s : State) : State :=
  if Config.uploadDoneFirst s.free then reofferAlarmOpen (offerOwedDone s.useFree)
  else offerOwedDone (reofferAlarmOpen s.useFree)

/-- The last slot of the head group is written: it leaves the queue, its owner is told, the next group starts, and
STORE_EVENT is raised when the queue is empty (R134). DEDUCED (safe, log 13): that is judged after the owner has reacted.
DESIGN CHOICE (unsafe, log 37): the notice comes after the owner's. -/
def groupWritten (s : State) : State :=
  match s.store.queue with
  | g :: gs =>
    let s := owedGroups (groupReported g.kind { s with store.queue := gs })
    if s.store.queue.isEmpty then raise .storeEvent .store (startHead s) else startHead s
  | [] => startHead s

end Sys2Proof.Machine
end

