-- ==== Sys2Proof/Machine/StoreEvents.lean ====
section
/-! DEFINITION. The store's completions and its supply-low hold (R134 to R141), and the start-up scan: its end (R142 to R145)
and what the trip recorder, the fare engine and the emergency controller rebuild from it (R126, R127, R111, R178). -/

namespace Sys2Proof.Machine

/-! ## Completions (R134, R137) -/

/-- The last slot of a record stands written: the carry goes on, or the group's next record starts, or the group is
written (R134, R135 to R137). -/
def recordDone (sector : Nat) (s : State) : State :=
  match s.store.swap with
  | some sw => carriedDone sw s
  | none =>
    match s.store.rest with
    | r :: rs => beginRecord r sector { s with store.rest := rs }
    | [] => groupWritten s

/-- The row SLOT_WRITE_COMPLETE (R134); after it a hold lets no further slot begin (R139). -/
def slotWriteComplete (s : State) : State :=
  match s.store.record with
  | some w =>
    if s.store.inProgress then
      let s := putSlot w s
      if w.written + 1 < w.record.slots then
        { s with store.record := some { w with written := w.written + 1 }, store.inProgress := !s.held }
      else recordDone w.sector { s with store.record := none, store.inProgress := false }
    else s
  | none => s

/-- The row HEADER_WRITE_COMPLETE (R137, R142, R145). -/
def headerWriteComplete (s : State) : State :=
  match s.store.headerWrite with
  | some h => if s.store.inProgress then headerDone h s else s
  | none => s

/-- The row ERASE_COMPLETE (R137, R141, R142, R145). -/
def eraseComplete (verified : Bool) (s : State) : State :=
  match s.store.erasing with
  | some n => if s.store.inProgress then eraseDone n verified s else s
  | none => s

/-! ## Supply-low (R139, R140) -/

/-- The row SUPPLY_LOW_ASSERTED: a slot or header write in progress completes, an erase is abandoned and owed (R139). -/
def supplyLowAsserted (s : State) : State :=
  if s.store.supplyLow then s
  else if s.port.inReset then { s with store.supplyLow := true }
  else
    raise .supplyLow .store
      { s with store.supplyLow := true, store.inProgress := s.store.inProgress && s.store.erasing.isNone }

/-- The unwritten slots of a record cut short are passed over and count as used (R129, R140, R143). -/
def passOver (n : Nat) (s : State) : State :=
  let slots := (sectorOf s n).slots
  updateSector n (fun c => { c with slots := c.slots ++ List.replicate (missingSlots slots.length slots) .blank }) s

/-- A record that a hold cut short: a carry's record is written again after the passed-over slots, a group from its first
record (R140). -/
def resumeCut (w : RecordWrite) (s : State) : State :=
  let s := passOver w.sector { s with store.record := none }
  match s.store.swap with
  | some sw => copyRecord w.record sw s
  | none => startHead { s with store.rest := [] }

/-- What was in progress or due as the hold ended (R140). DEDUCED (safe, log 32): a record with no slot written starts as it is,
also a later one of its group. -/
def resumeStore (s : State) : State :=
  if s.store.inProgress then s
  else
    match s.store.record, s.store.headerWrite, s.store.erasing with
    | some w, _, _ => if w.written = 0 then { s with store.inProgress := true } else resumeCut w s
    | none, some _, _ => { s with store.inProgress := true }
    | none, none, some n => beginErase n s
    | none, none, none => kickStore s

/-- The row SUPPLY_LOW_RELEASED (R140). -/
def supplyLowReleased (s : State) : State :=
  if s.store.supplyLow then
    if s.port.inReset then { s with store.supplyLow := false }
    else resumeStore (raise .supplyLow .store { s with store.supplyLow := false })
  else s

/-! ## The start-up scan (R142 to R145) -/

/-- A sector whose erase was abandoned is read with a header that holds no recognisable state (R142 item 1). DESIGN CHOICE (unsafe,
log 58): so is one whose erase did not verify, once POWER_ON has cleared its fault mark (R141). -/
def readHeader (c : Sector) : Sector := if c.eraseBegun && !c.fault then { c with header := .bad } else c

/-- The scan begins: the headers are read and the first repair starts (R142). -/
def beginScan (s : State) : State :=
  nextRepair
    { s with
      store.sectors := s.store.sectors.map readHeader
      store.scan := some { repaired := false, redoSwap := false, formatting := none, formatted := false } }

/-- One outstanding write or erase of the scan completes; an erase verifies (log 14). -/
def completeWork (s : State) : State :=
  if s.store.record.isSome then slotWriteComplete s
  else if s.store.headerWrite.isSome then headerWriteComplete s
  else eraseComplete true s

/-- The scan's outstanding repairs complete, unless a hold keeps them due (R139, R142). -/
def completeRepairs : Nat → State → State
  | 0, s => s
  | n + 1, s => if s.store.inProgress then completeRepairs n (completeWork s) else s

/-- A repair is in progress or due. -/
def repairsLeft (s : State) : Bool :=
  s.store.record.isSome || s.store.headerWrite.isSome || s.store.erasing.isSome

/-- Every record of a sector whose slots are all there, in a whole group or not (R143). -/
def completeRecords : Nat → List Slot → List Record
  | fuel + 1, .head r :: rest =>
    let n := r.slots - 1
    let after := completeRecords fuel (rest.drop n)
    if (rest.take n).length = n ∧ (rest.take n).all (fun x => x == .tail) = true then r :: after else after
  | _, _ => []

/-- One above the highest write number read, or 1 when none was read (R143). -/
def writeCounterFrom (s : State) : Nat :=
  let read := (sectorsWith (fun h => h.isActive || h.isFull) s).flatMap fun n =>
    completeRecords ((sectorOf s n).slots.length + 1) (sectorOf s n).slots
  oneAbove s.free ((read.map (·.writeNo)).foldl max 0)

/-! ### Trip recorder (R126, R127) -/

def totalizerOf (rs : List Record) : Option (Record × Totals × Nat) :=
  (newest Record.isTotalizer rs).bind fun r =>
    match r.body with
    | .totalizer t n => some (r, t, n)
    | _ => none

def shiftOf (rs : List Record) : Option (Record × Shift × Nat) :=
  (newest Record.isShift rs).bind fun r =>
    match r.body with
    | .shift sh n => some (r, sh, n)
    | _ => none

def checkpointIn (rs : List Record) : Option (Record × Checkpoint) :=
  (newest Record.isCheckpoint rs).bind fun r =>
    match r.body with
    | .checkpoint c => some (r, c)
    | _ => none

/-- The interrupted trip's checkpoint: the newest one, standing after the newest TOTALIZER, with no TRIP record of its
number after it (R127). -/
def interruptedTrip (rs : List Record) : Option Checkpoint :=
  (checkpointIn rs).bind fun (r, c) =>
    if (totalizerOf rs).all (fun t => decide (t.1.writeNo < r.writeNo))
        && !rs.any (fun t => t.isTripOf c.number && decide (r.writeNo < t.writeNo)) then some c
    else none

/-- The last trip number when no trip was interrupted: that of the newer of the newest TOTALIZER and SHIFT records
(R126). -/
def recordedLastTrip (rs : List Record) : Nat :=
  match totalizerOf rs, shiftOf rs with
  | some (t, _, n), some (sh, _, m) => if t.writeNo < sh.writeNo then m else n
  | some (_, _, n), none => n
  | none, some (_, _, m) => m
  | none, none => 0

def isUploadDoneOf (n : Nat) (r : Record) : Bool :=
  match r.body with
  | .uploadDone m => m == n
  | _ => false

/-- The newest TRIP record, DELIVERED when an UPLOAD_DONE of its number follows it or its HISTORY_COPY stands for one
(R126, R144). -/
def lastClosedFrom (rs : List Record) : Option TripRecord :=
  (newest (fun r => r.trip?.isSome) rs).bind fun r =>
    r.trip?.map fun t =>
      let followed := rs.any fun u => isUploadDoneOf t.number u && decide (r.writeNo < u.writeNo)
      if followed || (r.carry == .historyCopy && t.upload == .unsent) then { t with upload := .delivered } else t

/-- The trip recorder's state as the records give it (R126, R127). DESIGN CHOICE (unsafe, log 48): with no TOTALIZER record the
last closed trip number is 0. -/
def rebuildTrips (rs : List Record) (s : State) : State :=
  { s with
    trips.totals := (totalizerOf rs).elim .zero (·.2.1)
    trips.shift := (shiftOf rs).elim .none (·.2.1)
    trips.lastTrip := (interruptedTrip rs).elim (recordedLastTrip rs) (·.number)
    trips.lastClosedNumber := (totalizerOf rs).elim 0 (·.2.2)
    trips.uploads := (uploadsFrom rs).map fun t => ⟨{ t with upload := .unsent }, false⟩
    trips.lastClosed := lastClosedFrom rs }

/-! ### Fare engine (R111) -/

def tripFrom (c : Checkpoint) : Trip :=
  { number := c.number, jobId := c.jobId, hireTariff := c.hireTariff, tariff := c.tariff, pendingTariff := none,
    tariffList := c.tariffList, startTime := c.startTime, endTime := none, hiredDistance := c.hiredDistance,
    waiting := c.waiting, earned := c.earned, charged := c.charged, freeLeft := c.freeLeft, freeUsed := c.freeUsed,
    fare := c.fare, extras := c.extras, flags := { c.flags with powerInterrupted := true } }

/-- The interrupted trip is restored STOPPED with POWER_INTERRUPTED (R111). -/
def restoreTrip (rs : List Record) (s : State) : State :=
  match interruptedTrip rs with
  | some c =>
    { s with fare.meter := .stopped, fare.trip := some (tripFrom c), fare.progress := 0, fare.incrementsSince := 0,
             fare.intervalsSince := 0, fare.checkpointOwed := false, fare.restored := true }
  | none => s

/-! ### Emergency controller (R167, R178) -/

def rebuildAlarm (rs : List Record) (s : State) : State :=
  let last := (newest (fun r => r.alarmOpen?.isSome) rs).bind (·.alarmOpen?)
  { s with
    emerg.lastNumber := last.elim 255 (·.number)
    emerg.restore := ((openAlarm rs).bind (·.alarmOpen?)).map fun a => ⟨a.number, a.time, a.cell⟩ }

/-! ### The end of the scan -/

def startUpResult (c : Scan) : StartUp :=
  if c.formatted then .formatted else if c.repaired then .repaired else .scanned

/-- STORE_EVENT for REPAIRED and FORMATTED (R142). -/
def startUpNotice (r : StartUp) (s : State) : State :=
  match r with
  | .scanned => s
  | .repaired | .formatted => raise .storeEvent .store s

/-- The records are read and handed over, and the part becomes UNCONFIGURED (R143, R144, R196). -/
def handOver (c : Scan) (s : State) : State :=
  let rs := allRecords s
  let s := rebuildAlarm rs (restoreTrip rs (rebuildTrips rs s))
  let s := { s.useFree with store.writeCounter := writeCounterFrom s }
  let s := (activeSector s).elim s fun n => passOver n s
  startUpNotice (startUpResult c)
    { s with
      store.scan := none
      store.startUp := startUpResult c
      store.activity := if s.store.activity = .halted then .halted else .idle
      port.part := .unconfigured
      port.handedOver := true }

/-- The row START_UP_SCAN_END: outstanding repairs complete first (log 14); while a hold keeps one due the scan is not at
its end and nothing changes (R139). -/
def startUpScanEnd (s : State) : State :=
  let t := completeRepairs 4000 s
  match t.store.scan with
  | some c => if s.port.part = .scanning ∧ s.port.inReset = false ∧ repairsLeft t = false then handOver c t else s
  | none => s

end Sys2Proof.Machine
end

