-- ==== Sys2Proof/Machine/PartStates.lean ====
section
/-! DEFINITION. The part states (R196 to R199): the resets, waking, ENTER_DORMANT, RESTART and CONFIGURE, the emergency
switch (R168), and the events of the part's clock, the beacon cycle and the offer engine's minute (R190, R55, R65). -/

namespace Sys2Proof.Machine

/-! ## POWER_ON and RESET_PIN (R199 and the reset rule of each chapter) -/

/-- A slot or header write that a reset cuts had landed or had not (log 10); nothing else of the store's work in progress
survives. -/
def cutStore (s : State) : State :=
  if s.store.inProgress then
    if Config.cutWriteLanded s.free then
      match s.store.record, s.store.headerWrite with
      | some w, _ => putSlot w s.useFree
      | none, some h => putHeader h s.useFree
      | none, none => s
    else s.useFree
  else s

def clearFaults (l : List Sector) : List Sector := l.map fun c => { c with fault := false }

/-- Every block at its POWER_ON and RESET_PIN values; the sectors, the queue of commands, the supply-low and carrier lines
and the model's own counters go on (R22, R39, R59, R83, R110, R128, R147, R165, R186, R199). DESIGN CHOICE (unsafe, log 60): a switch
hold in progress is dropped. -/
def resetBlocks (sectors : List Sector) (s : State) : State :=
  { s with
    link := { Link.reset with carrier := s.link.carrier }
    rx := .reset
    tx := .reset
    offers := .reset
    fare := .reset
    trips := .reset
    store := { Store.reset with
      sectors := sectors
      activity := .idle
      erasing := none
      inProgress := false
      scan := none
      supplyLow := s.store.supplyLow }
    msg := .reset
    emerg := .reset
    port := .reset }

/-- The row POWER_ON: fault marks are cleared, the input lines stand inactive (log 17), and the scan begins (R141, R147,
R199). -/
def powerOn (s : State) : State :=
  let s := cutStore s
  let s := resetBlocks (clearFaults s.store.sectors) s
  beginScan { s with link.carrier := false, store.supplyLow := false }

/-- The row RESET_PIN: the part stops; SCANNING starts as the input is released (R199, log 16). -/
def resetPin (s : State) : State :=
  let s := cutStore s
  { resetBlocks s.store.sectors s with port.inReset := true }

/-- The row RESET_PIN_RELEASE (R196, R199). -/
def resetPinRelease (s : State) : State :=
  if s.port.inReset then beginScan { s with port.inReset := false } else s

/-! ## Waking (R197) -/

/-- The part returns to RUNNING: the listen-in begins, the beacon tick starts with a full tick, the lighting of the display
moves a NEW message that stands on the shown page, and the roof lamp takes its pattern (R197, R55, R160, R183). -/
def becomeRunning (s : State) : State :=
  refreshLamp (composeMessages (startListening { s with port.part := .running, tx.tickTimer := some s.tx.tick }))

def wake (s : State) : State := if s.port.part = .dormant then becomeRunning s else s

/-! ## ENTER_DORMANT and RESTART (R197, R198) -/

/-- The four conditions of R197. -/
def mayLeaveRunning (s : State) : Bool :=
  s.fare.meter == .vacant && s.offers.heldJob.isNone && s.emerg.alarm == .quiet && s.store.queue.isEmpty

/-- The link controller stops: no clock, no gap, no listen-in, no count (R22). The quiet-span count is kept. -/
def stopLink (s : State) : State :=
  { s with
    link.slotClock := false
    link.partialSpan := 0
    link.listenIn := none
    link.gap := none
    link.deferral := none
    link.carrierInAckGap := false
    link.decisionWaits := false
    link.lackHeard := false }

/-- The entry in an exchange as the part goes DORMANT: a BID leaves with NO_LACK; a frame still on the air completes its
airtime; in its gap the exchange is over (R15, R49). A frame that RESTART left on the air goes on as RESTART left it, and its entry
with it (R15, R59, log 11). DESIGN CHOICE (unsafe, log 42): the last fault kind is left as it stands. DESIGN CHOICE (unsafe, log 79): a
BID in RETRACT_PENDING whose frame is on the air is no such BID but an entry in RETRACT_PENDING: it stays until the end of its
airtime and leaves there with NO_LACK and the retraction complete, where R49 has a sentence for each and names no overlap. -/
def dormantExchange (s : State) : State :=
  let keyed := s.link.keyed
  if keyed = true ∧ s.link.runOff = some .restart then s
  else
    let s := if keyed then { s with link.runOff := some .dormant } else s
    match heldEntry s with
    | some e =>
      if e.cls = .bid ∧ e.state ≠ .retractPending then
        finishEntry e .noLack false (if keyed then s else goIdle s)
      else if keyed then s
      else runOffEnds .dormant false (goIdle s)
    | none => if keyed then s else goIdle s

/-- What DORMANT does to the pending queue (R49). DESIGN CHOICE (unsafe, log 38): the result of a BID on the air is reported after
those of the entries that wait or are held. -/
def dormantQueue (s : State) : State :=
  let gone := fun e : PendEntry => e.cls == .bid || e.cls == .beacon || e.cls == .emergencyRelay
  dormantExchange (handBackDeferring (removeWhere gone .removed s))

/-- ENTER_DORMANT (R197). -/
def enterDormant (s : State) : State × Status :=
  if mayLeaveRunning s then
    let s := { s with port.part := .dormant, tx.tickTimer := none }
    (dormantQueue (stopLink s), .ok)
  else (s, .state)

/-- The pending queue at RESTART: only a frame on the air stays, until its airtime ends (R15, R59). -/
def restartQueue (s : State) : List PendEntry :=
  if s.link.keyed then s.tx.queue.filter fun e => !(e.state == .waiting || e.state == .deferring) else []

/-- Entries in QUEUED become UNSENT (R128). -/
def restartUploads (l : List UploadEntry) : List UploadEntry :=
  updateWhere (fun u => u.trip.upload == .queued) (fun u => { u with trip.upload := .unsent }) l

/-- The link controller's RESTART values (R22): a frame on the air, a LACK included, completes its airtime. -/
def restartLink (s : State) : State :=
  let keyed := s.link.keyed
  let s := stopLink s
  { s with
    link.side := if keyed then s.link.side else .idle
    link.runOff := if keyed then some .restart else none
    link.station := none
    link.fleet := none }

/-- Every block at its RESTART values (R22, R39, R59, R83, R110, R128, R147, R165, R186, R198). -/
def restartBlocks (s : State) : State :=
  let queue := restartQueue s
  let s := restartLink s
  { s with
    rx := .reset
    tx := { Tx.reset with queue := queue }
    offers := .reset
    fare := .reset
    trips.uploads := restartUploads s.trips.uploads
    trips.homeBase := none
    store.historyCarry := true
    msg := .reset
    emerg := { Emerg.reset with lastNumber := s.emerg.lastNumber, hold := s.emerg.hold, lamp := s.emerg.lamp,
                                lampOn := s.emerg.lampOn }
    port.part := .unconfigured
    port.requestCount := 0
    port.notices := []
    port.lost := 0
    port.disabled := []
    port.clock := 0 }

/-- RESTART (R198). -/
def restart (s : State) : State × Status := if mayLeaveRunning s then (restartBlocks s, .ok) else (s, .state)

/-! ## CONFIGURE (R194, R195) -/

/-- The members of a set given by its bits, bit 0 first (R200). -/
def capabilitySet (n : Nat) : List VehicleNeed :=
  (if n % 2 = 1 then [.standard] else []) ++ (if n / 2 % 2 = 1 then [.large] else [])
    ++ (if n / 4 % 2 = 1 then [.accessible] else [])

def tariffOk (t : Tariff) : Bool :=
  inRange 0 9999 t.F && inRange 1 999 t.A && inRange 10 2000 t.D && inRange 10 6000 t.T && inRange 0 20 t.N

def extraOk (e : Extra) : Bool := inRange 1 255 e.code && inRange 1 9999 e.amount

/-- No code appears twice (R85). -/
def distinct : List Nat → Bool
  | [] => true
  | n :: l => !l.contains n && distinct l

def beaconFormOf : Nat → Option BeaconForm
  | 1 => some .full | 2 => some .short | 3 => some .none | _ => none

def queueModeOf : Nat → Option QueueMode
  | 1 => some .blocking | 2 => some .overwrite | _ => none

def actionOf : Nat → Option Action
  | 1 => some .toPriority | 2 => some .toOrdinary | 3 => some .reject | _ => none

/-- A default action is TO_ORDINARY or REJECT (R30). -/
def defaultActionOf (n : Nat) : Option Action := if n = 1 then none else actionOf n

def acceptOk (a : AcceptRequest) : Bool :=
  inRange 1 3 a.kinds && inRange 1 4000 a.lo && inRange 1 4000 a.hi && decide (a.lo ≤ a.hi) && (actionOf a.action).isSome

/-- The checks of R194, in the order of its table. -/
def configChecks (c : ConfigRequest) : List Bool :=
  [ inRange 1 4000 c.station,
    inRange 1 255 c.fleet,
    inRange 1 4000 c.homeBase && c.homeBase != c.station,
    inRange 1 7 c.capability,
    inRange 500 25000 c.pulseConstant,
    inRange 1 4 c.tariffs.length && c.tariffs.all tariffOk,
    inRange 0 8 c.extras.length && c.extras.all extraOk && distinct (c.extras.map (·.code)),
    inRange 2 60 c.beaconTick,
    c.cycleTable.length == 16 && c.cycleTable.all (fun n => (beaconFormOf n).isSome),
    (queueModeOf c.priorityMode).isSome && (queueModeOf c.ordinaryMode).isSome,
    inRange 0 16 c.acceptance.length && c.acceptance.all acceptOk && (defaultActionOf c.defaultAction).isSome,
    inRange 1 30 c.awardTimeout,
    inRange 5 60 c.acceptTimeout,
    inRange 0 1 c.historyCarry,
    c.noticeEnables.length == 16 && c.noticeEnables.all (inRange 0 1),
    inRange 5 50 c.switchHold,
    inRange 0x21 0xFF c.marker ]

/-- The number of the first field out of range, counted from 1 (R194, R203). -/
def firstBadField (c : ConfigRequest) : Option Nat :=
  ((configChecks c).findIdx? fun ok => !ok).map (· + 1)

/-- The notice kinds that have an enable, in the order of their codes (R192, R203). -/
def enableKinds : List NoticeKind :=
  [.linkState, .offerHeard, .offerChanged, .jobAwarded, .received, .sendOutcome, .messageNew, .messageExpired,
   .fareChanged, .tripClosed, .uploadChanged, .storeEvent, .storeFault, .alarmState, .otherAlarm, .supplyLow]

def disabledKinds (enables : List Nat) : List NoticeKind :=
  (enableKinds.zip enables).filterMap fun (k, e) => if e = 0 then some k else none

def acceptEntryOf (a : AcceptRequest) : AcceptEntry :=
  { beacon := a.kinds % 2 == 1, terminalData := a.kinds / 2 % 2 == 1, lo := a.lo, hi := a.hi,
    action := (actionOf a.action).getD .reject }

/-- Every configured field replaces its value in the block that keeps it (R194). -/
def takeFields (c : ConfigRequest) (s : State) : State :=
  { s with
    link.station := some c.station
    link.fleet := some c.fleet
    trips.homeBase := some c.homeBase
    offers.capability := capabilitySet c.capability
    fare.pulseConstant := some c.pulseConstant
    fare.tariffs := c.tariffs
    fare.catalogue := c.extras
    tx.tick := c.beaconTick
    tx.cycleTable := c.cycleTable.map fun n => (beaconFormOf n).getD .none
    rx.priorityMode := (queueModeOf c.priorityMode).getD .blocking
    rx.ordinaryMode := (queueModeOf c.ordinaryMode).getD .blocking
    rx.acceptance := c.acceptance.map acceptEntryOf
    rx.defaultAction := (defaultActionOf c.defaultAction).getD .reject
    offers.awardTimeout := c.awardTimeout
    offers.acceptTimeout := c.acceptTimeout
    store.historyCarry := c.historyCarry == 1
    port.disabled := disabledKinds c.noticeEnables
    emerg.holdTime := c.switchHold
    emerg.marker := c.marker }

/-- The notice list sheds the kinds now disabled (R192). -/
def shedNotices (s : State) : State :=
  { s with port.notices := s.port.notices.filter fun n => !s.port.disabled.contains n.kind }

/-- An alarm found open is restored, and a pending switch raise is then discarded; otherwise the pending raise is made
(R168, R178). -/
def restoreAlarm (s : State) : State :=
  match s.emerg.restore with
  | some r =>
    alarmStarts
      { s with
        emerg.number := some r.number
        emerg.source := some .restored
        emerg.nextRepeat := 32768
        emerg.ackHeard := false
        emerg.clearedSent := 0
        emerg.openRecord := .written
        emerg.openGroup := none
        emerg.restore := none
        emerg.pendingRaise := false }
  | none => if s.emerg.pendingRaise then raiseAlarm .switch { s with emerg.pendingRaise := false } else s

/-- What CONFIGURE starts (R195). DESIGN CHOICE (unsafe, log 37): the FARE page is written before the alarm starts, so FARE_CHANGED
comes before ALARM_STATE. -/
def startRunning (s : State) : State :=
  restoreAlarm
    (writeFarePage
      (becomeRunning { s with fare.clockRunning := true, fare.metres := 0, offers.idleMinutes := 0 }))

/-- CONFIGURE by the part state (R195). -/
def configure (c : ConfigRequest) (s : State) : State × Status × Reply :=
  if s.port.part = .unconfigured then
    match firstBadField c with
    | some n => (s, .range, .badField n)
    | none => (startRunning (shedNotices (takeFields c s)), .ok, .bare)
  else (s, .state, .bare)

/-! ## The emergency switch (R168) -/

/-- The row SWITCH_HOLD_BEGINS (R168). DESIGN CHOICE (unsafe, log 60): a hold that begins while the reset input is asserted is
none. -/
def switchHoldBegins (s : State) : State :=
  if s.port.inReset = false ∧ s.emerg.hold = .none then { s with emerg.hold := .running } else s

def switchRelease (s : State) : State := { s with emerg.hold := .none }

/-- A raise by switch is ignored unless the alarm is QUIET (R168). -/
def switchRaise (s : State) : State := if s.emerg.alarm = .quiet then raiseAlarm .switch s else s

/-- The row SWITCH_HOLD_COMPLETES: a running hold completes once; a released one completes nothing (R168). -/
def switchHoldCompletes (s : State) : State :=
  if s.port.inReset = false ∧ s.emerg.hold = .running then
    let s := { s with emerg.hold := .completed }
    match s.port.part with
    | .running | .dormant => switchRaise (wake s)
    | .scanning | .unconfigured => { s with emerg.pendingRaise := true }
  else s

/-! ## The beacon cycle (R55, R56) -/

/-- A beacon may be added at this tick (R56). -/
def beaconAllowed (s : State) : Bool :=
  s.emerg.alarm == .quiet && !s.link.state.mute && s.offers.cell.isSome && s.tx.queue.all fun e => e.cls != .beacon

def beaconEntry (full : Bool) (s : State) : PendEntry :=
  newEntry .beaconCycle .none .beacon (.beacon full none) destFleet s.fleet

/-- A BEACON is offered for a FULL or SHORT position; refused, it is skipped (R42, R56). -/
def offerBeacon (p : BeaconForm) (s : State) : State :=
  if beaconAllowed s then
    match p with
    | .full => (offerEntry (beaconEntry true s) s).1
    | .short => (offerEntry (beaconEntry false s) s).1
    | .none => s
  else s

/-- The row BEACON_TICK: the tick timer starts again as it expires (R55, R124). -/
def beaconTick (s : State) : State :=
  if s.tx.tickTimer.isSome = true ∧ s.running = true then
    let s := offerBeacon (s.tx.cycleTable.getD s.tx.cycleIndex .none) s
    let index := wrapInc 15 s.tx.cycleIndex
    let s := { s with tx.cycleIndex := index, tx.tickTimer := some s.tx.tick }
    if index = 0 then rollover s else s
  else s

/-! ## The clock (R190, R65) -/

/-- The clock counts whole seconds; past its end it reads a free value (R190, log 18). -/
def clockTick (s : State) : State :=
  if s.port.clock < 4294967295 then { s with port.clock := s.port.clock + 1 }
  else { s.useFree with port.clock := Config.clockPastEnd s.free }

/-- Ages and timers that count in RUNNING and DORMANT, where the beacon tick's is stopped (R55, R65, R71, R152, R184). -/
def awakeSecond (s : State) : State :=
  let age := if s.offers.cell.isSome then satAdd 65535 s.offers.positionAge 1 else s.offers.positionAge
  messageSecond
    (emergencySecond
      (offerSecond { s with offers.positionAge := age, tx.tickTimer := s.tx.tickTimer.map (· - 1) }))

/-- The row CLOCK_SECOND (R190). -/
def clockSecond (s : State) : State :=
  if s.port.inReset then s
  else
    let s := clockTick { s with elapsed := s.elapsed + 1 }
    if s.awake then awakeSecond s else s

/-- The row IDLE_MINUTE (R65). -/
def idleMinute (s : State) : State :=
  if s.awake then { s with offers.idleMinutes := satAdd 255 s.offers.idleMinutes 1 } else s

end Sys2Proof.Machine
end

