-- ==== Sys2Proof/Machine/Requests.lean ====
section
/-! DEFINITION. The terminal port's judgement of a request (R187, R188) and the requests that are not in another block's
file: position, availability, the link, host data, reading, notices and GET_STATUS. -/

namespace Sys2Proof.Machine

/-! ## Judging a request (R187, R188) -/

/-- A response is formed (R187). -/
def respond (status : Status) (count : Nat) (reply : Reply) (s : State) : State :=
  { s with port.response := some ⟨status, count, reply⟩ }

/-- The part states in which a request gets past step 3 of R188, beside RUNNING (section 10.3). -/
inductive TakenIn where
  | running
  | unconfiguredToo
  | always
  deriving DecidableEq, Repr

def takenIn (t : TakenIn) (p : PartState) : Bool :=
  match t, p with
  | _, .running => true
  | .always, _ => true
  | .unconfiguredToo, .unconfigured => true
  | _, _ => false

/-- Steps 2 to 4 of R188 for a request whose frame is right: the part wakes, the request is counted, it is judged by the
part state and then by its owner; the response carries the count as it stands once the request has been counted. While
the reset input holds the part stopped nothing is judged (log 16). -/
def judge (t : TakenIn) (owner : State → State × Status × Reply) (s : State) : State :=
  if s.port.inReset then s
  else
    let s := wake s
    let count := wrapInc 255 s.port.requestCount
    let s := { s with port.requestCount := count }
    if takenIn t s.port.part then
      let r := owner s
      respond r.2.1 count r.2.2 r.1
    else respond .notConfigured count .bare s

/-- A request answered with its status alone. -/
def plain (owner : State → State × Status) (s : State) : State × Status × Reply := ((owner s).1, (owner s).2, .bare)

/-- The row BAD_FRAME: nothing changes but the response, and the count stays (R187, R188). -/
def badFrame (s : State) : State :=
  if s.port.inReset then s else respond .badFrame s.port.requestCount .bare s

/-- The row SELECT_RELEASED: the rest of a response is discarded (R187). -/
def selectReleased (s : State) : State := { s with port.response := none }

/-! ## GET_STATUS (R189) -/

/-- R109: the trip fields are absent in VACANT. -/
def meterReport (s : State) : MeterReport :=
  { meter := s.fare.meter, trip := if s.fare.meter = .vacant then none else s.fare.trip,
    checkpointOwed := s.fare.checkpointOwed }

/-- R146. -/
def storeReport (s : State) : StoreReport :=
  { activity := s.store.activity, held := s.held, groups := s.store.queue.length,
    sectors := s.store.sectors.map fun c => ⟨c.header, c.fault⟩, inRotation := (rotation s).length,
    freeSlots := activeFree s, dropped := s.store.dropped, startUp := s.store.startUp }

/-- A relay table entry with its times as seconds that have passed (R179, R185, log 23). -/
def relayReport (now : Nat) (e : RelayEntry) : RelayReport :=
  { entry := e, sinceHeard := now - e.lastHeard, sinceJoined := e.pending.map fun p => now - p.joined,
    sinceAckJoined := e.ackRelay.joined.map (now - ·) }

/-- R185. -/
def alarmReport (s : State) : AlarmReport :=
  { alarm := s.emerg.alarm, number := s.emerg.number, source := s.emerg.source, nextRepeat := s.emerg.nextRepeat,
    ackHeard := s.emerg.ackHeard, openRecord := s.emerg.openRecord, ownEntry := s.emerg.ownEntry.map (·.phase),
    clearedSent := s.emerg.clearedSent, pendingRaise := s.emerg.pendingRaise, restore := s.emerg.restore,
    repeatLeft := s.emerg.repeatTimer, lastNumber := s.emerg.lastNumber, lamp := s.emerg.lamp,
    markerShown := s.emerg.markerShown, relays := s.emerg.relays.map (relayReport s.elapsed),
    relayOverflow := s.emerg.relayOverflow }

/-- The status groups, each as its owner's state stands (R189). -/
def statusReport (s : State) : StatusReport :=
  { part := s.port.part, requestCount := s.port.requestCount, notices := s.port.notices.length,
    noticeLost := s.port.lost, handedOver := s.port.handedOver, link := s.link.state, sfc := s.link.sfc,
    hfc := s.link.hfc, quietSpans := s.link.quietSpans, lastFault := s.link.lastFault,
    priorityEntries := s.rx.priorityQueue.length, ordinaryEntries := s.rx.ordinaryQueue.length,
    malformed := s.rx.malformed, meter := meterReport s, store := storeReport s, alarm := alarmReport s,
    shown := s.msg.shown, cursor := s.msg.cursor, editMode := s.msg.editMode, editMark := s.msg.editMark,
    lit := s.lit }

/-- GET_STATUS: the last fault kind becomes UNCHANGED after its value was placed in the response (R21, R189). -/
def getStatus (s : State) : State × Status × Reply := (setFault .unchanged s, .ok, .status (statusReport s))

/-! ## Position, availability, link (R27, R65, R19, R190) -/

/-- The own zone first, each listed zone joining unless it is already a member (R27). -/
def zoneSet (own : Nat) (adjoining : List Nat) : List Nat :=
  adjoining.foldl (fun l z => if l.contains z then l else l ++ [z]) [own]

def positionInRange (p : PositionRequest) : Bool :=
  cellOk p.cell && inRange 0 255 p.zone && decide (p.adjoining.length ≤ 4) && p.adjoining.all (inRange 0 255)
    && inRange 0 4294967295 p.clock

/-- SET_POSITION (R190). -/
def setPosition (p : PositionRequest) (s : State) : State × Status :=
  if positionInRange p then
    ({ s with
        rx.zones := zoneSet p.zone p.adjoining
        offers.cell := some p.cell
        offers.positionAge := 0
        port.clock := p.clock }, .ok)
  else (s, .range)

/-- SET_AVAILABLE names no, 0, or yes, 1 (R65, R200). -/
def setAvailable (v : Nat) (s : State) : State × Status :=
  if v ≤ 1 then ({ s with offers.available := decide (v = 1) }, .ok) else (s, .range)

/-- LINK_REJOIN: taken in SILENT alone (R19, R20). -/
def linkRejoin (s : State) : State × Status :=
  if s.link.state = .silent then (enterRecovering s, .ok) else (s, .state)

/-! ## Host data (R53, R54, R58) -/

/-- The address values of R4. -/
def addressOk (d : Nat) : Bool := isStation d || inRange 0xF000 0xF0FF d || d == destFleet || d == destAll

def dataEntry (dest tag : Nat) (data : List Byte) (s : State) : PendEntry :=
  { newEntry .terminalPort .none .normal (.data data) dest s.fleet with tag := some tag }

/-- SEND_DATA (R53). -/
def sendData (dest tag : Nat) (data : List Byte) (s : State) : State × Status :=
  if addressOk dest = true ∧ s.link.station ≠ some dest ∧ inRange 1 64 data.length = true ∧ tag ≤ 255 then
    match offerEntry (dataEntry dest tag data s) s with
    | (s, .joined _) => (s, .ok)
    | (s, .full) | (s, .link) => (s, .queueFull)
  else (s, .range)

/-- CANCEL_SEND: the oldest entry with the tag that is not in RETRACT_PENDING (R54). -/
def cancelSend (tag : Nat) (s : State) : State × Status :=
  match s.tx.queue.find? fun e => e.owner == .terminalPort && e.tag == some tag && e.state != .retractPending with
  | some e => (retract e.uid s, .ok)
  | none => (s, .unknownId)

/-- READ_OUTCOMES (R58). -/
def readOutcomes (s : State) : State × Status × Reply :=
  let left := s.tx.outcomes.drop 8
  ({ s with tx.outcomes := left, tx.outcomeLost := 0 }, .ok,
    .outcomes (s.tx.outcomes.take 8) left.length s.tx.outcomeLost)

/-! ## Received frames (R35) -/

/-- The queue that a READ_RECEIVED names: PRIORITY 1, ORDINARY 2, EITHER 3, which is the priority queue when it holds an
entry (R35, R200). -/
def namedQueue (n : Nat) (s : State) : Option RxQueue :=
  match n with
  | 1 => some .priority
  | 2 => some .ordinary
  | 3 => some (if s.rx.priorityQueue.isEmpty then .ordinary else .priority)
  | _ => none

/-- READ_RECEIVED (R35). -/
def readReceived (n : Nat) (s : State) : State × Status × Reply :=
  let t := { s with rx.priorityLost := 0, rx.ordinaryLost := 0 }
  match namedQueue n s with
  | some .priority =>
    ({ t with rx.priorityQueue := s.rx.priorityQueue.tail }, .ok,
      .received s.rx.priorityQueue.head? s.rx.priorityQueue.tail.length s.rx.priorityLost s.rx.ordinaryLost)
  | some .ordinary =>
    ({ t with rx.ordinaryQueue := s.rx.ordinaryQueue.tail }, .ok,
      .received s.rx.ordinaryQueue.head? s.rx.ordinaryQueue.tail.length s.rx.priorityLost s.rx.ordinaryLost)
  | none => (s, .range, .bare)

/-! ## Reading the blocks (R82, R125, R156, R193) -/

/-- LIST_OFFERS (R82). -/
def listOffers (s : State) : State × Status × Reply :=
  (s, .ok, .offers s.offers.table s.offers.heldJob s.offers.overflow s.offers.available)

/-- The trip record with a number: of the upload list, otherwise the last closed trip (R125). -/
def tripNumbered (n : Nat) (s : State) : Option TripRecord :=
  match findUpload n s with
  | some u => some u.trip
  | none => s.trips.lastClosed.filter fun t => t.number == n

/-- READ_TRIP (R125). DESIGN CHOICE (unsafe, log 76): the number 0, which no trip has, is answered UNKNOWN_ID, as any number
without a record at hand, and not RANGE. -/
def readTrip (n : Nat) (s : State) : State × Status × Reply :=
  match tripNumbered n s with
  | some t => (s, .ok, .trip t)
  | none => (s, .unknownId, .bare)

/-- READ_TOTALS (R125). -/
def readTotals (s : State) : State × Status × Reply :=
  (s, .ok,
    .books s.trips.totals s.trips.shift s.trips.lastTrip
      (s.trips.uploads.map fun u => (u.trip.number, u.trip.upload))
      (if s.fare.restored then s.fare.trip.map (·.number) else none))

/-- MSG_LIST (R156). -/
def msgList (s : State) : State × Status × Reply :=
  (s, .ok, .messages s.msg.queue s.msg.recent.length s.msg.refusals s.msg.receiptLost)

/-- READ_NOTICES (R193). -/
def readNotices (s : State) : State × Status × Reply :=
  let given := s.port.notices.take 8
  let left := s.port.notices.drop 8
  let overflow := given.any fun n => n.kind == .overflow
  ({ s with port.notices := left, port.lost := if overflow then 0 else s.port.lost }, .ok,
    .notices given left.length s.port.lost)

end Sys2Proof.Machine
end

