-- ==== Sys2Proof/Machine/EventCommands.lean ====
section
/-! DEFINITION. The meanings of the commands that the resets, the timers, the odometer, the store, the switch and the port's
lines give: one definition each. -/

namespace Sys2Proof.Machine

/-- POWER_ON (R199). -/
def execPowerOn (s : State) : Host.Outcome State Fault Refusal := .next (settle (powerOn s))

/-- RESET_PIN (R199). -/
def execResetPin (s : State) : Host.Outcome State Fault Refusal := .next (settle (resetPin s))

/-- RESET_PIN_RELEASE (R196). -/
def execResetPinRelease (s : State) : Host.Outcome State Fault Refusal := .next (settle (resetPinRelease s))

/-- START_UP_SCAN_END (R144, R142, R143, R126, R127, R111, R178). -/
def execStartUpScanEnd (s : State) : Host.Outcome State Fault Refusal := .next (settle (startUpScanEnd s))

/-- BEACON_TICK (R55, R56, R124). -/
def execBeaconTick (s : State) : Host.Outcome State Fault Refusal := .next (settle (beaconTick s))

/-- AWARD_TIMER_EXPIRY (R71). -/
def execAwardTimerExpiry (id : OfferId) (s : State) : Host.Outcome State Fault Refusal :=
  .next (settle (awardTimerExpiry id s))

/-- ACCEPT_TIMER_EXPIRY (R77). -/
def execAcceptTimerExpiry (id : OfferId) (s : State) : Host.Outcome State Fault Refusal :=
  .next (settle (acceptTimerExpiry id s))

/-- CLOCK_SECOND (R190, R65, R81). -/
def execClockSecond (s : State) : Host.Outcome State Fault Refusal := .next (settle (clockSecond s))

/-- IDLE_MINUTE (R65). -/
def execIdleMinute (s : State) : Host.Outcome State Fault Refusal := .next (settle (idleMinute s))

/-- MESSAGE_EXPIRY (R152). -/
def execMessageExpiry (pair : MsgPair) (s : State) : Host.Outcome State Fault Refusal :=
  .next (settle (messageExpiry pair s))

/-- ODOMETER_PULSE (R95). -/
def execOdometerPulse (s : State) : Host.Outcome State Fault Refusal := .next (settle (odometerPulse s))

/-- INTERVAL_BOUNDARY (R94 to R105). -/
def execIntervalBoundary (s : State) : Host.Outcome State Fault Refusal := .next (settle (intervalBoundary s))

/-- SLOT_WRITE_COMPLETE (R134). -/
def execSlotWriteComplete (s : State) : Host.Outcome State Fault Refusal := .next (settle (slotWriteComplete s))

/-- HEADER_WRITE_COMPLETE (R137). -/
def execHeaderWriteComplete (s : State) : Host.Outcome State Fault Refusal := .next (settle (headerWriteComplete s))

/-- ERASE_COMPLETE (R137, R141). -/
def execEraseComplete (verified : Bool) (s : State) : Host.Outcome State Fault Refusal :=
  .next (settle (eraseComplete verified s))

/-- SUPPLY_LOW_ASSERTED (R139). -/
def execSupplyLowAsserted (s : State) : Host.Outcome State Fault Refusal := .next (settle (supplyLowAsserted s))

/-- SUPPLY_LOW_RELEASED (R140). -/
def execSupplyLowReleased (s : State) : Host.Outcome State Fault Refusal := .next (settle (supplyLowReleased s))

/-- SWITCH_HOLD_BEGINS (R168). -/
def execSwitchHoldBegins (s : State) : Host.Outcome State Fault Refusal := .next (settle (switchHoldBegins s))

/-- SWITCH_RELEASE (R168). -/
def execSwitchRelease (s : State) : Host.Outcome State Fault Refusal := .next (settle (switchRelease s))

/-- SWITCH_HOLD_COMPLETES (R168, R170). -/
def execSwitchHoldCompletes (s : State) : Host.Outcome State Fault Refusal := .next (settle (switchHoldCompletes s))

/-- REPEAT_TIMER_EXPIRY (R172). -/
def execRepeatTimerExpiry (s : State) : Host.Outcome State Fault Refusal := .next (settle (repeatTimerExpiry s))

/-- SPACING_TIMER_EXPIRY (R176). -/
def execSpacingTimerExpiry (s : State) : Host.Outcome State Fault Refusal := .next (settle (spacingTimerExpiry s))

/-- MARKER_TIMER_EXPIRY (R184). -/
def execMarkerTimerExpiry (s : State) : Host.Outcome State Fault Refusal := .next (settle (markerTimerExpiry s))

/-- RELAY_STALE (R182). -/
def execRelayStale (id : AlarmId) (kind : RelayKind) (s : State) : Host.Outcome State Fault Refusal :=
  .next (settle (relayStale id kind s))

/-- RELAY_ENTRY_AGED_OUT (R179). -/
def execRelayEntryAgedOut (id : AlarmId) (s : State) : Host.Outcome State Fault Refusal :=
  .next (settle (relayEntryAgedOut id s))

/-- ROOF_LAMP_PHASE (R183). -/
def execRoofLampPhase (s : State) : Host.Outcome State Fault Refusal := .next (settle (roofLampPhase s))

/-- SELECT_RELEASED (R187). -/
def execSelectReleased (s : State) : Host.Outcome State Fault Refusal := .next (settle (selectReleased s))

/-- BAD_FRAME (R188). -/
def execBadFrame (s : State) : Host.Outcome State Fault Refusal := .next (settle (badFrame s))

end Sys2Proof.Machine
end

