-- ==== Sys2Proof/Machine/RequestCommands.lean ====
section
/-! DEFINITION. The meanings of the host's 34 requests: each is judged by R188 and then by the rule of its owner. -/

namespace Sys2Proof.Machine

/-- CONFIGURE (R195, R194). -/
def execConfigure (fields : ConfigRequest) (s : State) : Host.Outcome State Fault Refusal :=
  .next (settle (judge .unconfiguredToo (configure fields) s))

/-- GET_STATUS (R189). -/
def execGetStatus (s : State) : Host.Outcome State Fault Refusal := .next (settle (judge .always getStatus s))

/-- RESTART (R198). -/
def execRestart (s : State) : Host.Outcome State Fault Refusal := .next (settle (judge .running (plain restart) s))

/-- ENTER_DORMANT (R197). -/
def execEnterDormant (s : State) : Host.Outcome State Fault Refusal :=
  .next (settle (judge .running (plain enterDormant) s))

/-- SET_POSITION (R190, R27, R65). -/
def execSetPosition (fields : PositionRequest) (s : State) : Host.Outcome State Fault Refusal :=
  .next (settle (judge .running (plain (setPosition fields)) s))

/-- SET_AVAILABLE (R65). -/
def execSetAvailable (value : Nat) (s : State) : Host.Outcome State Fault Refusal :=
  .next (settle (judge .running (plain (setAvailable value)) s))

/-- LINK_REJOIN (R19). -/
def execLinkRejoin (s : State) : Host.Outcome State Fault Refusal :=
  .next (settle (judge .running (plain linkRejoin) s))

/-- SEND_DATA (R53). -/
def execSendData (dest tag : Nat) (data : List Byte) (s : State) : Host.Outcome State Fault Refusal :=
  .next (settle (judge .running (plain (sendData dest tag data)) s))

/-- CANCEL_SEND (R54). -/
def execCancelSend (tag : Nat) (s : State) : Host.Outcome State Fault Refusal :=
  .next (settle (judge .running (plain (cancelSend tag)) s))

/-- READ_OUTCOMES (R58). -/
def execReadOutcomes (s : State) : Host.Outcome State Fault Refusal := .next (settle (judge .running readOutcomes s))

/-- READ_RECEIVED (R35). -/
def execReadReceived (queue : Nat) (s : State) : Host.Outcome State Fault Refusal :=
  .next (settle (judge .running (readReceived queue) s))

/-- LIST_OFFERS (R82). -/
def execListOffers (s : State) : Host.Outcome State Fault Refusal := .next (settle (judge .running listOffers s))

/-- ACCEPT_JOB (R75). -/
def execAcceptJob (id : OfferId) (s : State) : Host.Outcome State Fault Refusal :=
  .next (settle (judge .running (plain (acceptJob id)) s))

/-- REFUSE_JOB (R76). -/
def execRefuseJob (id : OfferId) (s : State) : Host.Outcome State Fault Refusal :=
  .next (settle (judge .running (plain (refuseJob id)) s))

/-- METER_HIRE (R87). -/
def execMeterHire (tariff : Nat) (s : State) : Host.Outcome State Fault Refusal :=
  .next (settle (judge .running (meterHire tariff) s))

/-- METER_TARIFF (R89). -/
def execMeterTariff (tariff : Nat) (s : State) : Host.Outcome State Fault Refusal :=
  .next (settle (judge .running (plain (meterTariff tariff)) s))

/-- METER_STOP (R90). -/
def execMeterStop (s : State) : Host.Outcome State Fault Refusal :=
  .next (settle (judge .running (plain meterStop) s))

/-- METER_EXTRA (R91). -/
def execMeterExtra (code : Nat) (s : State) : Host.Outcome State Fault Refusal :=
  .next (settle (judge .running (plain (meterExtra code)) s))

/-- METER_CLEAR (R92). -/
def execMeterClear (s : State) : Host.Outcome State Fault Refusal :=
  .next (settle (judge .running (plain meterClear) s))

/-- SHIFT_OPEN (R113). -/
def execShiftOpen (s : State) : Host.Outcome State Fault Refusal := .next (settle (judge .running shiftOpen s))

/-- SHIFT_CLOSE (R114). -/
def execShiftClose (s : State) : Host.Outcome State Fault Refusal := .next (settle (judge .running shiftClose s))

/-- READ_TRIP (R125). -/
def execReadTrip (number : Nat) (s : State) : Host.Outcome State Fault Refusal :=
  .next (settle (judge .running (readTrip number) s))

/-- READ_TOTALS (R125). -/
def execReadTotals (s : State) : Host.Outcome State Fault Refusal :=
  .next (settle (judge .unconfiguredToo readTotals s))

/-- MSG_LIST (R156). -/
def execMsgList (s : State) : Host.Outcome State Fault Refusal := .next (settle (judge .running msgList s))

/-- MSG_READ (R153). -/
def execMsgRead (pair : MsgPair) (s : State) : Host.Outcome State Fault Refusal :=
  .next (settle (judge .running (msgRead pair) s))

/-- MSG_REPLY (R154). -/
def execMsgReply (pair : MsgPair) (index : Nat) (s : State) : Host.Outcome State Fault Refusal :=
  .next (settle (judge .running (msgReply pair index) s))

/-- DISPLAY_SELECT (R159). -/
def execDisplaySelect (page : Nat) (s : State) : Host.Outcome State Fault Refusal :=
  .next (settle (judge .running (plain (displaySelect page)) s))

/-- DISPLAY_WRITE (R161). -/
def execDisplayWrite (position : Option Cursor) (text : List Byte) (lineAttr : Option Nat) (strayBits : Nat)
    (s : State) : Host.Outcome State Fault Refusal :=
  .next (settle (judge .running (displayWrite position text lineAttr strayBits) s))

/-- DISPLAY_READ (R162). -/
def execDisplayRead (position : Option Cursor) (count strayBits : Nat)
    (s : State) : Host.Outcome State Fault Refusal :=
  .next (settle (judge .running (displayRead position count strayBits) s))

/-- DISPLAY_EDIT_BEGIN (R163). -/
def execDisplayEditBegin (s : State) : Host.Outcome State Fault Refusal :=
  .next (settle (judge .running (plain displayEditBegin) s))

/-- DISPLAY_EDIT_END (R163). -/
def execDisplayEditEnd (s : State) : Host.Outcome State Fault Refusal :=
  .next (settle (judge .running (plain displayEditEnd) s))

/-- RAISE_ALARM (R169). -/
def execRaiseAlarm (s : State) : Host.Outcome State Fault Refusal := .next (settle (judge .running hostRaise s))

/-- CLEAR_ALARM (R175). -/
def execClearAlarm (s : State) : Host.Outcome State Fault Refusal :=
  .next (settle (judge .running (plain clearAlarm) s))

/-- READ_NOTICES (R193). -/
def execReadNotices (s : State) : Host.Outcome State Fault Refusal := .next (settle (judge .running readNotices s))

end Sys2Proof.Machine
end

