-- ==== Sys2Proof/Machine/Dispatch.lean ====
section
/-! DEFINITION. The effect of a command on everything but the queue: one arm per row of spec/opcode_table.json. -/

namespace Sys2Proof.Machine

def exec (i : Instr) (s : State) : Host.Outcome State Fault Refusal :=
  match i with
  | .powerOn => Sys2Proof.Machine.execPowerOn s
  | .resetPin => Sys2Proof.Machine.execResetPin s
  | .resetPinRelease => Sys2Proof.Machine.execResetPinRelease s
  | .startUpScanEnd => Sys2Proof.Machine.execStartUpScanEnd s
  | .slotBoundary => Sys2Proof.Machine.execSlotBoundary s
  | .carrierAppears => Sys2Proof.Machine.execCarrierAppears s
  | .endOfCarrier received => Sys2Proof.Machine.execEndOfCarrier received s
  | .deferralCountRunOut => Sys2Proof.Machine.execDeferralCountRunOut s
  | .bidSlotArrives id => Sys2Proof.Machine.execBidSlotArrives id s
  | .bidKeyingBoundary => Sys2Proof.Machine.execBidKeyingBoundary s
  | .bidWindowEnd id => Sys2Proof.Machine.execBidWindowEnd id s
  | .keyingFault => Sys2Proof.Machine.execKeyingFault s
  | .endOfAirtime => Sys2Proof.Machine.execEndOfAirtime s
  | .ackGapCloses => Sys2Proof.Machine.execAckGapCloses s
  | .idleGapCloses => Sys2Proof.Machine.execIdleGapCloses s
  | .gapCloses => Sys2Proof.Machine.execGapCloses s
  | .quietSpanCompletes => Sys2Proof.Machine.execQuietSpanCompletes s
  | .listenInCompletes => Sys2Proof.Machine.execListenInCompletes s
  | .lack frame => Sys2Proof.Machine.execLack frame s
  | .offer frame => Sys2Proof.Machine.execOffer frame s
  | .bid frame => Sys2Proof.Machine.execBid frame s
  | .award frame => Sys2Proof.Machine.execAward frame s
  | .withdraw frame => Sys2Proof.Machine.execWithdraw frame s
  | .message frame => Sys2Proof.Machine.execMessage frame s
  | .emergency frame => Sys2Proof.Machine.execEmergency frame s
  | .emergencyAck frame => Sys2Proof.Machine.execEmergencyAck frame s
  | .beacon frame => Sys2Proof.Machine.execBeacon frame s
  | .terminalData frame => Sys2Proof.Machine.execTerminalData frame s
  | .unownedFrame kind frame => Sys2Proof.Machine.execUnownedFrame kind frame s
  | .beaconTick => Sys2Proof.Machine.execBeaconTick s
  | .awardTimerExpiry id => Sys2Proof.Machine.execAwardTimerExpiry id s
  | .acceptTimerExpiry id => Sys2Proof.Machine.execAcceptTimerExpiry id s
  | .clockSecond => Sys2Proof.Machine.execClockSecond s
  | .idleMinute => Sys2Proof.Machine.execIdleMinute s
  | .messageExpiry pair => Sys2Proof.Machine.execMessageExpiry pair s
  | .odometerPulse => Sys2Proof.Machine.execOdometerPulse s
  | .intervalBoundary => Sys2Proof.Machine.execIntervalBoundary s
  | .slotWriteComplete => Sys2Proof.Machine.execSlotWriteComplete s
  | .headerWriteComplete => Sys2Proof.Machine.execHeaderWriteComplete s
  | .eraseComplete verified => Sys2Proof.Machine.execEraseComplete verified s
  | .supplyLowAsserted => Sys2Proof.Machine.execSupplyLowAsserted s
  | .supplyLowReleased => Sys2Proof.Machine.execSupplyLowReleased s
  | .switchHoldBegins => Sys2Proof.Machine.execSwitchHoldBegins s
  | .switchRelease => Sys2Proof.Machine.execSwitchRelease s
  | .switchHoldCompletes => Sys2Proof.Machine.execSwitchHoldCompletes s
  | .repeatTimerExpiry => Sys2Proof.Machine.execRepeatTimerExpiry s
  | .spacingTimerExpiry => Sys2Proof.Machine.execSpacingTimerExpiry s
  | .markerTimerExpiry => Sys2Proof.Machine.execMarkerTimerExpiry s
  | .relayStale id kind => Sys2Proof.Machine.execRelayStale id kind s
  | .relayEntryAgedOut id => Sys2Proof.Machine.execRelayEntryAgedOut id s
  | .roofLampPhase => Sys2Proof.Machine.execRoofLampPhase s
  | .selectReleased => Sys2Proof.Machine.execSelectReleased s
  | .badFrame => Sys2Proof.Machine.execBadFrame s
  | .configure fields => Sys2Proof.Machine.execConfigure fields s
  | .getStatus => Sys2Proof.Machine.execGetStatus s
  | .restart => Sys2Proof.Machine.execRestart s
  | .enterDormant => Sys2Proof.Machine.execEnterDormant s
  | .setPosition fields => Sys2Proof.Machine.execSetPosition fields s
  | .setAvailable value => Sys2Proof.Machine.execSetAvailable value s
  | .linkRejoin => Sys2Proof.Machine.execLinkRejoin s
  | .sendData dest tag data => Sys2Proof.Machine.execSendData dest tag data s
  | .cancelSend tag => Sys2Proof.Machine.execCancelSend tag s
  | .readOutcomes => Sys2Proof.Machine.execReadOutcomes s
  | .readReceived queue => Sys2Proof.Machine.execReadReceived queue s
  | .listOffers => Sys2Proof.Machine.execListOffers s
  | .acceptJob id => Sys2Proof.Machine.execAcceptJob id s
  | .refuseJob id => Sys2Proof.Machine.execRefuseJob id s
  | .meterHire tariff => Sys2Proof.Machine.execMeterHire tariff s
  | .meterTariff tariff => Sys2Proof.Machine.execMeterTariff tariff s
  | .meterStop => Sys2Proof.Machine.execMeterStop s
  | .meterExtra code => Sys2Proof.Machine.execMeterExtra code s
  | .meterClear => Sys2Proof.Machine.execMeterClear s
  | .shiftOpen => Sys2Proof.Machine.execShiftOpen s
  | .shiftClose => Sys2Proof.Machine.execShiftClose s
  | .readTrip number => Sys2Proof.Machine.execReadTrip number s
  | .readTotals => Sys2Proof.Machine.execReadTotals s
  | .msgList => Sys2Proof.Machine.execMsgList s
  | .msgRead pair => Sys2Proof.Machine.execMsgRead pair s
  | .msgReply pair index => Sys2Proof.Machine.execMsgReply pair index s
  | .displaySelect page => Sys2Proof.Machine.execDisplaySelect page s
  | .displayWrite position text lineAttr strayBits => Sys2Proof.Machine.execDisplayWrite position text lineAttr strayBits s
  | .displayRead position count strayBits => Sys2Proof.Machine.execDisplayRead position count strayBits s
  | .displayEditBegin => Sys2Proof.Machine.execDisplayEditBegin s
  | .displayEditEnd => Sys2Proof.Machine.execDisplayEditEnd s
  | .raiseAlarm => Sys2Proof.Machine.execRaiseAlarm s
  | .clearAlarm => Sys2Proof.Machine.execClearAlarm s
  | .readNotices => Sys2Proof.Machine.execReadNotices s

end Sys2Proof.Machine
end

