-- ==== Sys2Proof/Machine/Step.lean ====
section
/-! DEFINITION. One step: the command at the front of the queue is taken and run. On an empty queue the block idles (DESIGN
CHOICE, safe, log 3). -/

namespace Sys2Proof.Machine

/-- The front command is run on the state with the queue's rest; an empty queue leaves the state as it is. -/
def step (s : State) : Host.Outcome State Fault Refusal :=
  match s.pending with
  | [] => .next s
  | c :: rest => exec c { s with pending := rest }

/-- The command a word spells is put at the front of the queue; a word that spells none leaves the state. -/
def State.withFetchWord (s : State) (nbits w : Nat) : State :=
  match decodeTableWord nbits w with
  | some c => { s with pending := c :: s.pending }
  | none => s

end Sys2Proof.Machine
end

