-- ==== Sys2Proof/Machine/PortCodec.lean ====
section
/-! DEFINITION. The terminal port's bytes beyond Decode.lean: the command that the bytes of one select period make (R187,
R188), and the response frame (R203) with its fields in the order the owning rules name them (R200). DESIGN CHOICE
(unsafe, log 23): an optional field of a response is preceded by a yes-or-no byte, and a field that the manual numbers in
no list takes the numbering of its table. -/

namespace Sys2Proof.Machine

/-! ## Requests (R187, R188) -/

/-- The command a select period's bytes make; none when no frame was completed. -/
def portCommand (bs : List Byte) : Option Instr :=
  match judgeBytes bs with
  | .incomplete => none
  | .badFrame => some .badFrame
  | .request i => some i

/-! ## Parts of a response -/

/-- A yes-or-no field (R200). -/
def yesNo (b : Bool) : List Byte := [if b then 1#8 else 0#8]

/-- An optional field of a response (log 23). -/
def optBytes {α : Type} (f : α → List Byte) (o : Option α) : List Byte := o.elim [0#8] fun a => 1#8 :: f a

/-- A set: one bit per member, bit 0 for the first (R200). -/
def setByte (members : List Bool) : Byte :=
  byteOf (members.foldr (fun b n => (if b then 1 else 0) + 2 * n) 0)

def num (k n : Nat) : List Byte := toBytes k n

/-! ### Enumerated fields, numbered from 1 in the order of their rule (R200) -/

def PartState.code : PartState → Nat
  | .scanning => 1 | .unconfigured => 2 | .running => 3 | .dormant => 4

def FaultKind.code : FaultKind → Nat
  | .none => 1 | .check => 2 | .cutOff => 3 | .noLack => 4 | .keying => 5 | .unchanged => 6

def MeterState.code : MeterState → Nat
  | .vacant => 1 | .hired => 2 | .stopped => 3

def Activity.code : Activity → Nat
  | .idle => 1 | .writing => 2 | .swapping => 3 | .erasing => 4 | .halted => 5

def StartUp.code : StartUp → Nat
  | .scanned => 1 | .repaired => 2 | .formatted => 3

/-- An unreadable header is in none of the four states: 0 is outside the list (R129, R200). -/
def Header.code : Header → Nat
  | .bad => 0 | .erased => 1 | .carrying _ => 2 | .active _ => 3 | .full _ => 4

def AlarmState.code : AlarmState → Nat
  | .quiet => 1 | .held => 2 | .open => 3 | .acknowledged => 4 | .clearing => 5

def RaiseSource.code : RaiseSource → Nat
  | .switch => 1 | .host => 2 | .restored => 3

def OpenRecord.code : OpenRecord → Nat
  | .none => 1 | .owed => 2 | .queued => 3 | .written => 4

def Lamp.code : Lamp → Nat
  | .off => 1 | .steady => 2 | .slow => 3 | .fast => 4

def TxOutcome.code : TxOutcome → Nat
  | .delivered => 1 | .broadcastSent => 2 | .noLack => 3 | .retracted => 4 | .removed => 5

def LackState.code : LackState → Nat
  | .sent => 1 | .withheld => 2 | .notOwed => 3

def VehicleNeed.code : VehicleNeed → Nat
  | .standard => 1 | .large => 2 | .accessible => 3

def OfferState.code : OfferState → Nat
  | .bidWait => 1 | .bidSent => 2 | .awarded => 3 | .accepting => 4 | .held => 5 | .heldUnconfirmed => 6
  | .ineligible => 7 | .suppressed => 8 | .missed => 9 | .lost => 10 | .expired => 11 | .withdrawn => 12
  | .refused => 13 | .done => 14

def OfferReason.code : OfferReason → Nat
  | .meter => 1 | .availability => 2 | .alarm => 3 | .link => 4 | .jobHeld => 5 | .vehicle => 6 | .position => 7
  | .refusal r => 7 + r.code

def RetractReason.code : RetractReason → Nat
  | .suppression => 1 | .meter => 2 | .alarm => 3 | .award => 4 | .withdraw => 5

def UploadState.code : UploadState → Nat
  | .storing => 1 | .queued => 2 | .unsent => 3 | .delivered => 4 | .notListed => 5

def MsgKind.code : MsgKind → Nat
  | .text => 1 | .priorityText => 2 | .query => 3

def MsgState.code : MsgState → Nat
  | .new => 1 | .shown => 2 | .read => 3 | .replied => 4 | .expired => 5

def LineAttr.code : LineAttr → Nat
  | .normal => 1 | .inverse => 2 | .blink => 3

/-- Status codes run from 0x00 (R203). -/
def Status.code : Status → Nat
  | .ok => 0x00 | .state => 0x01 | .range => 0x02 | .full => 0x03 | .queueFull => 0x04 | .storeBusy => 0x05
  | .storeFault => 0x06 | .tooLate => 0x07 | .unknownId => 0x08 | .notConfigured => 0x09 | .noShift => 0x0A
  | .badFrame => 0x0B

/-- Notice kinds are coded 1..17 (R203). -/
def NoticeKind.code : NoticeKind → Nat
  | .linkState => 1 | .offerHeard => 2 | .offerChanged => 3 | .jobAwarded => 4 | .received => 5 | .sendOutcome => 6
  | .messageNew => 7 | .messageExpired => 8 | .fareChanged => 9 | .tripClosed => 10 | .uploadChanged => 11
  | .storeEvent => 12 | .storeFault => 13 | .alarmState => 14 | .otherAlarm => 15 | .supplyLow => 16 | .overflow => 17

/-! ### Notices (R203) -/

/-- The four subject bytes, by what the subject names (R203). -/
def Subject.bytes : Subject → List Byte
  | .offer id => num 2 id.base ++ num 2 id.number
  | .message p => num 2 p.source ++ num 2 p.number
  | .alarm id => num 2 id.origin ++ num 1 id.alarm ++ [0#8]
  | .trip n => [0#8, 0#8] ++ num 2 n
  | .queue .priority => [0#8, 0#8, 0#8, 1#8]
  | .queue .ordinary => [0#8, 0#8, 0#8, 2#8]
  | .sector n => [0#8, 0#8, 0#8] ++ num 1 n
  | .link | .meter | .store | .ownAlarm | .outcomes | .list => [0#8, 0#8, 0#8, 0#8]

/-- A notice entry is 5 bytes (R203). -/
def Notice.bytes (n : Notice) : List Byte := num 1 n.kind.code ++ n.subject.bytes

/-! ### The entries of the blocks -/

def pairBytes (p : MsgPair) : List Byte := num 2 p.source ++ num 2 p.number

def TripFlags.byte (f : TripFlags) : Byte :=
  setByte [f.fareLimit, f.pulseAnomaly, f.emergencyDuringTrip, f.powerInterrupted]

/-- R57. -/
def SendOutcome.bytes (o : SendOutcome) : List Byte :=
  num 1 o.tag ++ num 1 o.outcome.code ++ num 1 o.attempts ++ yesNo o.inFlight

/-- A received payload: a BEACON's fields or the data with its length (R32). -/
def RxPayload.bytes : RxPayload → List Byte
  | .beacon b => num 1 b.status.code ++ num 1 b.zone ++ optBytes cellBytes b.cell ++ num 1 b.link.code
  | .data d => textBytes d

/-- R32. -/
def RxEntry.bytes (e : RxEntry) : List Byte :=
  num 1 (if e.payload.kind = .terminalData then 2 else 1) ++ num 2 e.source ++ num 2 e.dest ++ num 1 e.fleet ++ num 1 e.seq
    ++ num 4 e.arrival ++ num 1 e.lack.code ++ e.payload.bytes

def QueuedFrame.bytes (q : QueuedFrame) : List Byte := optBytes (fun r => num 1 r.code) q.reason

/-- The last reply outcome, numbered by R60's own list: DELIVERED 1, NO_LACK 2, RETRACTED 3 (R200). A reply entry has no other
outcome; 0 is outside the list. -/
def replyCode : TxOutcome → Nat
  | .delivered => 1 | .noLack => 2 | .retracted => 3 | .broadcastSent | .removed => 0

/-- R60. -/
def OfferEntry.bytes (e : OfferEntry) : List Byte :=
  offerIdBytes e.id ++ optBytes (num 1) e.zone ++ optBytes cellBytes e.pickup ++ optBytes (fun v => num 1 v.code) e.need
    ++ optBytes (num 1) e.window ++ optBytes (num 3) e.fareEstimate ++ optBytes textBytes e.pickupText
    ++ optBytes textBytes e.jobText ++ num 4 e.arrival ++ num 1 e.state.code ++ optBytes (fun r => num 1 r.code) e.reason
    ++ optBytes (num 1) e.rank ++ optBytes (num 1) e.bidSlot ++ optBytes (num 1) e.bestRank
    ++ optBytes (num 1) e.awardTimer ++ optBytes (num 1) e.acceptTimer ++ optBytes QueuedFrame.bytes e.bidFrame
    ++ optBytes QueuedFrame.bytes e.replyFrame ++ optBytes (fun o => num 1 (replyCode o)) e.lastReply
    ++ optBytes (num 2) e.linkedTrip

/-- R116. -/
def TripRecord.bytes (t : TripRecord) : List Byte :=
  num 2 t.number ++ optBytes offerIdBytes t.jobId ++ listBytes (num 1) t.tariffList ++ num 4 t.startTime
    ++ num 4 t.endTime ++ num 3 t.hiredDistance ++ num 3 t.waiting ++ num 3 t.earned ++ num 3 t.charged
    ++ num 1 t.freeUsed ++ num 3 t.fare ++ listBytes extraBytes t.extras ++ [t.flags.byte] ++ num 1 t.upload.code

/-- R119, each in the bytes its limit needs. -/
def Totals.bytes (t : Totals) : List Byte :=
  num 4 t.totalDistance ++ num 4 t.hiredDistance ++ num 3 t.hirings ++ num 4 t.earned ++ num 4 t.charged
    ++ num 5 t.fare ++ num 5 t.extras ++ num 2 t.anomalies

/-- R112: OPEN 1, CLOSED 2. DESIGN CHOICE (unsafe, log 70): the fields stand in the order of R112's table. -/
def Shift.bytes (s : Shift) : List Byte :=
  num 2 s.number ++ num 1 (if s.isOpen then 1 else 2) ++ optBytes (num 4) s.openTime ++ optBytes (num 4) s.closeTime
    ++ s.totals.bytes

/-- The receipt field: absent, or OWED with its kind, QUEUED, DELIVERED, NO_LACK, numbered 1 to 4 (R148). -/
def Receipt.bytes : Receipt → List Byte
  | .owed k => num 1 1 ++ num 1 k.code
  | .queued _ => num 1 2
  | .delivered => num 1 3
  | .noLack => num 1 4

/-- R148. DESIGN CHOICE (unsafe, log 69): an entry that is no QUERY has the count byte of its reply list, 0. -/
def Message.bytes (m : Message) : List Byte :=
  pairBytes m.pair ++ num 1 m.kind.code ++ num 1 m.fleet ++ textBytes m.text ++ listBytes textBytes m.replies
    ++ optBytes (num 2) m.lifetime ++ num 4 m.arrival ++ num 1 m.state.code ++ optBytes (num 1) m.replyChosen
    ++ optBytes Receipt.bytes m.receipt

/-- The trip fields of R109. -/
def meterTripBytes (t : Trip) : List Byte :=
  num 2 t.number ++ num 1 t.tariff ++ optBytes (num 1) t.pendingTariff ++ num 3 t.fare ++ num 3 t.earned
    ++ num 3 t.charged ++ num 1 t.freeLeft ++ num 3 t.hiredDistance ++ num 3 t.waiting ++ num 1 t.extras.length
    ++ [t.flags.byte]

/-- R109. -/
def MeterReport.bytes (m : MeterReport) : List Byte :=
  num 1 m.meter.code ++ optBytes meterTripBytes m.trip ++ yesNo m.checkpointOwed

def SectorReport.bytes (c : SectorReport) : List Byte :=
  num 1 c.header.code ++ optBytes (num 4) c.header.seq ++ yesNo c.fault

/-- R146. DESIGN CHOICE (unsafe, log 69): the four sectors are a list with its count byte. -/
def StoreReport.bytes (r : StoreReport) : List Byte :=
  num 1 r.activity.code ++ yesNo r.held ++ num 1 r.groups ++ listBytes SectorReport.bytes r.sectors ++ num 1 r.inRotation
    ++ num 2 r.freeSlots ++ num 2 r.dropped ++ num 1 r.startUp.code

def RestorePending.bytes (r : RestorePending) : List Byte := num 1 r.number ++ num 4 r.time ++ cellBytes r.cell

/-- ACK relayed: NO, PENDING, DONE (R179). -/
def AckRelay.code : AckRelay → Nat
  | .no => 1 | .pending _ _ => 2 | .done => 3

/-- R179, R185. An optional join time follows ACK relayed and the pending relay (log 23). -/
def RelayReport.bytes (r : RelayReport) : List Byte :=
  num 2 r.entry.id.origin ++ num 1 r.entry.id.alarm ++ optBytes (num 2) r.entry.highest ++ num 1 r.entry.ackRelay.code
    ++ optBytes (num 4) r.sinceAckJoined
    ++ optBytes (fun p : RelayPending => num 2 p.repeatSeq ++ optBytes (num 2) p.before) r.entry.pending
    ++ optBytes (num 4) r.sinceJoined ++ num 4 r.sinceHeard ++ optBytes (fun p : Phase => num 1 p.code) r.entry.lastPhase
    ++ optBytes cellBytes r.entry.lastCell

/-- R166, R185. -/
def AlarmReport.bytes (a : AlarmReport) : List Byte :=
  num 1 a.alarm.code ++ optBytes (num 1) a.number ++ optBytes (fun c : RaiseSource => num 1 c.code) a.source ++ num 2 a.nextRepeat
    ++ yesNo a.ackHeard ++ num 1 a.openRecord.code ++ optBytes (fun p : Phase => num 1 p.code) a.ownEntry ++ num 1 a.clearedSent
    ++ yesNo a.pendingRaise ++ optBytes RestorePending.bytes a.restore ++ optBytes (num 1) a.repeatLeft ++ num 1 a.lastNumber
    ++ num 1 a.lamp.code ++ yesNo a.markerShown ++ listBytes RelayReport.bytes a.relays ++ num 1 a.relayOverflow

/-- The groups of R189, in its order. DESIGN CHOICE (unsafe, log 23): edit mode and the lit display are yes-or-no bytes. -/
def StatusReport.bytes (r : StatusReport) : List Byte :=
  num 1 r.part.code ++ num 1 r.requestCount ++ num 1 r.notices ++ num 1 r.noticeLost ++ yesNo r.handedOver
    ++ num 1 r.link.code ++ num 2 r.sfc ++ num 1 r.hfc ++ num 1 r.quietSpans ++ num 1 r.lastFault.code
    ++ num 1 r.priorityEntries ++ num 1 r.ordinaryEntries ++ num 2 r.malformed
    ++ r.meter.bytes ++ r.store.bytes ++ r.alarm.bytes
    ++ num 1 r.shown ++ cursorBytes r.cursor ++ yesNo r.editMode ++ optBytes cursorBytes r.editMark ++ yesNo r.lit

/-- The fields of a response, in the order the owning rule names them (R203). -/
def Reply.bytes : Reply → List Byte
  | .bare => []
  | .badField n => num 1 n
  | .status r => r.bytes
  | .outcomes l left lost => listBytes SendOutcome.bytes l ++ num 1 left ++ num 1 lost
  | .received e left p o => optBytes RxEntry.bytes e ++ num 1 left ++ num 1 p ++ num 1 o
  | .offers t held overflow available =>
    listBytes OfferEntry.bytes t ++ optBytes offerIdBytes held ++ num 1 overflow ++ yesNo available
  | .number n => num 2 n
  | .alarmNumber n => num 1 n
  | .totals t => t.bytes
  | .trip t => t.bytes
  | .books t sh last uploads interrupted =>
    t.bytes ++ sh.bytes ++ num 2 last ++ listBytes (fun u : Nat × UploadState => num 2 u.1 ++ num 1 u.2.code) uploads
      ++ optBytes (num 2) interrupted
  | .messages q recent refusals lost => listBytes Message.bytes q ++ num 1 recent ++ num 2 refusals ++ num 2 lost
  | .receipt r => optBytes Receipt.bytes r
  | .cursor c => cursorBytes c
  | .chars text attrs c => textBytes text ++ listBytes (fun a : LineAttr => num 1 a.code) attrs ++ cursorBytes c
  | .notices l left lost => listBytes Notice.bytes l ++ num 1 left ++ num 1 lost

/-- A response frame: marker, length, status, count, fields, check (R203). -/
def Response.bytes (r : Response) : List Byte :=
  let body := num 1 r.status.code ++ num 1 r.count ++ r.reply.bytes
  let covered := num 2 body.length ++ body
  0x5A#8 :: covered ++ num 2 (crc covered)

/-- The first `n` bytes the port clocks out in a select period: the response and after its last byte filler, or filler alone
(R187, R203). DESIGN CHOICE (unsafe, log 78): the filler is clocked out also while no response is formed, as the request is still
clocked in and in a select period whose frame stays incomplete. -/
def State.portOut (s : State) (n : Nat) : List Byte :=
  let response := (s.port.response.map Response.bytes).getD []
  response.take n ++ List.replicate (n - response.length) 0x00#8

end Sys2Proof.Machine
end

