-- ==== Sys2Proof/Safety.lean ====
section
/-! DEFINITION. What is meant to hold of every state a command leads to, whatever the state it came from: the invariants that
the statements say every step keeps. -/

namespace Sys2Proof.Safety

open Sys2Proof.Machine

/-- Every step that answers a next state keeps `Inv`. -/
def KeptByEveryStep (Inv : State → Prop) : Prop := ∀ s t : State, step s = .next t → Inv s → Inv t

/-- The fault counts stay within 256 and 160 (R16, R17), and the link state is the one they name unless it is SILENT or
RECOVERING, which only their own rules leave (R18, R20). -/
def LinkStateIsNamed (s : State) : Prop :=
  s.link.sfc ≤ 256 ∧ s.link.hfc ≤ 160
    ∧ (s.link.state = .silent ∨ s.link.state = .recovering ∨ s.link.state = namedLink s.link.sfc s.link.hfc)

/-- Every queue holds at most what its rule gives it: the pending queue 20 with 18 of the non-emergency classes (R41), the
send outcomes 16 (R57), the receive queues 8 and 24 (R32), the notice list 32 with OVERFLOW as the last place's only use
and no entry twice (R191). The model's names of the pending entries are each used once (log 5). -/
def QueuesFit (s : State) : Prop :=
  (s.tx.queue.map (·.uid)).Nodup ∧ (∀ e ∈ s.tx.queue, e.uid < s.nextUid)
    ∧ s.tx.queue.length ≤ 20 ∧ (s.tx.queue.filter fun e => !e.isEmergency).length ≤ 18 ∧ s.tx.outcomes.length ≤ 16
    ∧ s.rx.priorityQueue.length ≤ 8 ∧ s.rx.ordinaryQueue.length ≤ 24
    ∧ s.port.notices.length ≤ 32 ∧ s.port.notices.Nodup
    ∧ ((∀ n ∈ s.port.notices, n.kind ≠ .overflow) → s.port.notices.length ≤ 31)

/-- Every table holds at most what its rule gives it: 8 offers (R60), 12 messages (R148), 16 recent pairs (R151), 16 relay
entries (R179), 6 groups (R132); the four sectors stay four (R129). -/
def TablesFit (s : State) : Prop :=
  s.offers.table.length ≤ 8 ∧ s.msg.queue.length ≤ 12 ∧ s.msg.recent.length ≤ 16 ∧ s.emerg.relays.length ≤ 16
    ∧ s.store.queue.length ≤ 6 ∧ s.store.sectors.length = 4

/-- A position on a terminal page (R161). -/
def OnTerminalPage (c : Cursor) : Prop := (c.page = 6 ∨ c.page = 7) ∧ c.line ≤ 3 ∧ c.col ≤ 19

/-- The display memory keeps its eight pages of four lines of twenty characters (R157), the shown page is one of them (R159),
and the cursor and the mark of edit mode stay on the terminal pages (R161, R163). -/
def DisplayKeepsItsShape (s : State) : Prop :=
  s.msg.pages.length = 8 ∧ (∀ page ∈ s.msg.pages, page.length = 4 ∧ ∀ l ∈ page, l.chars.length = 20)
    ∧ s.msg.shown ≤ 7 ∧ OnTerminalPage s.msg.cursor ∧ ∀ c : Cursor, s.msg.editMark = some c → OnTerminalPage c

/-- Every counter stays within the bounds of its rule. -/
def CountersFit (s : State) : Prop :=
  s.port.requestCount ≤ 255 ∧ s.port.lost ≤ 255 ∧ s.link.seqCounter ≤ 255 ∧ s.link.quietSpans ≤ 79
    ∧ s.link.partialSpan ≤ 5 ∧ (∀ n : Nat, s.link.listenIn = some n → n ≤ 3) ∧ s.tx.outcomeLost ≤ 255
    ∧ s.tx.cycleIndex ≤ 15 ∧ s.rx.malformed ≤ 65535 ∧ s.rx.priorityLost ≤ 255 ∧ s.rx.ordinaryLost ≤ 255
    ∧ s.offers.overflow ≤ 255 ∧ s.offers.positionAge ≤ 65535 ∧ s.offers.idleMinutes ≤ 255
    ∧ s.msg.refusals ≤ 65535 ∧ s.msg.receiptLost ≤ 65535 ∧ s.emerg.relayOverflow ≤ 255 ∧ s.store.dropped ≤ 65535
    ∧ s.store.writeCounter ≤ 4294967295

/-- The meter is VACANT exactly while no trip is open (R86), the alarm is QUIET exactly while it has no number (R166), and a
part whose reset input is asserted is SCANNING (R199). -/
def ModesAgree (s : State) : Prop :=
  (s.fare.meter = .vacant ↔ s.fare.trip = none) ∧ (s.emerg.alarm = .quiet ↔ s.emerg.number = none)
    ∧ (s.port.inReset = true → s.port.part = .scanning)

end Sys2Proof.Safety
end

