-- ==== Sys2Proof/Certificates/Slice0/Obligations.lean ====
section
/-! DEFINITION. The statements about the machine: what each command does, what it leaves, and what holds of every state. -/

namespace Sys2Proof.Claims

open Sys2Proof.Machine

/-! ## How the statements are said -/

/-- The command is completed: it answers a next state, and `P` says what that state holds. -/
def Completes (c : Instr) (s : State) (P : State → Prop) : Prop := ∃ t, exec c s = .next t ∧ P t

/-- The blocks of the state. -/
inductive Block where
  | link | rx | tx | offers | fare | trips | store | msg | emerg | port
  deriving DecidableEq, Repr

/-- A block is as it was. The roof lamp and the display bus follow every command (LampAndDisplayFollowEveryCommand) and
are left out. -/
def Kept (b : Block) (s t : State) : Prop :=
  match b with
  | .link => t.link = s.link
  | .rx => t.rx = s.rx
  | .tx => t.tx = s.tx
  | .offers => t.offers = s.offers
  | .fare => t.fare = s.fare
  | .trips => t.trips = s.trips
  | .store => t.store = s.store
  | .msg => { t.msg with bus := s.msg.bus } = s.msg
  | .emerg => { t.emerg with lamp := s.emerg.lamp, lampOn := s.emerg.lampOn } = s.emerg
  | .port => t.port = s.port

/-- The frame: every block outside the list, and the queue of commands, is as it was. -/
def OnlyTouches (may : List Block) (s t : State) : Prop := t.pending = s.pending ∧ ∀ b, b ∈ may ∨ Kept b s t

/-- The part is RUNNING and its reset input is released. -/
abbrev Up (s : State) : Prop := s.port.part = .running ∧ s.port.inReset = false

/-- A request was counted and answered. -/
def Answered (st : Status) (r : Reply) (s t : State) : Prop :=
  t.port.response = some ⟨st, wrapInc 255 s.port.requestCount, r⟩
    ∧ t.port.requestCount = wrapInc 255 s.port.requestCount

/-- The port changed by a request's count and answer alone. -/
def JustAnswered (st : Status) (r : Reply) (s t : State) : Prop :=
  t.port = { s.port with
    response := some ⟨st, wrapInc 255 s.port.requestCount, r⟩
    requestCount := wrapInc 255 s.port.requestCount }

/-- A request that was refused, or that reads alone: nothing changed but the count and the answer. -/
def NothingBut (st : Status) (r : Reply) (s t : State) : Prop := JustAnswered st r s t ∧ OnlyTouches [.port] s t

/-- The port changed by one notice at most, as R191 judges it, beside the count and the answer. -/
def AnsweredWithNotice (k : NoticeKind) (j : Subject) (st : Status) (r : Reply) (s t : State) : Prop :=
  JustAnswered st r (raise k j s) t

end Sys2Proof.Claims

open Sys2Proof Sys2Proof.Machine Sys2Proof.Claims

/-! ## The machine -/

/-- A step takes the command at the front of the queue and is its meaning on the state with the rest of the queue. The second
clause, that an empty queue idles, is the model's choice (log 3). -/
def Obligations.StepRunsTheFrontCommand : Prop :=
  (∀ (c : Instr) (rest : List Instr) (s : State),
      s.pending = c :: rest → step s = exec c { s with pending := rest })
    ∧ ∀ s : State, s.pending = [] → step s = .next s

/-- Every command answers a next state: none is refused and none faults, and none changes the queue of commands. That the
model's own count of whole seconds moves at CLOCK_SECOND alone is the model's (log 20). -/
def Obligations.EveryCommandLeavesTheQueue : Prop :=
  ∀ (c : Instr) (s : State),
    Completes c s fun t => t.pending = s.pending ∧ (c ≠ .clockSecond → t.elapsed = s.elapsed)

/-- The pattern table of R183. -/
def Sys2Proof.Claims.lampTable (s : State) : Lamp :=
  if s.port.part ≠ .running then .off
  else if s.emerg.alarm = .quiet then
    (if s.fare.meter = .vacant ∧ s.offers.available = true then .steady else .off)
  else if s.emerg.alarm = .held ∨ (s.emerg.alarm = .clearing ∧ (s.link.state = .silent ∨ s.link.state = .recovering)) then
    .fast
  else .slow

/-- After every command the roof lamp has the pattern of R183 and the display bus carries the shown page while the display is
lit (R164). -/
def Obligations.LampAndDisplayFollowEveryCommand : Prop :=
  ∀ (c : Instr) (s : State), Completes c s fun t =>
    t.emerg.lamp = lampTable t
      ∧ t.msg.bus =
          (if t.port.part = .unconfigured ∨ t.port.part = .running then .page (t.msg.pages.getD t.msg.shown [])
           else .dark)

/-! ## Requests: judging (R187, R188) -/

def Sys2Proof.Claims.isRequest (c : Instr) : Bool := (requestCode c).isSome

/-- Taken in every part state, and in UNCONFIGURED (section 10.3). -/
def Sys2Proof.Claims.takenInAll (c : Instr) : Bool := c == .getStatus

def Sys2Proof.Claims.takenUnconfigured (c : Instr) : Bool :=
  match c with
  | .getStatus | .configure _ | .readTotals => true
  | _ => false

def Sys2Proof.Claims.NotConfiguredOutsideItsStates : Prop :=
  ∀ (c : Instr) (s : State), isRequest c = true → s.port.inReset = false →
    (s.port.part = .scanning ∧ takenInAll c = false)
      ∨ (s.port.part = .unconfigured ∧ takenUnconfigured c = false) →
    Completes c s fun t => NothingBut .notConfigured .bare s t

def Sys2Proof.Claims.RequestInDormantIsJudgedInRunning : Prop :=
  ∀ (c : Instr) (s : State), isRequest c = true → s.port.inReset = false → s.port.part = .dormant →
    exec c s = exec c (wake s)
      ∧ (wake s).port = { s.port with part := .running }
      ∧ (wake s).link = { s.link with slotClock := true, listenIn := some 0 }
      ∧ (wake s).tx = { s.tx with tickTimer := some s.tx.tick }
      ∧ (wake s).emerg.lamp = lampTable (wake s)
      ∧ OnlyTouches [.link, .tx, .msg, .port] s (wake s)

def Sys2Proof.Claims.BadFrameAndSelectReleaseTouchTheResponse : Prop :=
  (∀ s : State, s.port.inReset = false → Completes .badFrame s fun t =>
      t.port = { s.port with response := some ⟨.badFrame, s.port.requestCount, .bare⟩ } ∧ OnlyTouches [.port] s t)
    ∧ ∀ s : State, Completes .selectReleased s fun t =>
      t.port = { s.port with response := none } ∧ OnlyTouches [.port] s t

/-! ## Requests: the part and its configuration (R189, R190, R194 to R198) -/

/-- CONFIGURE answers RANGE with the number of the first field out of range, and STATE in RUNNING; nothing else changes (R194,
R195). The codes that the checks admit where no rule numbers them are the model's choice (log 21). -/
def Obligations.ConfigureRefusesTheFirstBadField : Prop :=
  ∀ (c : ConfigRequest) (s : State), s.port.inReset = false →
    (s.port.part = .unconfigured → ∀ n : Nat, n < (configChecks c).length → (configChecks c)[n]? = some false →
        (∀ m : Nat, m < n → (configChecks c)[m]? = some true) →
        Completes (.configure c) s fun t => NothingBut .range (.badField (n + 1)) s t)
      ∧ (s.port.part = .running → Completes (.configure c) s fun t => NothingBut .state .bare s t)

/-- CONFIGURE with every field in range, no alarm found open by the scan and no switch raise pending. -/
def Sys2Proof.Claims.ConfigureStartsRunning : Prop :=
  ∀ (c : ConfigRequest) (s : State), s.port.inReset = false → s.port.part = .unconfigured →
    (∀ b ∈ configChecks c, b = true) → s.emerg.restore = none → s.emerg.pendingRaise = false →
    Completes (.configure c) s fun t =>
      Answered .ok .bare s t
        ∧ t.port.part = .running
        ∧ t.link = { s.link with
            station := some c.station, fleet := some c.fleet, slotClock := true, listenIn := some 0 }
        ∧ t.tx = { s.tx with
            tick := c.beaconTick, cycleTable := c.cycleTable.map fun n => (beaconFormOf n).getD .none,
            tickTimer := some c.beaconTick }
        ∧ t.rx = { s.rx with
            priorityMode := (queueModeOf c.priorityMode).getD .blocking
            ordinaryMode := (queueModeOf c.ordinaryMode).getD .blocking
            acceptance := c.acceptance.map acceptEntryOf
            defaultAction := (defaultActionOf c.defaultAction).getD .reject }
        ∧ t.offers = { s.offers with
            capability := capabilitySet c.capability, awardTimeout := c.awardTimeout,
            acceptTimeout := c.acceptTimeout, idleMinutes := 0 }
        ∧ t.fare = { s.fare with
            pulseConstant := some c.pulseConstant, tariffs := c.tariffs, catalogue := c.extras, clockRunning := true,
            metres := 0 }
        ∧ t.trips = { s.trips with homeBase := some c.homeBase }
        ∧ t.store = { s.store with historyCarry := c.historyCarry == 1 }
        ∧ t.emerg.holdTime = c.switchHold ∧ t.emerg.marker = c.marker ∧ t.emerg.alarm = s.emerg.alarm
        ∧ t.port.disabled = disabledKinds c.noticeEnables
        ∧ t.pending = s.pending

/-- The state in which an alarm starts, by the link state (R170, R178). -/
def Sys2Proof.Claims.startsAs (l : LinkState) : AlarmState := if l = .silent ∨ l = .recovering then .held else .open

/-- The repeat timer as an alarm starts: 2 s in OPEN, and not started in HELD (R170). -/
def Sys2Proof.Claims.timerAtStart (s : State) : Option Nat :=
  if startsAs s.link.state = .open then some 2 else s.emerg.repeatTimer

/-- The link at a raise: SILENT becomes RECOVERING with nothing counted, and RECOVERING goes on as it stood (R19, R20, R170). -/
def Sys2Proof.Claims.LinkAtRaise (s t : State) : Prop :=
  t.link.state = (if s.link.state = .silent then .recovering else s.link.state)
    ∧ t.link.quietSpans = (if s.link.state = .silent then 0 else s.link.quietSpans)

/-- CONFIGURE with an alarm found open by the scan: it is restored (R178). -/
def Sys2Proof.Claims.ConfigureRestoresAnOpenAlarm : Prop :=
  ∀ (c : ConfigRequest) (r : RestorePending) (s : State), s.port.inReset = false → s.port.part = .unconfigured →
    (∀ b ∈ configChecks c, b = true) → s.emerg.restore = some r → s.emerg.ownEntry = none → s.tx.queue = [] →
    s.offers.table = [] →
    Completes (.configure c) s fun t =>
      Answered .ok .bare s t ∧ t.port.part = .running
        ∧ t.emerg.alarm = startsAs s.link.state ∧ t.emerg.number = some r.number ∧ t.emerg.source = some .restored
        ∧ t.emerg.nextRepeat = 32769 ∧ t.emerg.openRecord = .written ∧ t.emerg.restore = none
        ∧ t.emerg.pendingRaise = false ∧ t.emerg.repeatTimer = timerAtStart s
        ∧ t.tx.queue.map (fun e => (e.cls, e.payload, e.dest, e.hop)) =
            [(.emergencyOrigin, .emergency ⟨c.station, r.number⟩ 32768 .open s.cell, 0xFFFF, 3)]

/-- CONFIGURE with a switch raise pending and no alarm found open: the raise is made (R168, R170). -/
def Sys2Proof.Claims.ConfigureMakesThePendingRaise : Prop :=
  ∀ (c : ConfigRequest) (s : State), s.port.inReset = false → s.port.part = .unconfigured →
    (∀ b ∈ configChecks c, b = true) → s.emerg.restore = none → s.emerg.pendingRaise = true → s.emerg.alarm = .quiet →
    s.emerg.ownEntry = none → s.tx.queue = [] → s.offers.table = [] →
    let n := if s.emerg.lastNumber < 255 then s.emerg.lastNumber + 1 else 0
    Completes (.configure c) s fun t =>
      Answered .ok .bare s t ∧ t.port.part = .running ∧ LinkAtRaise s t
        ∧ t.emerg.alarm = startsAs s.link.state ∧ t.emerg.number = some n ∧ t.emerg.lastNumber = n
        ∧ t.emerg.source = some .switch ∧ t.emerg.nextRepeat = 1 ∧ t.emerg.pendingRaise = false
        ∧ t.emerg.repeatTimer = timerAtStart s
        ∧ t.tx.queue.map (fun e => (e.cls, e.payload, e.dest, e.hop)) =
            [(.emergencyOrigin, .emergency ⟨c.station, n⟩ 0 .open s.cell, 0xFFFF, 3)]

/-- GET_STATUS answers with the groups of R189 and leaves the last fault kind UNCHANGED (R21); nothing else moves. The count of
elapsed seconds (log 20), the joinings of relays as seconds passed (log 23) and the order of the relay table (log 68) are the
model's own. -/
def Obligations.GetStatusReadsAndMarksTheFault : Prop :=
  ∀ s : State, s.port.inReset = false → s.port.part ≠ .dormant →
    Completes .getStatus s fun t =>
      ∃ r : StatusReport, JustAnswered .ok (.status r) s t
        ∧ t.link = { s.link with lastFault := .unchanged } ∧ OnlyTouches [.link, .port] s t
        ∧ r.part = s.port.part ∧ r.requestCount = wrapInc 255 s.port.requestCount
        ∧ r.notices = s.port.notices.length ∧ r.noticeLost = s.port.lost ∧ r.handedOver = s.port.handedOver
        ∧ r.link = s.link.state ∧ r.sfc = s.link.sfc ∧ r.hfc = s.link.hfc ∧ r.quietSpans = s.link.quietSpans
        ∧ r.lastFault = s.link.lastFault
        ∧ r.priorityEntries = s.rx.priorityQueue.length ∧ r.ordinaryEntries = s.rx.ordinaryQueue.length
        ∧ r.malformed = s.rx.malformed
        ∧ r.meter.meter = s.fare.meter ∧ (s.fare.meter ≠ .vacant → r.meter.trip = s.fare.trip)
        ∧ r.store.activity = s.store.activity ∧ r.store.groups = s.store.queue.length
        ∧ r.store.held = s.store.supplyLow ∧ r.store.dropped = s.store.dropped ∧ r.store.startUp = s.store.startUp
        ∧ r.alarm.alarm = s.emerg.alarm ∧ r.alarm.number = s.emerg.number
        ∧ r.alarm.openRecord = s.emerg.openRecord ∧ r.alarm.lastNumber = s.emerg.lastNumber
        ∧ r.alarm.lamp = s.emerg.lamp ∧ r.alarm.repeatLeft = s.emerg.repeatTimer
        ∧ r.alarm.relays = s.emerg.relays.map (fun e =>
            { entry := e, sinceHeard := s.elapsed - e.lastHeard,
              sinceJoined := e.pending.map fun p => s.elapsed - p.joined,
              sinceAckJoined := e.ackRelay.joined.map fun m => s.elapsed - m })
        ∧ r.shown = s.msg.shown ∧ r.cursor = s.msg.cursor ∧ r.editMode = s.msg.editMode

/-- The four conditions of R197, which R198 shares. -/
abbrev Sys2Proof.Claims.MayStop (s : State) : Prop :=
  s.fare.meter = .vacant ∧ s.offers.heldJob = none ∧ s.emerg.alarm = .quiet ∧ s.store.queue = []

def Sys2Proof.Claims.RestartAndDormantNeedTheFourConditions : Prop :=
  ∀ s : State, Up s → ¬ MayStop s →
    Completes .restart s (fun t => NothingBut .state .bare s t)
      ∧ Completes .enterDormant s fun t => NothingBut .state .bare s t

/-- RESTART with no frame on the air. -/
def Sys2Proof.Claims.RestartClearsAllButTheStoredState : Prop :=
  ∀ s : State, Up s → MayStop s → s.link.keyed = false →
    Completes .restart s fun t =>
      t.port.response = some ⟨.ok, wrapInc 255 s.port.requestCount, .bare⟩
        ∧ t.port.part = .unconfigured ∧ t.port.requestCount = 0 ∧ t.port.notices = [] ∧ t.port.lost = 0
        ∧ t.port.disabled = [] ∧ t.port.clock = 0
        ∧ t.link.state = s.link.state ∧ t.link.sfc = s.link.sfc ∧ t.link.hfc = s.link.hfc
        ∧ t.link.side = .idle ∧ t.link.slotClock = false ∧ t.link.station = none ∧ t.link.fleet = none
        ∧ t.rx = .reset ∧ t.tx = .reset ∧ t.offers = .reset ∧ t.fare = .reset
        ∧ t.trips.shift = s.trips.shift ∧ t.trips.totals = s.trips.totals ∧ t.trips.lastTrip = s.trips.lastTrip
        ∧ t.trips.uploads.map (fun u => (u.trip.number, u.trip.upload)) =
            s.trips.uploads.map (fun u =>
              (u.trip.number, if u.trip.upload = .queued then .unsent else u.trip.upload))
        ∧ t.store = { s.store with historyCarry := true }
        ∧ t.msg.queue = [] ∧ t.msg.recent = [] ∧ t.msg.shown = 0 ∧ t.msg.editMode = false
        ∧ t.emerg.alarm = .quiet ∧ t.emerg.lastNumber = s.emerg.lastNumber ∧ t.emerg.relays = []
        ∧ t.pending = s.pending

/-- ENTER_DORMANT with no entry in the pending queue. -/
def Sys2Proof.Claims.EnterDormantStopsTheLinkController : Prop :=
  ∀ s : State, Up s → MayStop s → s.link.keyed = false → s.tx.queue = [] → s.link.side ≠ .deferring →
    Completes .enterDormant s fun t =>
      t.port = { s.port with
          part := .dormant
          response := some ⟨.ok, wrapInc 255 s.port.requestCount, .bare⟩
          requestCount := wrapInc 255 s.port.requestCount }
        ∧ t.link = { s.link with
            slotClock := false, partialSpan := 0, listenIn := none, gap := none, deferral := none,
            carrierInAckGap := false, decisionWaits := false, lackHeard := false, side := .idle }
        ∧ t.tx = { s.tx with tickTimer := none }
        ∧ OnlyTouches [.link, .tx, .port] s t

def Sys2Proof.Claims.PositionAndAvailabilityAreSet : Prop :=
  ∀ s : State, Up s →
    (∀ p : PositionRequest, p.cell.x ≤ 4095 → p.cell.y ≤ 4095 → p.zone ≤ 255 → p.adjoining.length ≤ 4 →
        (∀ z ∈ p.adjoining, z ≤ 255) → p.clock ≤ 4294967295 →
        Completes (.setPosition p) s fun t =>
          t.port = { s.port with
              clock := p.clock
              response := some ⟨.ok, wrapInc 255 s.port.requestCount, .bare⟩
              requestCount := wrapInc 255 s.port.requestCount }
            ∧ t.offers = { s.offers with cell := some p.cell, positionAge := 0 }
            ∧ t.rx = { s.rx with zones := t.rx.zones } ∧ t.rx.zones.head? = some p.zone ∧ t.rx.zones.Nodup
            ∧ (∀ z : Nat, z ∈ t.rx.zones ↔ z = p.zone ∨ z ∈ p.adjoining)
            ∧ OnlyTouches [.rx, .offers, .port] s t)
      ∧ (∀ p : PositionRequest, 4095 < p.cell.x ∨ 4095 < p.cell.y ∨ 4 < p.adjoining.length →
          Completes (.setPosition p) s fun t => NothingBut .range .bare s t)
      ∧ (∀ b : Bool, Completes (.setAvailable (if b then 1 else 0)) s fun t =>
          JustAnswered .ok .bare s t ∧ t.offers = { s.offers with available := b } ∧ OnlyTouches [.offers, .port] s t)
      ∧ ∀ v : Nat, 1 < v → Completes (.setAvailable v) s fun t => NothingBut .range .bare s t

def Sys2Proof.Claims.LinkRejoinLeavesSilentAlone : Prop :=
  ∀ s : State, Up s →
    (s.link.state = .silent → Completes .linkRejoin s fun t =>
        t.link = { s.link with state := .recovering, quietSpans := 0, partialSpan := 0 }
          ∧ AnsweredWithNotice .linkState .link .ok .bare s t ∧ OnlyTouches [.link, .port] s t)
      ∧ (s.link.state ≠ .silent → Completes .linkRejoin s fun t => NothingBut .state .bare s t)

/-! ## Requests: host data and what the host reads (R35, R53, R54, R58, R82, R125, R156, R193) -/

/-- The values a destination may take (R4). -/
abbrev Sys2Proof.Claims.Address (d : Nat) : Prop :=
  (1 ≤ d ∧ d ≤ 4000) ∨ (0xF000 ≤ d ∧ d ≤ 0xF0FF) ∨ d = 0xFFFE ∨ d = 0xFFFF

/-- SEND_DATA while the channel is busy or the link controller is in an exchange, so that no presentation follows. -/
def Sys2Proof.Claims.SendDataJoinsOrIsRefused : Prop :=
  ∀ (dest tag : Nat) (data : List Byte) (s : State), Up s → tag ≤ 255 →
    (¬ Address dest ∨ s.link.station = some dest ∨ data = [] ∨ 64 < data.length →
        Completes (.sendData dest tag data) s fun t => NothingBut .range .bare s t)
      ∧ (Address dest → s.link.station ≠ some dest → 1 ≤ data.length → data.length ≤ 64 →
          (20 ≤ s.tx.queue.length ∨ 18 ≤ (s.tx.queue.filter fun e => !e.isEmergency).length →
            Completes (.sendData dest tag data) s fun t => NothingBut .queueFull .bare s t)
          ∧ (s.tx.queue.length < 20 → (s.tx.queue.filter fun e => !e.isEmergency).length < 18 →
              s.link.side = .onAir ∨ s.link.side = .ackWait ∨ s.link.side = .lacking ∨ (s.link.side = .idle ∧ s.link.carrier = true) →
              Completes (.sendData dest tag data) s fun t =>
                JustAnswered .ok .bare s t ∧ OnlyTouches [.tx, .port] s t
                  ∧ ∃ e : PendEntry, t.tx = { s.tx with queue := s.tx.queue ++ [e] }
                    ∧ e.owner = .terminalPort ∧ e.cls = .normal ∧ e.payload = .data data ∧ e.dest = dest
                    ∧ e.tag = some tag ∧ e.fleet = s.link.fleet.getD 0 ∧ e.hop = 0 ∧ e.relayed = false
                    ∧ e.state = .waiting ∧ e.attempts = 0 ∧ e.seq = none
                    ∧ e.needsLack = decide (1 ≤ dest ∧ dest ≤ 4000)))

/-- The oldest entry of host data that a CANCEL_SEND can name. -/
abbrev Sys2Proof.Claims.OldestWithTag (tag : Nat) (e : PendEntry) (s : State) : Prop :=
  s.tx.queue.find? (fun e => e.owner == .terminalPort && e.tag == some tag && e.state != .retractPending) = some e

def Sys2Proof.Claims.CancelSendRetractsTheOldest : Prop :=
  ∀ (tag : Nat) (s : State), Up s →
    (∀ e : PendEntry, OldestWithTag tag e s → findEntry e.uid s = some e →
        (e.state = .waiting → s.tx.outcomes.length < 16 →
          Completes (.cancelSend tag) s fun t =>
            AnsweredWithNotice .sendOutcome .outcomes .ok .bare s t ∧ OnlyTouches [.tx, .port] s t
              ∧ t.tx = { s.tx with
                  queue := s.tx.queue.filter fun a => a.uid != e.uid
                  outcomes := s.tx.outcomes ++ [⟨tag, .retracted, e.attempts, false⟩] })
        ∧ (e.state = .onAir ∨ e.state = .awaitLack →
          Completes (.cancelSend tag) s fun t =>
            JustAnswered .ok .bare s t ∧ OnlyTouches [.tx, .port] s t
              ∧ t.tx = { s.tx with
                  queue := s.tx.queue.map fun a => if a.uid = e.uid then { a with state := .retractPending } else a }))
      ∧ ((∀ e ∈ s.tx.queue, ¬ (e.owner = .terminalPort ∧ e.tag = some tag ∧ e.state ≠ .retractPending)) →
          Completes (.cancelSend tag) s fun t => NothingBut .unknownId .bare s t)

/-- READ_OUTCOMES takes up to 8 entries, with the lost count (R58). -/
def Obligations.ReadOutcomesTakesUpToEight : Prop :=
  ∀ s : State, Up s → Completes .readOutcomes s fun t =>
    JustAnswered .ok (.outcomes (s.tx.outcomes.take 8) (s.tx.outcomes.length - 8) s.tx.outcomeLost) s t
      ∧ t.tx = { s.tx with outcomes := s.tx.outcomes.drop 8, outcomeLost := 0 } ∧ OnlyTouches [.tx, .port] s t

/-- READ_RECEIVED takes the oldest entry of the queue it names, with both lost counts (R35). -/
def Obligations.ReadReceivedEmptiesTheNamedQueue : Prop :=
  ∀ s : State, Up s →
    (∀ n : Nat, n = 1 ∨ (n = 3 ∧ s.rx.priorityQueue ≠ []) → Completes (.readReceived n) s fun t =>
        JustAnswered .ok (.received s.rx.priorityQueue.head? (s.rx.priorityQueue.length - 1) s.rx.priorityLost
            s.rx.ordinaryLost) s t
          ∧ t.rx = { s.rx with priorityQueue := s.rx.priorityQueue.drop 1, priorityLost := 0, ordinaryLost := 0 }
          ∧ OnlyTouches [.rx, .port] s t)
      ∧ (∀ n : Nat, n = 2 ∨ (n = 3 ∧ s.rx.priorityQueue = []) → Completes (.readReceived n) s fun t =>
        JustAnswered .ok (.received s.rx.ordinaryQueue.head? (s.rx.ordinaryQueue.length - 1) s.rx.priorityLost
            s.rx.ordinaryLost) s t
          ∧ t.rx = { s.rx with ordinaryQueue := s.rx.ordinaryQueue.drop 1, priorityLost := 0, ordinaryLost := 0 }
          ∧ OnlyTouches [.rx, .port] s t)
      ∧ ∀ n : Nat, n = 0 ∨ 3 < n → Completes (.readReceived n) s fun t => NothingBut .range .bare s t

/-- READ_NOTICES takes up to 8 notices; the lost count is cleared with the OVERFLOW entry (R193). -/
def Obligations.ReadNoticesTakesUpToEight : Prop :=
  ∀ s : State, Up s → Completes .readNotices s fun t =>
    t.port = { s.port with
        response := some ⟨.ok, wrapInc 255 s.port.requestCount,
          .notices (s.port.notices.take 8) (s.port.notices.length - 8) s.port.lost⟩
        requestCount := wrapInc 255 s.port.requestCount
        notices := s.port.notices.drop 8
        lost := if ∃ n ∈ s.port.notices.take 8, n.kind = .overflow then 0 else s.port.lost }
      ∧ OnlyTouches [.port] s t

/-- LIST_OFFERS, READ_TRIP, READ_TOTALS and MSG_LIST change nothing but the count and the answer. That READ_TRIP answers the
number 0 with UNKNOWN_ID is the model's choice (log 76). -/
def Obligations.ReadsChangeNothing : Prop :=
  ∀ s : State, Up s →
    Completes .listOffers s (fun t =>
        NothingBut .ok (.offers s.offers.table s.offers.heldJob s.offers.overflow s.offers.available) s t)
      ∧ Completes .msgList s (fun t =>
        NothingBut .ok (.messages s.msg.queue s.msg.recent.length s.msg.refusals s.msg.receiptLost) s t)
      ∧ Completes .readTotals s (fun t =>
        NothingBut .ok (.books s.trips.totals s.trips.shift s.trips.lastTrip
          (s.trips.uploads.map fun u => (u.trip.number, u.trip.upload))
          (if s.fare.restored then s.fare.trip.map (·.number) else none)) s t)
      ∧ (∀ (n : Nat) (u : UploadEntry), s.trips.uploads.find? (fun u => u.trip.number == n) = some u →
        Completes (.readTrip n) s fun t => NothingBut .ok (.trip u.trip) s t)
      ∧ (∀ (n : Nat) (r : TripRecord), (∀ u ∈ s.trips.uploads, u.trip.number ≠ n) → s.trips.lastClosed = some r →
        Completes (.readTrip n) s fun t =>
          if r.number = n then NothingBut .ok (.trip r) s t else NothingBut .unknownId .bare s t)

/-! ## Requests: jobs (R75, R76) -/

/-- An entry of the offer table under its own id, with no other of that id. -/
abbrev Sys2Proof.Claims.Listed (e : OfferEntry) (s : State) : Prop :=
  e ∈ s.offers.table ∧ ∀ a ∈ s.offers.table, a.id = e.id → a = e

/-- A reply can join the pending queue and is not presented on the same event. -/
abbrev Sys2Proof.Claims.ReplyJoinsQuietly (s : State) : Prop :=
  s.tx.queue.length < 20 ∧ (s.tx.queue.filter fun e => !e.isEmergency).length < 18
    ∧ s.link.side = .idle ∧ s.link.carrier = true

/-- The reply entry that joins (R41, R75, R76). -/
def Sys2Proof.Claims.ReplyJoined (p : TxPayload) (base : Nat) (s t : State) : Prop :=
  ∃ e : PendEntry, t.tx = { s.tx with queue := s.tx.queue ++ [e] } ∧ e.uid = s.nextUid ∧ e.owner = .offerEngine
    ∧ e.cls = .reply ∧ e.payload = p ∧ e.dest = base ∧ e.state = .waiting ∧ e.attempts = 0

def Sys2Proof.Claims.AcceptJobOffersAnAccept : Prop :=
  ∀ (e : OfferEntry) (s : State), Up s → Listed e s → e.state = .awarded →
    (ReplyJoinsQuietly s → Completes (.acceptJob e.id) s fun t =>
        AnsweredWithNotice .offerChanged (.offer e.id) .ok .bare s t ∧ ReplyJoined (.accept e.id) e.id.base s t
          ∧ t.offers = { s.offers with
              table := s.offers.table.map fun a =>
                if a.id = e.id then
                  { e with state := .accepting, acceptTimer := none, awardTimer := none,
                           replyFrame := some ⟨s.nextUid, none⟩ }
                else a
              heldJob := some e.id }
          ∧ OnlyTouches [.tx, .offers, .msg, .port] s t ∧ t.msg.queue = s.msg.queue)
      ∧ (20 ≤ s.tx.queue.length → Completes (.acceptJob e.id) s fun t => NothingBut .queueFull .bare s t)

def Sys2Proof.Claims.RefuseJobOffersARefusal : Prop :=
  ∀ (e : OfferEntry) (s : State), Up s → Listed e s →
    e.state = .awarded ∨ ((e.state = .held ∨ e.state = .heldUnconfirmed) ∧ e.linkedTrip = none) →
    s.offers.heldJob = some e.id →
    (ReplyJoinsQuietly s → Completes (.refuseJob e.id) s fun t =>
        AnsweredWithNotice .offerChanged (.offer e.id) .ok .bare s t
          ∧ ReplyJoined (.refuse e.id .driver) e.id.base s t
          ∧ t.offers = { s.offers with
              table := s.offers.table.map fun a =>
                if a.id = e.id then
                  { e with state := .refused, reason := some (.refusal .driver), acceptTimer := none,
                           awardTimer := none, replyFrame := some ⟨s.nextUid, none⟩ }
                else a
              heldJob := none }
          ∧ OnlyTouches [.tx, .offers, .msg, .port] s t ∧ t.msg.queue = s.msg.queue)
      ∧ (20 ≤ s.tx.queue.length → Completes (.refuseJob e.id) s fun t => NothingBut .queueFull .bare s t)

/-- ACCEPT_JOB and REFUSE_JOB turned away: no entry, or an entry that no longer takes the answer. That UNKNOWN_ID answers also an
id whose base station is out of range is the model's choice (log 76). -/
def Sys2Proof.Claims.LateAnswersAreTurnedAway : Prop :=
  ∀ (id : OfferId) (s : State), Up s →
    ((∀ e ∈ s.offers.table, e.id ≠ id) →
        Completes (.acceptJob id) s (fun t => NothingBut .unknownId .bare s t)
          ∧ Completes (.refuseJob id) s fun t => NothingBut .unknownId .bare s t)
      ∧ ∀ e : OfferEntry, Listed e s → e.id = id → e.state = .refused →
        Completes (.acceptJob id) s (fun t =>
            NothingBut (if e.reason = some (.refusal .timeout) then .tooLate else .state) .bare s t)
          ∧ Completes (.refuseJob id) s fun t =>
            NothingBut (if e.reason = some (.refusal .timeout) then .tooLate else .state) .bare s t

/-! ## Requests: the meter and the shift (R87 to R92, R113, R114) -/

/-- At least three sectors are in rotation, so the store takes groups (R132). -/
abbrev Sys2Proof.Claims.StoreTakesGroups (s : State) : Prop := 3 ≤ (rotation s).length

/-- METER_HIRE with no offer in the table that the hiring concerns. -/
def Sys2Proof.Claims.MeterHireFormsATrip : Prop :=
  ∀ (n : Nat) (f : Tariff) (s : State), Up s → s.fare.meter = .vacant → 1 ≤ n → s.fare.tariffs[n - 1]? = some f →
    s.trips.shift.isOpen = true → StoreTakesGroups s → s.offers.table = [] →
    Completes (.meterHire n) s fun t =>
      let number := if s.trips.lastTrip < 65535 then s.trips.lastTrip + 1 else 1
      AnsweredWithNotice .fareChanged .meter .ok (.number number) s t
        ∧ t.trips = { s.trips with lastTrip := number }
        ∧ t.fare.meter = .hired ∧ t.fare.opening = true ∧ t.fare.progress = 0 ∧ t.fare.checkpointOwed = false
        ∧ t.fare.tariffs = s.fare.tariffs ∧ t.fare.q = s.fare.q ∧ t.fare.metres = s.fare.metres
        ∧ (∃ trip : Trip, t.fare.trip = some trip ∧ trip.number = number ∧ trip.jobId = none
            ∧ trip.hireTariff = n ∧ trip.tariff = n ∧ trip.pendingTariff = none ∧ trip.tariffList = [n]
            ∧ trip.startTime = s.port.clock ∧ trip.endTime = none ∧ trip.hiredDistance = 0 ∧ trip.waiting = 0
            ∧ trip.earned = 0 ∧ trip.charged = 0 ∧ trip.freeLeft = f.N ∧ trip.freeUsed = 0 ∧ trip.fare = f.F
            ∧ trip.extras = [] ∧ trip.flags.fareLimit = false ∧ trip.flags.pulseAnomaly = false
            ∧ trip.flags.powerInterrupted = false
            ∧ (trip.flags.emergencyDuringTrip = true ↔ s.emerg.alarm ≠ .quiet))
        ∧ OnlyTouches [.fare, .trips, .msg, .port] s t ∧ t.msg.queue = s.msg.queue ∧ t.msg.shown = s.msg.shown

def Sys2Proof.Claims.MeterHireRefusals : Prop :=
  ∀ (n : Nat) (s : State), Up s →
    (s.fare.meter ≠ .vacant → Completes (.meterHire n) s fun t => NothingBut .state .bare s t)
      ∧ (s.fare.meter = .vacant → n = 0 ∨ s.fare.tariffs.length < n →
          Completes (.meterHire n) s fun t => NothingBut .range .bare s t)
      ∧ (s.fare.meter = .vacant → 1 ≤ n → n ≤ s.fare.tariffs.length → s.trips.shift.isOpen = false →
          Completes (.meterHire n) s fun t => NothingBut .noShift .bare s t)
      ∧ (s.fare.meter = .vacant → 1 ≤ n → n ≤ s.fare.tariffs.length → s.trips.shift.isOpen = true →
          ¬ StoreTakesGroups s → Completes (.meterHire n) s fun t => NothingBut .storeFault .bare s t)

def Sys2Proof.Claims.MeterTariffSetsThePendingTariff : Prop :=
  ∀ (n : Nat) (trip : Trip) (s : State), Up s →
    (s.fare.meter = .hired → s.fare.trip = some trip → 1 ≤ n → n ≤ s.fare.tariffs.length →
        Completes (.meterTariff n) s fun t =>
          if (if n = trip.tariff then none else some n) = trip.pendingTariff then NothingBut .ok .bare s t
          else
            AnsweredWithNotice .fareChanged .meter .ok .bare s t
              ∧ t.fare = { s.fare with
                  trip := some { trip with pendingTariff := if n = trip.tariff then none else some n } }
              ∧ OnlyTouches [.fare, .msg, .port] s t ∧ t.msg.queue = s.msg.queue)
      ∧ (s.fare.meter ≠ .hired → Completes (.meterTariff n) s fun t => NothingBut .state .bare s t)
      ∧ (s.fare.meter = .hired → n = 0 ∨ s.fare.tariffs.length < n →
          Completes (.meterTariff n) s fun t => NothingBut .range .bare s t)

/-- METER_STOP; the checkpoint it makes due joins the write queue behind a group being written, or stays owed. -/
def Sys2Proof.Claims.MeterStopFreezesTheFare : Prop :=
  ∀ (trip : Trip) (s : State), Up s →
    (s.fare.meter = .hired → s.fare.trip = some trip → s.store.activity ≠ .idle →
        Completes .meterStop s fun t =>
          AnsweredWithNotice .fareChanged .meter .ok .bare s t
            ∧ t.fare.meter = .stopped ∧ t.fare.opening = false
            ∧ t.fare.trip = some { trip with pendingTariff := none }
            ∧ (t.fare.checkpointOwed = true ↔
                ¬ StoreTakesGroups s ∨ (6 ≤ s.store.queue.length
                  ∧ ∀ g ∈ s.store.queue, ¬ (g.kind = .checkpoint trip.number ∧ g.writing = false)))
            ∧ (t.fare.checkpointOwed = false → ∃ g ∈ t.store.queue, g.kind = .checkpoint trip.number
                ∧ g.records = [.checkpoint (checkpointOf .stopped { trip with pendingTariff := none })])
            ∧ t.fare.q = s.fare.q ∧ t.fare.metres = s.fare.metres ∧ t.fare.progress = s.fare.progress
            ∧ t.store.sectors = s.store.sectors
            ∧ OnlyTouches [.fare, .store, .msg, .port] s t ∧ t.msg.queue = s.msg.queue)
      ∧ (s.fare.meter ≠ .hired → Completes .meterStop s fun t => NothingBut .state .bare s t)

def Sys2Proof.Claims.MeterExtraJoinsAndIsCharged : Prop :=
  ∀ (e : Extra) (trip : Trip) (s : State), Up s →
    (s.fare.meter ≠ .vacant → s.fare.trip = some trip → s.fare.catalogue.find? (fun a => a.code == e.code) = some e →
        (trip.extras.length < 8 → Completes (.meterExtra e.code) s fun t =>
          AnsweredWithNotice .fareChanged .meter .ok .bare s t
            ∧ t.fare = { s.fare with trip := some { trip with
                extras := trip.extras ++ [e]
                fare := if trip.flags.fareLimit then trip.fare else min 999999 (trip.fare + e.amount)
                flags := { trip.flags with
                  fareLimit := trip.flags.fareLimit || decide (999999 < trip.fare + e.amount) } } }
            ∧ OnlyTouches [.fare, .msg, .port] s t ∧ t.msg.queue = s.msg.queue)
        ∧ (8 ≤ trip.extras.length → Completes (.meterExtra e.code) s fun t => NothingBut .full .bare s t))
      ∧ (s.fare.meter = .vacant → Completes (.meterExtra e.code) s fun t => NothingBut .state .bare s t)
      ∧ (s.fare.meter ≠ .vacant → s.fare.trip = some trip → (∀ a ∈ s.fare.catalogue, a.code ≠ e.code) →
          Completes (.meterExtra e.code) s fun t => NothingBut .range .bare s t)

/-- METER_CLEAR with no linked job; the store is at work on an earlier group. -/
def Sys2Proof.Claims.MeterClearClosesTheTrip : Prop :=
  ∀ (trip : Trip) (s : State), Up s → s.fare.meter = .stopped → s.fare.trip = some trip →
    (StoreTakesGroups s → s.store.queue.length < 6 → s.store.activity ≠ .idle → s.trips.uploads.length < 32 →
        (∀ u ∈ s.trips.uploads, u.trip.number ≠ trip.number) → (∀ e ∈ s.offers.table, e.linkedTrip ≠ some trip.number) →
        Completes .meterClear s fun t =>
          Answered .ok .bare s t
            ∧ t.fare.meter = .vacant ∧ t.fare.trip = none ∧ t.fare.checkpointOwed = false
            ∧ t.fare.q = s.fare.q ∧ t.fare.metres = s.fare.metres
            ∧ t.offers = { s.offers with idleMinutes := 0 }
            ∧ t.trips.totals = s.trips.totals.addTrip trip
            ∧ t.trips.shift = { s.trips.shift with totals := s.trips.shift.totals.addTrip trip }
            ∧ t.trips.lastClosedNumber = trip.number ∧ t.trips.lastTrip = s.trips.lastTrip
            ∧ (∃ r : TripRecord, t.trips.lastClosed = some r ∧ t.trips.uploads = s.trips.uploads ++ [⟨r, false⟩]
                ∧ r.number = trip.number ∧ r.fare = trip.fare ∧ r.endTime = s.port.clock
                ∧ r.hiredDistance = trip.hiredDistance ∧ r.extras = trip.extras ∧ r.upload = .storing
                ∧ t.store = { s.store with queue := s.store.queue ++
                    [⟨.close trip.number true,
                      [.trip { r with upload := .unsent }, .totalizer t.trips.totals trip.number,
                       .shift { t.trips.shift with isOpen := true } s.trips.lastTrip], false⟩] })
            ∧ OnlyTouches [.offers, .fare, .trips, .store, .msg, .port] s t ∧ t.msg.queue = s.msg.queue)
      ∧ (StoreTakesGroups s → 6 ≤ s.store.queue.length →
          Completes .meterClear s fun t => NothingBut .storeBusy .bare s t)
      ∧ (¬ StoreTakesGroups s → Completes .meterClear s fun t => NothingBut .storeFault .bare s t)

/-- The trip is listed for upload, or it is not: the list is full or holds its number (R117). -/
def Sys2Proof.Claims.ListedAs (listed : Bool) (n : Nat) (s : State) : Prop :=
  if listed then s.trips.uploads.length < 32 ∧ ∀ u ∈ s.trips.uploads, u.trip.number ≠ n
  else 32 ≤ s.trips.uploads.length ∨ ∃ u ∈ s.trips.uploads, u.trip.number = n

/-- What a close leaves in the meter, the trip recorder and the write queue, with the trip listed or not (R92, R116, R117, R119). -/
def Sys2Proof.Claims.TripIsClosed (listed : Bool) (trip : Trip) (s t : State) : Prop :=
  t.fare.meter = .vacant ∧ t.fare.trip = none ∧ t.trips.totals = s.trips.totals.addTrip trip
    ∧ t.trips.shift = { s.trips.shift with totals := s.trips.shift.totals.addTrip trip }
    ∧ t.trips.lastClosedNumber = trip.number ∧ t.trips.lastTrip = s.trips.lastTrip
    ∧ ∃ r : TripRecord, t.trips.lastClosed = some r ∧ r.number = trip.number ∧ r.fare = trip.fare
        ∧ r.endTime = s.port.clock ∧ r.upload = (if listed then .storing else .notListed)
        ∧ t.trips.uploads = s.trips.uploads ++ (if listed then [⟨r, false⟩] else [])
        ∧ t.store = { s.store with queue := s.store.queue ++
            [⟨.close trip.number listed,
              [.trip { r with upload := if listed then .unsent else .notListed },
               .totalizer t.trips.totals trip.number, .shift { t.trips.shift with isOpen := true } s.trips.lastTrip],
              false⟩] }

/-- The trip recorder's notices of a close (R117). -/
def Sys2Proof.Claims.closeSaid (listed : Bool) (n : Nat) (s : State) : State :=
  let u := raise .tripClosed (.trip n) s
  if listed then u else raise .uploadChanged (.trip n) u

/-- METER_CLEAR of a trip that is listed or not, with no linked job, with one in a job-held state, which becomes DONE, and with one
that was WITHDRAWN or LOST, which stays (R78, R92, R117); the store is at work on an earlier group. The order of the notices is the
model's choice (log 37). -/
def Sys2Proof.Claims.MeterClearTreatsTheLinkedJob : Prop :=
  ∀ (listed : Bool) (trip : Trip) (s : State), Up s → s.fare.meter = .stopped → s.fare.trip = some trip →
    StoreTakesGroups s → s.store.queue.length < 6 → s.store.activity ≠ .idle → ListedAs listed trip.number s →
    ((∀ e ∈ s.offers.table, e.linkedTrip = some trip.number → e.state = .withdrawn ∨ e.state = .lost) →
        Completes .meterClear s fun t =>
          TripIsClosed listed trip s t ∧ t.offers = { s.offers with idleMinutes := 0 }
            ∧ JustAnswered .ok .bare (raise .fareChanged .meter (closeSaid listed trip.number s)) t
            ∧ OnlyTouches [.offers, .fare, .trips, .store, .msg, .port] s t ∧ t.msg.queue = s.msg.queue)
      ∧ ∀ o : OfferEntry, Listed o s → o.linkedTrip = some trip.number →
          (∀ e ∈ s.offers.table, e.linkedTrip = some trip.number → e = o) →
          o.state = .accepting ∨ o.state = .held ∨ o.state = .heldUnconfirmed → s.offers.heldJob = some o.id →
          Completes .meterClear s fun t =>
          TripIsClosed listed trip s t
            ∧ t.offers = { s.offers with
                table := s.offers.table.map fun a =>
                  if a.id = o.id then { o with state := .done, awardTimer := none, acceptTimer := none } else a
                heldJob := none, idleMinutes := 0 }
            ∧ JustAnswered .ok .bare
                (raise .fareChanged .meter (raise .offerChanged (.offer o.id) (closeSaid listed trip.number s))) t
            ∧ OnlyTouches [.offers, .fare, .trips, .store, .msg, .port] s t ∧ t.msg.queue = s.msg.queue

def Sys2Proof.Claims.MeterClearNeedsAStoppedMeter : Prop :=
  ∀ s : State, Up s → s.fare.meter ≠ .stopped → Completes .meterClear s fun t => NothingBut .state .bare s t

/-- SHIFT_OPEN opens the shift as its group joins the write queue (R113). -/
def Obligations.ShiftOpenFollowsItsGroup : Prop :=
  ∀ s : State, Up s →
    (s.trips.shift.isOpen = true → Completes .shiftOpen s fun t => NothingBut .state .bare s t)
      ∧ (s.trips.shift.isOpen = false → ¬ StoreTakesGroups s →
          Completes .shiftOpen s fun t => NothingBut .storeFault .bare s t)
      ∧ (s.trips.shift.isOpen = false → StoreTakesGroups s → 6 ≤ s.store.queue.length →
          Completes .shiftOpen s fun t => NothingBut .storeBusy .bare s t)
      ∧ (s.trips.shift.isOpen = false → StoreTakesGroups s → s.store.queue.length < 6 →
          Completes .shiftOpen s fun t =>
            let number := if s.trips.shift.number < 65535 then s.trips.shift.number + 1 else 1
            let sh : Shift := ⟨number, true, some s.port.clock, none, .zero⟩
            Answered .ok (.number number) s t ∧ t.trips = { s.trips with shift := sh }
              ∧ OnlyTouches [.trips, .store, .port] s t
              ∧ (∃ g : Group, t.store.queue.getLast? = some g ∧ g.kind = .shiftOpen
                ∧ g.records = [.shift sh s.trips.lastTrip])
              ∧ (s.store.activity ≠ .idle → t.store = { s.store with queue :=
                  s.store.queue ++ [⟨.shiftOpen, [.shift sh s.trips.lastTrip], false⟩] }))

/-- SHIFT_CLOSE closes the shift as its group joins the write queue, and answers with its totals (R114). -/
def Obligations.ShiftCloseFollowsItsGroup : Prop :=
  ∀ s : State, Up s →
    (s.trips.shift.isOpen = false → Completes .shiftClose s fun t => NothingBut .noShift .bare s t)
      ∧ (s.trips.shift.isOpen = true → s.fare.meter ≠ .vacant ∨ s.offers.heldJob ≠ none →
          Completes .shiftClose s fun t => NothingBut .state .bare s t)
      ∧ (s.trips.shift.isOpen = true → s.fare.meter = .vacant → s.offers.heldJob = none →
          (¬ StoreTakesGroups s → Completes .shiftClose s fun t => NothingBut .storeFault .bare s t)
          ∧ (StoreTakesGroups s → 6 ≤ s.store.queue.length →
              Completes .shiftClose s fun t => NothingBut .storeBusy .bare s t)
          ∧ (StoreTakesGroups s → s.store.queue.length < 6 → Completes .shiftClose s fun t =>
              let sh : Shift := { s.trips.shift with isOpen := false, closeTime := some s.port.clock }
              Answered .ok (.totals s.trips.shift.totals) s t
                ∧ t.trips = { s.trips with shift := { sh with totals := .zero } }
                ∧ OnlyTouches [.trips, .store, .port] s t
                ∧ (∃ g : Group, t.store.queue.getLast? = some g ∧ g.kind = .shiftClose ∧ g.records =
                    [.shift sh s.trips.lastTrip, .totalizer s.trips.totals s.trips.lastClosedNumber])
                ∧ (s.store.activity ≠ .idle → t.store = { s.store with queue :=
                    s.store.queue ++
                      [⟨.shiftClose, [.shift sh s.trips.lastTrip, .totalizer s.trips.totals s.trips.lastClosedNumber],
                        false⟩] })))

/-! ## Requests: messages, display, alarm (R153, R154, R159 to R163, R169, R175) -/

/-- A message under its own pair, with no other of that pair. -/
abbrev Sys2Proof.Claims.Queued (m : Message) (s : State) : Prop :=
  m ∈ s.msg.queue ∧ ∀ a ∈ s.msg.queue, a.pair = m.pair → a = m

/-- MSG_READ of a TEXT in NEW or SHOWN needs no receipt; of another kind it queues a RECEIPT of kind READ; of an entry already
read it answers with the receipt field; of an expired one it is refused. -/
def Sys2Proof.Claims.MsgReadMarksTheMessage : Prop :=
  ∀ (m : Message) (s : State), Up s → Queued m s → (∀ k : ReceiptKind, m.receipt ≠ some (.owed k)) →
    (m.state = .new ∨ m.state = .shown → m.kind = .text → Completes (.msgRead m.pair) s fun t =>
        JustAnswered .ok (.receipt m.receipt) s t ∧ OnlyTouches [.msg, .port] s t
          ∧ (∃ a ∈ t.msg.queue, a = { m with state := .read }) ∧ t.msg.queue.length = s.msg.queue.length
          ∧ t.msg.recent = s.msg.recent ∧ t.msg.shown = s.msg.shown)
      ∧ (m.state = .new ∨ m.state = .shown → m.kind ≠ .text → ReplyJoinsQuietly s →
          Completes (.msgRead m.pair) s fun t =>
            JustAnswered .ok (.receipt (some (.queued s.nextUid))) s t ∧ OnlyTouches [.tx, .msg, .port] s t
              ∧ (∃ a ∈ t.msg.queue, a = { m with state := .read, receipt := some (.queued s.nextUid) })
              ∧ t.msg.queue.length = s.msg.queue.length
              ∧ ∃ e : PendEntry, t.tx = { s.tx with queue := s.tx.queue ++ [e] } ∧ e.uid = s.nextUid ∧ e.cls = .reply
                ∧ (∃ i : Nat, e.payload = .receipt m.pair.number .read i) ∧ e.dest = m.pair.source
                ∧ e.fleet = m.fleet)
      ∧ (m.state = .read ∨ m.state = .replied →
          Completes (.msgRead m.pair) s fun t => NothingBut .ok (.receipt m.receipt) s t)
      ∧ (m.state = .expired → Completes (.msgRead m.pair) s fun t => NothingBut .state .bare s t)

/-- MSG_REPLY to a QUERY: REPLIED, with a RECEIPT of kind REPLY and the index offered as a unicast to the message's source. -/
def Sys2Proof.Claims.MsgReplyQueuesAReceipt : Prop :=
  ∀ (m : Message) (n : Nat) (s : State), Up s → Queued m s → (∀ k : ReceiptKind, m.receipt ≠ some (.owed k)) →
    (m.kind = .query → m.state ≠ .replied → m.state ≠ .expired → n < m.replies.length → ReplyJoinsQuietly s →
        Completes (.msgReply m.pair n) s fun t =>
          JustAnswered .ok (.receipt (some (.queued s.nextUid))) s t ∧ OnlyTouches [.tx, .msg, .port] s t
            ∧ (∃ a ∈ t.msg.queue,
                a = { m with state := .replied, replyChosen := some n, receipt := some (.queued s.nextUid) })
            ∧ ∃ e : PendEntry, t.tx = { s.tx with queue := s.tx.queue ++ [e] } ∧ e.uid = s.nextUid ∧ e.cls = .reply
              ∧ e.payload = .receipt m.pair.number .reply n ∧ e.dest = m.pair.source ∧ e.fleet = m.fleet)
      ∧ (m.kind ≠ .query ∨ m.state = .replied ∨ m.state = .expired →
          Completes (.msgReply m.pair n) s fun t => NothingBut .state .bare s t)
      ∧ (m.kind = .query → m.state ≠ .replied → m.state ≠ .expired → m.replies.length ≤ n →
          Completes (.msgReply m.pair n) s fun t => NothingBut .range .bare s t)

def Sys2Proof.Claims.DisplaySelectShowsThePage : Prop :=
  ∀ (n : Nat) (s : State), Up s →
    (n ≤ 7 → Completes (.displaySelect n) s fun t =>
        JustAnswered .ok .bare s t ∧ t.msg.shown = n ∧ t.msg.cursor = s.msg.cursor
          ∧ t.msg.editMode = s.msg.editMode ∧ t.msg.recent = s.msg.recent
          ∧ (n = 0 ∨ n = 1 ∨ n = 6 ∨ n = 7 → t.msg.queue = s.msg.queue ∧ t.msg.bus = .page (s.msg.pages.getD n []))
          ∧ OnlyTouches [.msg, .port] s t)
      ∧ (7 < n → Completes (.displaySelect n) s fun t => NothingBut .range .bare s t)

/-- The character at a position of the display memory. -/
def Sys2Proof.Claims.charOf (p l c : Nat) (s : State) : Option Byte :=
  (s.msg.pages[p]?.bind (·[l]?)).bind (·.chars[c]?)

/-- The display memory has its eight pages of four lines of twenty characters (R157). -/
abbrev Sys2Proof.Claims.DisplayShape (s : State) : Prop :=
  s.msg.pages.length = 8 ∧ ∀ page ∈ s.msg.pages, page.length = 4 ∧ ∀ l ∈ page, l.chars.length = 20

/-- The attribute of a line of the display memory. -/
def Sys2Proof.Claims.attrOf (p l : Nat) (s : State) : Option LineAttr :=
  (s.msg.pages[p]?.bind (·[l]?)).map (·.attr)

/-- Where the cursor goes from a position: column, then line, then the page's start (R161). -/
def Sys2Proof.Claims.placeAfter (c : Cursor) : Cursor :=
  if c.col < 19 then ⟨c.page, c.line, c.col + 1⟩
  else if c.line < 3 then ⟨c.page, c.line + 1, 0⟩ else ⟨c.page, 0, 0⟩

/-- The place `n` characters further on. -/
def Sys2Proof.Claims.placesOn : Nat → Cursor → Cursor
  | 0, c => c
  | n + 1, c => placesOn n (placeAfter c)

/-- A display request names `c`: as its position outside edit mode, or by leaving the cursor where it is. -/
abbrev Sys2Proof.Claims.NamesPlace (pos : Option Cursor) (c : Cursor) (s : State) : Prop :=
  (c.page = 6 ∨ c.page = 7) ∧ c.line ≤ 3 ∧ c.col ≤ 19
    ∧ ((pos = some c ∧ s.msg.editMode = false) ∨ (pos = none ∧ s.msg.cursor = c))

/-- A line attribute of DISPLAY_WRITE: absent, or 1 to 3 (R161, R200). -/
def Sys2Proof.Claims.AttrInRange (attr : Option Nat) : Prop := ∀ n : Nat, attr = some n → 1 ≤ n ∧ n ≤ 3

/-- DISPLAY_WRITE of one character, with or without a position and a line attribute. -/
def Sys2Proof.Claims.DisplayWritePutsTheCharacter : Prop :=
  ∀ (pos : Option Cursor) (c : Cursor) (b : Byte) (attr : Option Nat) (s : State), Up s → DisplayShape s →
    NamesPlace pos c s → 32 ≤ b.toNat → AttrInRange attr → Completes (.displayWrite pos [b] attr 0) s fun t =>
      JustAnswered .ok (.cursor (placeAfter c)) s t ∧ t.msg.cursor = placeAfter c
        ∧ charOf c.page c.line c.col t = some b
        ∧ (∀ p l k : Nat, ¬ (p = c.page ∧ l = c.line ∧ k = c.col) → charOf p l k t = charOf p l k s)
        ∧ attrOf c.page c.line t =
            (match attr with
              | some 1 => some .normal | some 2 => some .inverse | some 3 => some .blink
              | _ => attrOf c.page c.line s)
        ∧ (∀ p l : Nat, ¬ (p = c.page ∧ l = c.line) → attrOf p l t = attrOf p l s)
        ∧ t.msg.queue = s.msg.queue ∧ t.msg.shown = s.msg.shown ∧ t.msg.editMode = s.msg.editMode
        ∧ OnlyTouches [.msg, .port] s t

/-- A longer text is its first character and then the rest, where the cursor has gone. -/
def Sys2Proof.Claims.DisplayWriteGoesOn : Prop :=
  ∀ (pos : Option Cursor) (c : Cursor) (b : Byte) (text : List Byte) (attr : Option Nat) (s : State), Up s →
    NamesPlace pos c s → 32 ≤ b.toNat → 1 ≤ text.length → text.length ≤ 79 → (∀ a ∈ text, 32 ≤ a.toNat) →
    AttrInRange attr → Completes (.displayWrite pos (b :: text) attr 0) s fun t =>
      ∃ u v : State, exec (.displayWrite pos [b] attr 0) s = .next u
        ∧ exec (.displayWrite none text attr 0) u = .next v ∧ t.msg = v.msg
        ∧ JustAnswered .ok (.cursor v.msg.cursor) s t ∧ OnlyTouches [.msg, .port] s t

/-- DISPLAY_WRITE and DISPLAY_READ turned away. -/
def Sys2Proof.Claims.DisplayRequestsAreRefused : Prop :=
  ∀ s : State, Up s →
    (∀ (c : Cursor) (b : Byte) (n : Nat), c.page ≤ 7 → c.line ≤ 3 → c.col ≤ 19 →
        s.msg.editMode = true ∨ c.page ≤ 5 → 32 ≤ b.toNat → 1 ≤ n → n ≤ 80 →
        Completes (.displayWrite (some c) [b] none 0) s (fun t => NothingBut .state .bare s t)
          ∧ Completes (.displayRead (some c) n 0) s fun t => NothingBut .state .bare s t)
      ∧ (∀ text : List Byte, text = [] ∨ 80 < text.length ∨ (∃ a ∈ text, a.toNat < 32) →
          Completes (.displayWrite none text none 0) s fun t => NothingBut .range .bare s t)
      ∧ ∀ n : Nat, n = 0 ∨ 80 < n → Completes (.displayRead none n 0) s fun t => NothingBut .range .bare s t

/-- DISPLAY_READ: the characters from the place named onward, the attribute of each line they come from once, and the cursor,
which goes past them outside edit mode and stays in it. That a line stands once, in the order first met, is the model's choice
(log 77). -/
def Sys2Proof.Claims.DisplayReadReturnsTheCharacters : Prop :=
  ∀ (pos : Option Cursor) (c : Cursor) (n : Nat) (s : State), Up s → DisplayShape s → NamesPlace pos c s → 1 ≤ n → n ≤ 80 →
    Completes (.displayRead pos n 0) s fun t =>
      ∃ (text : List Byte) (attrs : List LineAttr) (d : Cursor), JustAnswered .ok (.chars text attrs d) s t
        ∧ d = (if s.msg.editMode = true then c else placesOn n c) ∧ t.msg.cursor = d
        ∧ text.map some = (List.range n).map (fun k =>
            charOf (placesOn k c).page (placesOn k c).line (placesOn k c).col s)
        ∧ attrs.map some =
            ((List.range n).map (fun k => (placesOn k c).line)).eraseDups.map (fun l => attrOf c.page l s)
        ∧ t.msg.pages = s.msg.pages ∧ t.msg.queue = s.msg.queue ∧ t.msg.shown = s.msg.shown
        ∧ OnlyTouches [.msg, .port] s t

def Sys2Proof.Claims.EditModeKeepsItsPlace : Prop :=
  ∀ s : State, Up s →
    (s.msg.editMode = false →
        Completes .displayEditBegin s (fun t =>
          JustAnswered .ok .bare s t
            ∧ t.msg = { s.msg with editMode := true, editMark := some s.msg.cursor, bus := t.msg.bus }
            ∧ OnlyTouches [.msg, .port] s t)
          ∧ Completes .displayEditEnd s fun t => NothingBut .state .bare s t)
      ∧ (s.msg.editMode = true →
        Completes .displayEditBegin s (fun t => NothingBut .state .bare s t)
          ∧ ∀ c : Cursor, s.msg.editMark = some c → Completes .displayEditEnd s fun t =>
            JustAnswered .ok .bare s t ∧ t.msg = { s.msg with editMode := false, cursor := c, bus := t.msg.bus }
              ∧ OnlyTouches [.msg, .port] s t)

/-- RAISE_ALARM in a quiet part with nothing in the pending queue, no offer and no trip, the store taking the group: OPEN, or HELD
in SILENT and RECOVERING (R170). -/
def Sys2Proof.Claims.RaiseAlarmOpensTheCall : Prop :=
  ∀ s : State, Up s →
    (s.emerg.alarm = .quiet → s.tx.queue = [] → s.offers.table = [] → s.fare.trip = none → s.emerg.ownEntry = none →
        StoreTakesGroups s → s.store.queue.length < 6 →
        Completes .raiseAlarm s fun t =>
          let n := if s.emerg.lastNumber < 255 then s.emerg.lastNumber + 1 else 0
          Answered .ok (.alarmNumber n) s t ∧ t.emerg.alarm = startsAs s.link.state ∧ LinkAtRaise s t
            ∧ t.emerg.number = some n ∧ t.emerg.lastNumber = n ∧ t.emerg.source = some .host ∧ t.emerg.ackHeard = false
            ∧ t.emerg.clearedSent = 0 ∧ t.emerg.repeatTimer = timerAtStart s ∧ t.emerg.openRecord = .queued
            ∧ t.emerg.nextRepeat = 1
            ∧ t.tx.queue.map (fun e => (e.cls, e.payload, e.dest, e.fleet, e.hop)) =
                [(.emergencyOrigin, .emergency ⟨s.link.station.getD 0, n⟩ 0 .open s.cell, 0xFFFF, 0, 3)]
            ∧ (s.store.activity ≠ .idle → t.store.queue = s.store.queue ++
                [⟨.alarmOpen, [.alarmOpen ⟨s.link.station.getD 0, n, .host, s.port.clock, s.cell⟩], false⟩])
            ∧ OnlyTouches [.link, .tx, .store, .emerg, .port] s t)
      ∧ (s.emerg.alarm ≠ .quiet → Completes .raiseAlarm s fun t => NothingBut .state .bare s t)

/-- CLEAR_ALARM with the own OPEN entry out of the queue: an ALARM_OPEN record that is only owed or absent needs no record of
the clear, one queued or written has an ALARM_CLEAR group join. -/
def Sys2Proof.Claims.ClearAlarmSendsCleared : Prop :=
  ∀ s : State, Up s →
    (s.emerg.alarm = .open ∨ s.emerg.alarm = .acknowledged ∨ s.emerg.alarm = .held →
        (s.emerg.openRecord = .owed ∨ s.emerg.openRecord = .none) → s.emerg.ownEntry = none → s.tx.queue = [] →
        Completes .clearAlarm s fun t =>
          Answered .ok .bare s t ∧ t.emerg.alarm = .clearing ∧ t.emerg.openRecord = .none
            ∧ t.emerg.repeatTimer = none ∧ t.emerg.clearedSent = 0 ∧ t.emerg.number = s.emerg.number
            ∧ t.tx.queue.map (fun e => (e.cls, e.payload, e.dest)) =
                [(.emergencyOrigin,
                  .emergency ⟨s.link.station.getD 0, s.emerg.number.getD 0⟩ s.emerg.nextRepeat .cleared s.cell, 0xFFFF)]
            ∧ t.store = s.store ∧ OnlyTouches [.link, .tx, .emerg, .port] s t)
      ∧ (s.emerg.alarm = .open ∨ s.emerg.alarm = .acknowledged ∨ s.emerg.alarm = .held →
          s.emerg.openRecord = .queued ∨ s.emerg.openRecord = .written → s.emerg.ownEntry = none → s.tx.queue = [] →
          StoreTakesGroups s → s.store.queue.length < 6 → s.store.activity ≠ .idle →
          Completes .clearAlarm s fun t =>
            Answered .ok .bare s t ∧ t.emerg.alarm = .clearing ∧ t.emerg.repeatTimer = none
              ∧ t.store = { s.store with queue :=
                  s.store.queue ++ [⟨.alarmClear, [.alarmClear (s.emerg.number.getD 0)], false⟩] }
              ∧ OnlyTouches [.link, .tx, .store, .emerg, .port] s t)
      ∧ (s.emerg.alarm = .open ∨ s.emerg.alarm = .acknowledged ∨ s.emerg.alarm = .held →
          s.emerg.openRecord = .queued ∨ s.emerg.openRecord = .written → StoreTakesGroups s →
          6 ≤ s.store.queue.length → Completes .clearAlarm s fun t => NothingBut .storeBusy .bare s t)
      ∧ (s.emerg.alarm = .quiet ∨ s.emerg.alarm = .clearing →
          Completes .clearAlarm s fun t => NothingBut .state .bare s t)

/-- CLEAR_ALARM with the own OPEN entry in the queue and a record that is only owed or absent: an entry not keyed leaves and the
first CLEARED one joins; one on the air completes, asked back, and the CLEARED one waits for its result (R50, R51, R175; its result
is stated with OwnCallSentMovesTheAlarm). -/
def Sys2Proof.Claims.ClearAlarmTakesTheCallBack : Prop :=
  ∀ (o : OwnEntry) (n : Nat) (b : PendEntry) (s : State), Up s →
    s.emerg.alarm = .open ∨ s.emerg.alarm = .acknowledged ∨ s.emerg.alarm = .held →
    s.emerg.openRecord = .owed ∨ s.emerg.openRecord = .none → s.emerg.ownEntry = some o → o.phase = .open →
    s.emerg.number = some n → findEntry o.uid s = some b → b.owner = .emergencyController → b.ref = .alarm n →
    (b.state = .waiting ∨ b.state = .deferring → s.tx.queue.length ≤ 20 → Completes .clearAlarm s fun t =>
        Answered .ok .bare s t ∧ t.emerg.alarm = .clearing ∧ t.emerg.number = some n ∧ t.emerg.openRecord = .none
          ∧ t.emerg.repeatTimer = none ∧ t.emerg.clearedSent = 0 ∧ t.emerg.ownEntry = some ⟨.cleared, s.nextUid⟩
          ∧ t.emerg.nextRepeat = min 65535 (s.emerg.nextRepeat + 1)
          ∧ t.tx.queue.map (fun a => (a.uid, a.cls, a.payload)) =
              (s.tx.queue.filter fun a => a.uid != o.uid).map (fun a => (a.uid, a.cls, a.payload))
                ++ [(s.nextUid, .emergencyOrigin,
                    .emergency ⟨s.link.station.getD 0, n⟩ s.emerg.nextRepeat .cleared s.cell)]
          ∧ OnlyTouches [.link, .tx, .emerg, .port] s t)
      ∧ (b.state = .onAir → Completes .clearAlarm s fun t =>
        Answered .ok .bare s t ∧ t.emerg.alarm = .clearing ∧ t.emerg.number = some n ∧ t.emerg.openRecord = .none
          ∧ t.emerg.repeatTimer = none ∧ t.emerg.clearedSent = 0 ∧ t.emerg.ownEntry = some o
          ∧ t.emerg.nextRepeat = s.emerg.nextRepeat
          ∧ t.tx = { s.tx with queue := s.tx.queue.map fun a =>
              if a.uid = o.uid then { a with state := .retractPending } else a }
          ∧ OnlyTouches [.tx, .emerg, .port] s t)

/-! ## The channel: slots, carrier, quiet (R1, R3, R7, R9, R10, R17, R20, R22) -/

/-- Neither carrier, own or other, nor a gap is on the channel (R3). -/
abbrev Sys2Proof.Claims.NoneOnAir (s : State) : Prop := s.link.carrier = false ∧ s.link.keyed = false ∧ s.link.gap = none

/-- The channel is free at its slots: the clock runs, the listen-in is over, none is on the air. -/
abbrev Sys2Proof.Claims.FreeSlots (s : State) : Prop :=
  s.link.slotClock = true ∧ s.link.listenIn = none ∧ NoneOnAir s

/-- The link state is the one the counts name, or SILENT or RECOVERING, which the counts do not end (R18). -/
abbrev Sys2Proof.Claims.Steady (sfc hfc : Nat) (l : LinkState) : Prop :=
  l = .silent ∨ l = .recovering ∨ l = namedLink sfc hfc

/-- A count has moved the link to another state that is not SILENT, the link otherwise as `k`: LINK_STATE is raised (R18), and in
PASSIVE the relays that wait leave, which gives a relay entry its highest relayed back (R47, R182). -/
def Sys2Proof.Claims.LinkMovesTo (l : LinkState) (k : Link) (s t : State) : Prop :=
  t.link = { k with state := l } ∧ t.port = (raise .linkState .link s).port
    ∧ (l ≠ .passive → OnlyTouches [.link, .port] s t)
    ∧ (l = .passive → (s.tx.queue.map (·.uid)).Nodup →
        t.tx = { s.tx with
            queue := s.tx.queue.filter fun e => !(e.cls == .emergencyRelay && e.state == .waiting) }
          ∧ (∀ (r : RelayEntry) (p : RelayPending) (e : PendEntry), s.emerg.relays = [r] → r.agedOut = false →
              r.pending = some p → r.ackRelay = .no ∨ r.ackRelay = .done → e ∈ s.tx.queue → e.uid = p.uid →
              e.cls = .emergencyRelay → e.state = .waiting → e.ref = .relay r.id →
              t.emerg.relays = [{ r with pending := none, highest := p.before }])
          ∧ OnlyTouches [.link, .tx, .emerg, .port] s t)

/-- New counts name another link state, which is not SILENT (R18); no entry is held for its wait, and a relay is the emergency
controller's. -/
abbrev Sys2Proof.Claims.Moves (sfc hfc : Nat) (l : LinkState) (s : State) : Prop :=
  s.link.state ≠ .silent ∧ s.link.state ≠ .recovering ∧ l = namedLink sfc hfc ∧ l ≠ s.link.state ∧ l ≠ .silent
    ∧ ∀ e ∈ s.tx.queue, e.state ≠ .deferring
      ∧ (e.cls = .emergencyRelay → e.owner = .emergencyController ∧ ∃ id : AlarmId, e.ref = .relay id)

/-! ### What the scheduler presents (R8 to R10, R41, R44, R45) -/

/-- The place of a class in the order of the classes, 0 the highest (R44). -/
def Sys2Proof.Claims.classPlace (c : TxClass) : Nat :=
  [TxClass.emergencyOrigin, .emergencyRelay, .bid, .reply, .normal, .beacon].idxOf c

/-- An entry that may be chosen: it waits, and a BID is past its slot and before the end of its window (R44, R45). -/
abbrev Sys2Proof.Claims.MayBeChosen (e : PendEntry) : Prop :=
  e.state = .waiting ∧ (e.cls = .bid → e.eligible = true ∧ e.windowEnded = false)

/-- The entry that a queue presents: of the highest class, and of that class the one that joined first (R44). -/
def Sys2Proof.Claims.ChosenIn (q : List PendEntry) (e : PendEntry) : Prop :=
  ∃ before after : List PendEntry, q = before ++ e :: after ∧ MayBeChosen e
    ∧ (∀ a ∈ before, MayBeChosen a → classPlace e.cls < classPlace a.cls)
    ∧ ∀ a ∈ after, MayBeChosen a → classPlace e.cls ≤ classPlace a.cls

/-- The fewest and the most slots a class waits for at its first attempt (R9, R10). -/
def Sys2Proof.Claims.waitRange : TxClass → Nat × Nat
  | .emergencyOrigin => (0, 1) | .emergencyRelay => (2, 7) | .bid => (1, 1) | .reply => (2, 9) | .normal => (4, 19)
  | .beacon => (4, 35)

/-- A count that R9 and R10 let an entry wait for: 8 more in PASSIVE for any class but BID, 4 more for each attempt made. -/
def Sys2Proof.Claims.WaitInRange (e : PendEntry) (l : LinkState) (n : Nat) : Prop :=
  let more := (if l = .passive ∧ e.cls ≠ .bid then 8 else 0) + 4 * e.attempts
  (waitRange e.cls).1 + more ≤ n ∧ n ≤ (waitRange e.cls).2 + more

/-- The link controller has taken `e` out of the queue `q`, its link otherwise as `l`; `started` says that its slots are
counted from this boundary (R8). -/
def Sys2Proof.Claims.Presented (started : Bool) (e : PendEntry) (q : List PendEntry) (l : Link) (t : State) : Prop :=
  (∃ n : Nat, WaitInRange e l.state n ∧ t.link = { l with side := .deferring, deferral := some ⟨n, started⟩ })
    ∧ t.tx.queue = q.map fun a => if a.uid = e.uid then { a with state := .deferring } else a

/-- The link controller takes what is presented: the clock runs and the link is neither SILENT nor RECOVERING (R8, R22). -/
abbrev Sys2Proof.Claims.Takes (s : State) : Prop :=
  s.link.slotClock = true ∧ s.link.state ≠ .silent ∧ s.link.state ≠ .recovering

/-- The queue with the entry in DEFERRING handed back (R8, R46). -/
def Sys2Proof.Claims.handedBack (q : List PendEntry) : List PendEntry :=
  q.map fun a => if a.state = .deferring then { a with state := .waiting } else a

/-- A gap of another station's carrier, or after an own LACK. -/
abbrev Sys2Proof.Claims.OthersGap (s : State) : Prop :=
  s.link.gap = some .ack ∨ s.link.gap = some .idle ∨ s.link.gap = some .unread

/-- GAP_CLOSES and LISTEN_IN_COMPLETES with entries waiting: the chosen one is presented. -/
def Sys2Proof.Claims.WaitingEntryIsPresented : Prop :=
  ∀ (e : PendEntry) (s : State), Up s → Takes s → s.link.carrier = false → s.link.deferral = none →
    ChosenIn s.tx.queue e →
    (s.link.listenIn = none → OthersGap s → s.link.side = .idle → s.link.keyed = false → Completes .gapCloses s fun t =>
        Presented true e s.tx.queue { s.link with gap := none } t ∧ OnlyTouches [.link, .tx] s t)
      ∧ (s.link.listenIn = none → OthersGap s → s.link.side = .lacking → Completes .gapCloses s fun t =>
        Presented true e s.tx.queue
          { s.link with
            gap := none, keyed := false, txFrame := [], txSlots := 0, keyFault := false, lackHeard := false,
            decisionWaits := false } t
          ∧ OnlyTouches [.link, .tx] s t)
      ∧ ∀ n : Nat, s.link.listenIn = some n → 2 ≤ n → s.link.gap = none → s.link.side = .idle → s.link.keyed = false →
        Completes .listenInCompletes s fun t =>
          Presented true e s.tx.queue { s.link with listenIn := none } t ∧ OnlyTouches [.link, .tx] s t

/-- The recovery with entries waiting and no alarm HELD: the chosen one is presented in ACTIVE. -/
def Sys2Proof.Claims.RecoveryPresentsAWaitingEntry : Prop :=
  ∀ (e : PendEntry) (s : State), s.link.state = .recovering → FreeSlots s → s.link.partialSpan = 5 →
    s.link.quietSpans = 79 → s.link.side = .idle → s.link.deferral = none → s.emerg.alarm ≠ .held →
    ChosenIn s.tx.queue e → Completes .quietSpanCompletes s fun t =>
      Presented true e s.tx.queue
        { s.link with state := .active, sfc := 0, hfc := 0, quietSpans := 0, partialSpan := 0 } t
        ∧ t.port = (raise .linkState .link s).port ∧ OnlyTouches [.link, .tx, .port] s t

/-- A count of slots starts at the first boundary of a free channel and then falls at each boundary at which it is free (R1,
R9, R10). -/
def Obligations.DeferralIsCountedAtFreeSlots : Prop :=
  ∀ (d : Deferral) (s : State), s.link.slotClock = true → s.link.listenIn = none → s.link.state ≠ .recovering →
    s.link.deferral = some d →
    (NoneOnAir s → Completes .slotBoundary s fun t =>
        t.link = { s.link with
            deferral := some (if d.started then ⟨d.slots - 1, true⟩ else ⟨d.slots, true⟩) }
          ∧ OnlyTouches [.link] s t)
      ∧ (¬ NoneOnAir s → Completes .slotBoundary s fun t => OnlyTouches [] s t)

/-- RECOVERING: quiet slots, quiet spans, and the recovery that 80 of them complete (R20, R173). -/
def Sys2Proof.Claims.QuietSpansRecoverTheLink : Prop :=
  ∀ s : State, s.link.slotClock = true → s.link.listenIn = none → s.link.state = .recovering →
    s.link.deferral = none →
    (s.link.carrier = false → s.link.keyed = false → s.link.partialSpan < 5 → Completes .slotBoundary s fun t =>
        t.link = { s.link with partialSpan := s.link.partialSpan + 1 } ∧ OnlyTouches [.link] s t)
      ∧ (s.link.carrier = true ∨ s.link.keyed = true → Completes .slotBoundary s fun t => OnlyTouches [] s t)
      ∧ (s.link.carrier = false → s.link.keyed = false → s.link.partialSpan = 5 → s.link.quietSpans < 79 →
          Completes .quietSpanCompletes s fun t =>
            t.link = { s.link with partialSpan := 0, quietSpans := s.link.quietSpans + 1 } ∧ OnlyTouches [.link] s t)
      ∧ (s.link.carrier = false → s.link.keyed = false → s.link.partialSpan = 5 → s.link.quietSpans = 79 →
          Completes .quietSpanCompletes s fun t =>
            t.link.state = .active ∧ t.link.sfc = 0 ∧ t.link.hfc = 0 ∧ t.link.quietSpans = 0
              ∧ t.link.partialSpan = 0 ∧ t.link.lastFault = s.link.lastFault
              ∧ (s.emerg.alarm = .held → t.emerg.alarm = .open ∧ t.emerg.repeatTimer = some 2)
              ∧ (s.emerg.alarm ≠ .held → t.emerg.alarm = s.emerg.alarm ∧ t.emerg.repeatTimer = s.emerg.repeatTimer)
              ∧ OnlyTouches [.link, .tx, .emerg, .port] s t)

/-- The listen-in: 3 slots without carrier (R22). -/
def Sys2Proof.Claims.ListenInCountsQuietSlots : Prop :=
  ∀ (n : Nat) (s : State), s.link.slotClock = true → s.link.listenIn = some n → s.link.deferral = none →
    s.link.keyed = false →
    (s.link.carrier = false → Completes .slotBoundary s fun t =>
        t.link = { s.link with listenIn := some (min 3 (n + 1)) } ∧ OnlyTouches [.link] s t)
      ∧ (s.link.carrier = true → Completes .slotBoundary s fun t => OnlyTouches [] s t)
      ∧ (s.link.carrier = false → 2 ≤ n → s.tx.queue = [] → Completes .listenInCompletes s fun t =>
        t.link = { s.link with listenIn := none } ∧ OnlyTouches [.link] s t)
      ∧ (s.link.carrier = true → Completes .listenInCompletes s fun t => OnlyTouches [] s t)

/-- RECOVERING counts quiet slots into 80 quiet spans and is then left for ACTIVE (R20, R173); the listen-in ends after 3 slots
without carrier (R22). A waiting entry is then presented (R8, R9, R44). That each completion may stand for the boundary that
completes it is the model's choice (log 6), and so is that a slot with the own transmitter keyed is not quiet, also without a
carrier detected (log 35). -/
def Obligations.QuietRecoversTheLinkAndEndsTheListenIn : Prop :=
  QuietSpansRecoverTheLink ∧ ListenInCountsQuietSlots ∧ RecoveryPresentsAWaitingEntry

/-- Carrier of others abandons a deferral, hands its entry back, and starts the partial span and the listen-in again (R3, R9, R20,
R22). That the gap after an unreadable carrier is no ack gap is the model's reading (log 8). -/
def Obligations.CarrierHandsTheDeferralBack : Prop :=
  ∀ s : State, Up s → s.link.keyed = false → s.link.carrier = false →
    (s.link.side = .deferring → Completes .carrierAppears s fun t =>
        t.link = { s.link with
            carrier := true, carrierInAckGap := decide (s.link.gap = some .ack ∨ s.link.gap = some .ownAck),
            partialSpan := 0, listenIn := s.link.listenIn.map fun _ => 0, side := .idle, deferral := none }
          ∧ t.tx = { s.tx with queue := s.tx.queue.map fun e =>
              if e.state = .deferring then { e with state := .waiting } else e }
          ∧ OnlyTouches [.link, .tx] s t)
      ∧ (s.link.side ≠ .deferring → Completes .carrierAppears s fun t =>
        t.link = { s.link with
            carrier := true, carrierInAckGap := decide (s.link.gap = some .ack ∨ s.link.gap = some .ownAck),
            partialSpan := 0, listenIn := s.link.listenIn.map fun _ => 0 }
          ∧ OnlyTouches [.link] s t)

/-- The command that a frame of a kind heard with a passing check is. -/
def Sys2Proof.Claims.frameCommand (k : FrameKind) (f : RxFrame) : Instr :=
  match k with
  | .beacon => .beacon f | .offer => .offer f | .bid => .bid f | .award => .award f | .withdraw => .withdraw f
  | .accept => .unownedFrame .accept f | .refuse => .unownedFrame .refuse f
  | .tripReport => .unownedFrame .tripReport f | .message => .message f | .receipt => .unownedFrame .receipt f
  | .emergency => .emergency f | .emergencyAck => .emergencyAck f | .terminalData => .terminalData f
  | .lack => .lack f

/-- A carrier that the part hears out: RUNNING, the transmitter unkeyed, the carrier not begun in an ack gap, no decision
waiting for its end. -/
abbrev Sys2Proof.Claims.HearsOut (s : State) : Prop :=
  Up s ∧ s.link.keyed = false ∧ s.link.carrier = true ∧ s.link.carrierInAckGap = false
    ∧ s.link.decisionWaits = false

/-- CHECK and CUT_OFF whose count moves the link to another state (R17, R18, R47). -/
def Sys2Proof.Claims.BadCarrierMovesTheLink : Prop :=
  ∀ (bytes : List Byte) (l : LinkState) (s : State), HearsOut s →
    (receiveBytes bytes = .check → Moves s.link.sfc (min 160 (s.link.hfc + 1)) l s →
        Completes (.endOfCarrier bytes) s fun t =>
          LinkMovesTo l { s.link with
            hfc := min 160 (s.link.hfc + 1), lastFault := .check, carrier := false, gap := some .unread } s t)
      ∧ (receiveBytes bytes = .cutOff → Moves s.link.sfc (min 160 (s.link.hfc + 2)) l s →
        Completes (.endOfCarrier bytes) s fun t =>
          LinkMovesTo l { s.link with
            hfc := min 160 (s.link.hfc + 2), lastFault := .cutOff, carrier := false, gap := some .unread } s t)

/-- The end of a carrier period in the link state that the counts name: a passing frame is the frame's own command. -/
def Sys2Proof.Claims.CarrierEndsByItsOutcome : Prop :=
  ∀ (bytes : List Byte) (s : State), HearsOut s →
    (∀ (k : FrameKind) (f : RxFrame), receiveBytes bytes = .pass k f →
        exec (.endOfCarrier bytes) s = exec (frameCommand k f) s)
      ∧ (receiveBytes bytes = .check → Steady s.link.sfc (min 160 (s.link.hfc + 1)) s.link.state →
          Completes (.endOfCarrier bytes) s fun t =>
            t.link = { s.link with
                hfc := min 160 (s.link.hfc + 1), lastFault := .check, carrier := false, gap := some .unread }
              ∧ OnlyTouches [.link] s t)
      ∧ (receiveBytes bytes = .cutOff → Steady s.link.sfc (min 160 (s.link.hfc + 2)) s.link.state →
          Completes (.endOfCarrier bytes) s fun t =>
            t.link = { s.link with
                hfc := min 160 (s.link.hfc + 2), lastFault := .cutOff, carrier := false, gap := some .unread }
              ∧ OnlyTouches [.link] s t)
      ∧ (receiveBytes bytes = .noFrame → Completes (.endOfCarrier bytes) s fun t =>
          t.link = { s.link with carrier := false, gap := some .unread } ∧ OnlyTouches [.link] s t)

/-- The outcome of a carrier period by R7: a passing frame is the frame's own command, CHECK and CUT_OFF raise HFC by 1 and 2
(R17), set the last fault kind (R21) and move the link by R18, NO_FRAME counts nothing. The gap begun after them is the model's
reading (log 8). -/
def Obligations.CarrierEndMovesTheHearCount : Prop := CarrierEndsByItsOutcome ∧ BadCarrierMovesTheLink

/-! ## The channel: keying, gaps and what an exchange leaves (R5, R8 to R16, R46, R48) -/

/-- The entry as it is keyed: the first attempt takes the counter's sequence, a beacon its fields (R5, R56). -/
def Sys2Proof.Claims.asKeyed (e : PendEntry) (s : State) : PendEntry :=
  { e with seq := some (e.seq.getD s.link.seqCounter), state := .onAir, payload := fillBeacon s e.payload }

/-- The transmitter is keyed for an entry: what the link controller and the queue hold afterwards. -/
def Sys2Proof.Claims.KeyedFor (e : PendEntry) (s t : State) : Prop :=
  t.link = { s.link with
      side := .onAir, deferral := none, keyed := true, keyFault := false, lackHeard := false, decisionWaits := false,
      seqCounter := if e.seq = none then wrapInc 255 s.link.seqCounter else s.link.seqCounter,
      txFrame := encodeFrame (asKeyed e s).payload.kind ((asKeyed e s).frame (s.link.station.getD 0)),
      txSlots := airtime (asKeyed e s).payload.bytes.length }
    ∧ t.tx = { s.tx with queue := s.tx.queue.map fun a => if a.uid = e.uid then asKeyed e s else a }
    ∧ OnlyTouches [.link, .tx] s t

/-- A count that has run out keys its entry on a free channel (R5, R8, R9). That the event changes nothing with the count above 0
or the channel busy is the model's choice (log 1). -/
def Obligations.CountRunOutKeysTheEntry : Prop :=
  ∀ (e : PendEntry) (d : Deferral) (s : State), heldEntry s = some e → s.link.deferral = some d → e.cls ≠ .bid →
    (d = ⟨0, true⟩ → FreeSlots s → Completes .deferralCountRunOut s fun t => KeyedFor e s t)
      ∧ (0 < d.slots ∨ ¬ NoneOnAir s → Completes .deferralCountRunOut s fun t => OnlyTouches [] s t)

/-- BID_SLOT_ARRIVES for the one entry that waits, the link controller IDLE (R10, R45). -/
def Sys2Proof.Claims.BidIsKeyedAtItsSlot : Prop :=
  ∀ (id : OfferId) (rank : Nat) (c : Cell) (b : PendEntry) (s : State), Up s → openBid id s = some b →
    b.payload = .bid id rank c → b.state = .waiting → b.eligible = false → b.attempts = 0 →
    (∀ e ∈ s.tx.queue, e.uid = b.uid → e = b) → (∀ e ∈ s.tx.queue, e ≠ b → e.state ≠ .waiting) →
    s.link.side = .idle → s.link.slotClock = true → s.link.listenIn = none → s.link.state ≠ .silent →
    s.link.state ≠ .recovering →
    (NoneOnAir s → Completes (.bidSlotArrives id) s fun t =>
        t.link.keyed = true ∧ t.link.side = .onAir ∧ t.link.deferral = none
          ∧ (∃ e ∈ t.tx.queue, e.uid = b.uid ∧ e.state = .onAir ∧ e.eligible = true ∧ e.payload = b.payload
              ∧ t.link.txFrame = encodeFrame .bid (e.frame (s.link.station.getD 0)))
          ∧ OnlyTouches [.link, .tx] s t)
      ∧ (¬ NoneOnAir s → Completes (.bidSlotArrives id) s fun t =>
        t.link = { s.link with side := .deferring, deferral := some ⟨1, false⟩ }
          ∧ t.tx = { s.tx with queue := s.tx.queue.map fun e =>
              if e.uid = b.uid then { b with eligible := true, state := .deferring } else e }
          ∧ OnlyTouches [.link, .tx] s t)

/-- BID_KEYING_BOUNDARY: the held BID is keyed, or leaves unsent when its window has ended (R10). -/
def Sys2Proof.Claims.BidIsKeyedAfterItsFreeSlots : Prop :=
  ∀ (e : PendEntry) (s : State), heldEntry s = some e → e.cls = .bid → s.link.deferral = some ⟨0, true⟩ →
    FreeSlots s →
    (e.windowEnded = false → Completes .bidKeyingBoundary s fun t => KeyedFor e s t)
      ∧ (e.windowEnded = true → e.state = .deferring → e.owner = .offerEngine →
        Completes .bidKeyingBoundary s fun t =>
          t.link = { s.link with side := .idle, deferral := none }
            ∧ t.tx = { s.tx with queue := s.tx.queue.filter fun a => a.uid != e.uid }
            ∧ OnlyTouches [.link, .tx, .offers, .msg, .port] s t ∧ t.msg.queue = s.msg.queue)

/-- BID_WINDOW_END: a BID not on the air leaves, one on the air is not keyed again (R45). -/
def Sys2Proof.Claims.BidWindowEndsTheBid : Prop :=
  ∀ (id : OfferId) (b : PendEntry) (s : State), Up s → openBid id s = some b → b.owner = .offerEngine →
    (b.state = .waiting → Completes (.bidWindowEnd id) s fun t =>
        t.tx = { s.tx with queue := s.tx.queue.filter fun a => a.uid != b.uid }
          ∧ OnlyTouches [.tx, .offers, .msg, .port] s t ∧ t.msg.queue = s.msg.queue
          ∧ (∀ o : OfferEntry, Listed o s → o.bidFrame = some ⟨b.uid, none⟩ → o.state = .bidWait →
              (∀ a ∈ s.offers.table, (a.bidFrame.any (·.uid == b.uid) || a.replyFrame.any (·.uid == b.uid)) = true → a = o) →
              { o with state := .missed, reason := none, bidFrame := none, awardTimer := none, acceptTimer := none }
                ∈ t.offers.table))
      ∧ (b.state = .onAir ∨ b.state = .awaitLack → Completes (.bidWindowEnd id) s fun t =>
        t.tx = { s.tx with
            queue := s.tx.queue.map fun a => if a.uid = b.uid then { a with windowEnded := true } else a }
          ∧ OnlyTouches [.tx] s t)

/-- A BID is keyed at its bid slot, or after free slots past it, and leaves at the end of its window (R10, R45). That the slot
and the window end are commands is the model's choice (log 2). -/
def Obligations.BidFollowsItsSlotAndWindow : Prop :=
  BidIsKeyedAtItsSlot ∧ BidIsKeyedAfterItsFreeSlots ∧ BidWindowEndsTheBid

/-- KEYING_FAULT: SFC rises by 8, once for a frame; at 256 the link is SILENT (R11, R16, R19, R48), below it the link moves by
R18; a frame that only runs off changes no count (R15), and its fault is in the last fault kind (R21). -/
def Sys2Proof.Claims.KeyingFaultIsCountedOnce : Prop :=
  ∀ s : State, Up s → s.link.keyed = true →
    (s.link.keyFault = false → s.link.runOff = none → Steady (min 256 (s.link.sfc + 8)) s.link.hfc s.link.state →
        Completes .keyingFault s fun t =>
          t.link = { s.link with keyFault := true, sfc := min 256 (s.link.sfc + 8), lastFault := .keying }
            ∧ OnlyTouches [.link] s t)
      ∧ (s.link.keyFault = true → Completes .keyingFault s fun t => OnlyTouches [] s t)
      ∧ (∀ l : LinkState, s.link.keyFault = false → s.link.runOff = none →
          Moves (min 256 (s.link.sfc + 8)) s.link.hfc l s → Completes .keyingFault s fun t =>
          LinkMovesTo l { s.link with keyFault := true, sfc := min 256 (s.link.sfc + 8), lastFault := .keying } s t)
      ∧ (s.link.keyFault = false → s.link.runOff = none → 248 ≤ s.link.sfc → s.link.state ≠ .silent → s.link.state ≠ .recovering →
          s.emerg.alarm = .quiet → Completes .keyingFault s fun t =>
            t.link.sfc = 256 ∧ t.link.state = .silent ∧ t.link.lastFault = .keying
              ∧ (∀ e ∈ t.tx.queue, e.state = .waiting ∨ e.state = .deferring →
                  e.cls ≠ .bid ∧ e.cls ≠ .beacon ∧ e.cls ≠ .emergencyRelay))

/-- The link entered SILENT while an alarm stood: it is RECOVERING with nothing counted, the alarm is HELD unless it is CLEARING,
its repeats stop, what may not wait has left, and the own call waits (R19, R48, R173). -/
def Sys2Proof.Claims.AlarmHeldAtSilent (s t : State) : Prop :=
  t.link.state = .recovering ∧ t.link.sfc = 256 ∧ t.link.quietSpans = 0 ∧ t.link.partialSpan = 0
    ∧ t.emerg.alarm = (if s.emerg.alarm = .clearing then .clearing else .held)
    ∧ (s.emerg.alarm = .open ∨ s.emerg.alarm = .acknowledged → t.emerg.repeatTimer = none)
    ∧ t.emerg.number = s.emerg.number ∧ t.emerg.ackHeard = s.emerg.ackHeard ∧ t.emerg.ownEntry = s.emerg.ownEntry
    ∧ (∀ e ∈ t.tx.queue, e.state = .waiting ∨ e.state = .deferring →
        e.cls ≠ .bid ∧ e.cls ≠ .beacon ∧ e.cls ≠ .emergencyRelay)
    ∧ ∀ e ∈ s.tx.queue, e.cls = .emergencyOrigin → e.state = .waiting ∨ e.state = .onAir → e ∈ t.tx.queue

/-- BID, BEACON and relay entries belong to the blocks that make them (R40). -/
abbrev Sys2Proof.Claims.OwnedByTheirBlocks (s : State) : Prop :=
  ∀ e ∈ s.tx.queue, (e.cls = .bid → e.owner = .offerEngine) ∧ (e.cls = .beacon → e.owner = .beaconCycle)
    ∧ (e.cls = .emergencyRelay → e.owner = .emergencyController ∧ ∃ id : AlarmId, e.ref = .relay id)

/-- SILENT entered with an alarm in any of its states: by a keying fault, or by an attempt that ended without a LACK, whose entry
goes back to WAITING (R13, R15, R16, R19, R173). -/
def Sys2Proof.Claims.SilenceHoldsTheAlarm : Prop :=
  ∀ s : State, Up s → 248 ≤ s.link.sfc → s.link.state ≠ .silent → s.link.state ≠ .recovering → s.emerg.alarm ≠ .quiet →
    (s.tx.queue.map (·.uid)).Nodup → OwnedByTheirBlocks s →
    (s.link.keyed = true → s.link.keyFault = false → s.link.runOff = none → Completes .keyingFault s fun t =>
        AlarmHeldAtSilent s t ∧ t.link.lastFault = .keying)
      ∧ ∀ e : PendEntry, s.link.side = .ackWait → s.link.gap = some .ownAck → s.link.carrier = false →
        s.link.lackHeard = false → heldEntry s = some e → e.state = .awaitLack → e.cls = .normal ∨ e.cls = .reply →
        e.attempts < 3 → e.windowEnded = false → Completes .ackGapCloses s fun t =>
        AlarmHeldAtSilent s t ∧ t.link.lastFault = .noLack ∧ t.link.side = .idle
          ∧ { e with attempts := e.attempts + 1, state := .waiting } ∈ t.tx.queue

/-- KEYING_FAULT of a frame that only runs off, in every part state (R11, R15, R21). -/
def Sys2Proof.Claims.RunOffFaultIsKept : Prop :=
  ∀ s : State, s.link.keyed = true → s.link.keyFault = false → s.link.runOff ≠ none →
    Completes .keyingFault s fun t =>
      t.link = { s.link with keyFault := true, lastFault := .keying } ∧ OnlyTouches [.link] s t

/-- END_OF_AIRTIME of an entry's frame (R3, R8, R11). -/
def Sys2Proof.Claims.AirtimeEndStartsTheGap : Prop :=
  ∀ (e : PendEntry) (s : State), s.link.keyed = true → s.link.runOff = none → s.link.side = .onAir →
    heldEntry s = some e →
    (s.link.keyFault = false → e.needsLack = true → e.state = .onAir → Completes .endOfAirtime s fun t =>
        t.link = { s.link with
            keyed := false, txFrame := [], txSlots := 0, side := .ackWait, gap := some .ownAck }
          ∧ t.tx = { s.tx with queue := s.tx.queue.map fun a =>
              if a.uid = e.uid then { a with state := if a.state = .onAir then .awaitLack else a.state } else a }
          ∧ OnlyTouches [.link, .tx] s t)
      ∧ (s.link.keyFault = false → e.needsLack = false → Completes .endOfAirtime s fun t =>
        t.link = { s.link with keyed := false, txFrame := [], txSlots := 0, gap := some .ownIdle }
          ∧ OnlyTouches [.link] s t)
      ∧ (s.link.keyFault = true → e.unicast = true → e.cls ≠ .bid → e.state = .onAir → e.windowEnded = false →
          e.attempts < 3 → Completes .endOfAirtime s fun t =>
        t.link = { s.link with
            keyed := false, txFrame := [], txSlots := 0, keyFault := false, side := .idle, deferral := none,
            lackHeard := false, decisionWaits := false, gap := some (if e.needsLack then .ack else .idle) }
          ∧ t.tx = { s.tx with queue := s.tx.queue.map fun a =>
              if a.uid = e.uid then { a with attempts := e.attempts + 1, state := .waiting } else a }
          ∧ OnlyTouches [.link, .tx] s t)

/-- A keying fault raises SFC once for a frame (R11, R16, R19, R48); a frame's airtime ends in the gap it calls for (R3, R8). That a
second KEYING_FAULT of one frame changes nothing is the model's choice (log 1), and so is the gap held after a faulted frame
(log 44). -/
def Obligations.KeyedFrameEndsInItsGap : Prop :=
  KeyingFaultIsCountedOnce ∧ SilenceHoldsTheAlarm ∧ RunOffFaultIsKept ∧ AirtimeEndStartsTheGap

/-- LACK: inside the own ack gap one that matches makes the attempt DELIVERED at the gap's close (R12). -/
def Sys2Proof.Claims.LackIsUsedInTheAckGap : Prop :=
  ∀ (e : PendEntry) (f : RxFrame) (s : State), Up s → s.link.keyed = false → s.link.carrier = true →
    s.link.carrierInAckGap = true → s.link.decisionWaits = false → s.link.side = .ackWait →
    s.link.gap = some .ownAck → heldEntry s = some e → Steady s.link.sfc (s.link.hfc - 1) s.link.state →
    f.needsLack = false →
    Completes (.lack f) s fun t =>
      t.link = { s.link with
          hfc := s.link.hfc - 1, carrier := false, carrierInAckGap := false,
          lackHeard := s.link.lackHeard || decide (s.link.station = some f.dest ∧ f.source = e.dest
            ∧ f.payload = [byteOf (e.seq.getD 0)]) }
        ∧ OnlyTouches [.link] s t

/-- ACK_GAP_CLOSES for host data: DELIVERED after a LACK, otherwise a further attempt or NO_LACK (R12, R13, R16, R21, R46). -/
def Sys2Proof.Claims.AckGapDecidesTheAttempt : Prop :=
  ∀ (e : PendEntry) (s : State), Up s → s.link.side = .ackWait → s.link.gap = some .ownAck → heldEntry s = some e →
    e.owner = .terminalPort → e.cls = .normal → e.state = .awaitLack → e.windowEnded = false →
    (∀ a ∈ s.tx.queue, a.uid = e.uid → a = e) → s.tx.outcomes.length < 16 →
    (s.link.carrier = true → Completes .ackGapCloses s fun t =>
        t.link = { s.link with gap := none, decisionWaits := true } ∧ OnlyTouches [.link] s t)
      ∧ (s.link.carrier = false → s.link.lackHeard = true → Steady (s.link.sfc - 1) s.link.hfc s.link.state →
          Completes .ackGapCloses s fun t =>
            t.link.sfc = s.link.sfc - 1 ∧ t.link.hfc = s.link.hfc ∧ t.link.lastFault = .none
              ∧ t.link.gap = none ∧ t.link.lackHeard = false
              ∧ t.tx.outcomes = s.tx.outcomes ++ [⟨e.tag.getD 0, .delivered, e.attempts + 1, false⟩]
              ∧ (∀ a ∈ t.tx.queue, a.uid ≠ e.uid)
              ∧ (∀ a ∈ s.tx.queue, a.uid ≠ e.uid →
                  ∃ b ∈ t.tx.queue, b.uid = a.uid ∧ b.payload = a.payload ∧ b.attempts = a.attempts)
              ∧ t.port = (raise .sendOutcome .outcomes s).port
              ∧ OnlyTouches [.link, .tx, .port] s t)
      ∧ (s.link.carrier = false → s.link.lackHeard = false → Steady (min 256 (s.link.sfc + 8)) s.link.hfc s.link.state →
          e.attempts < 3 → Completes .ackGapCloses s fun t =>
            t.link.sfc = min 256 (s.link.sfc + 8) ∧ t.link.hfc = s.link.hfc ∧ t.link.lastFault = .noLack
              ∧ t.link.gap = none ∧ t.tx.outcomes = s.tx.outcomes
              ∧ (∃ a ∈ t.tx.queue, a.uid = e.uid ∧ a.attempts = e.attempts + 1 ∧ a.seq = e.seq
                  ∧ (a.state = .waiting ∨ a.state = .deferring))
              ∧ OnlyTouches [.link, .tx] s t)
      ∧ (s.link.carrier = false → s.link.lackHeard = false → Steady (min 256 (s.link.sfc + 8)) s.link.hfc s.link.state →
          e.attempts = 3 → Completes .ackGapCloses s fun t =>
            t.link.sfc = min 256 (s.link.sfc + 8) ∧ t.link.lastFault = .noLack
              ∧ t.tx.outcomes = s.tx.outcomes ++ [⟨e.tag.getD 0, .noLack, 4, false⟩]
              ∧ (∀ a ∈ t.tx.queue, a.uid ≠ e.uid)
              ∧ OnlyTouches [.link, .tx, .port] s t)

/-- ACK_GAP_CLOSES and IDLE_GAP_CLOSES of host data with other entries waiting, or with the entry itself to be tried again: the
chosen one of what is left is presented (R8, R12, R13, R44). -/
def Sys2Proof.Claims.NextEntryIsPresentedAfterAnExchange : Prop :=
  ∀ (e c : PendEntry) (s : State), Up s → Takes s → s.link.listenIn = none → s.link.carrier = false →
    s.link.keyed = false → heldEntry s = some e → e.owner = .terminalPort →
    (s.link.side = .onAir → s.link.gap = some .ownIdle → ChosenIn (s.tx.queue.filter fun a => a.uid != e.uid) c →
        Completes .idleGapCloses s fun t =>
          Presented true c (s.tx.queue.filter fun a => a.uid != e.uid)
            { s.link with lackHeard := false, decisionWaits := false, gap := none, lastFault := .none } t
            ∧ OnlyTouches [.link, .tx, .port] s t)
      ∧ (s.link.side = .ackWait → s.link.gap = some .ownAck → s.link.lackHeard = true →
          Steady (s.link.sfc - 1) s.link.hfc s.link.state → ChosenIn (s.tx.queue.filter fun a => a.uid != e.uid) c →
          Completes .ackGapCloses s fun t =>
            Presented true c (s.tx.queue.filter fun a => a.uid != e.uid)
              { s.link with
                sfc := s.link.sfc - 1, lackHeard := false, decisionWaits := false, gap := none, lastFault := .none } t
              ∧ OnlyTouches [.link, .tx, .port] s t)
      ∧ (s.link.side = .ackWait → s.link.gap = some .ownAck → s.link.lackHeard = false → e.state = .awaitLack →
          e.windowEnded = false → e.attempts < 3 → Steady (min 256 (s.link.sfc + 8)) s.link.hfc s.link.state →
          ChosenIn (s.tx.queue.map fun a =>
            if a.uid = e.uid then { a with attempts := e.attempts + 1, state := .waiting } else a) c →
          Completes .ackGapCloses s fun t =>
            Presented true c
              (s.tx.queue.map fun a =>
                if a.uid = e.uid then { a with attempts := e.attempts + 1, state := .waiting } else a)
              { s.link with
                sfc := min 256 (s.link.sfc + 8), lackHeard := false, decisionWaits := false, gap := none,
                lastFault := .noLack } t
              ∧ OnlyTouches [.link, .tx] s t)

/-! ### What an exchange's end gives the entry's owner (R46, R68, R70, R75, R122, R123, R155, R171, R176, R182) -/

/-- The own ack gap closes and the exchange of `e` ends with it: with its LACK, or without one after its fourth attempt, past its
window, or when its retraction was asked (R12, R13, R45, R51). -/
abbrev Sys2Proof.Claims.ExchangeEnds (e : PendEntry) (lack : Bool) (s : State) : Prop :=
  Up s ∧ s.link.side = .ackWait ∧ s.link.gap = some .ownAck ∧ s.link.carrier = false ∧ s.link.lackHeard = lack
    ∧ heldEntry s = some e
    ∧ Steady (if lack then s.link.sfc - 1 else min 256 (s.link.sfc + 8)) s.link.hfc s.link.state
    ∧ (lack = true ∨ e.attempts = 3 ∨ e.windowEnded = true ∨ e.state = .retractPending)

/-- The exchange is over and its entry is out of the queue (R12, R16, R21, R46). -/
def Sys2Proof.Claims.ExchangeOver (e : PendEntry) (lack : Bool) (s t : State) : Prop :=
  t.link.sfc = (if lack then s.link.sfc - 1 else min 256 (s.link.sfc + 8)) ∧ t.link.hfc = s.link.hfc
    ∧ t.link.lastFault = (if lack then .none else .noLack) ∧ t.link.gap = none ∧ t.link.lackHeard = false
    ∧ ∀ a ∈ t.tx.queue, a.uid ≠ e.uid

/-- The queued frame of an offer entry names it alone. -/
abbrev Sys2Proof.Claims.OwnsFrame (e : OfferEntry) (uid : Nat) (s : State) : Prop :=
  ∀ a ∈ s.offers.table, (a.bidFrame.any (·.uid == uid) || a.replyFrame.any (·.uid == uid)) = true → a = e

/-- One entry of the offer table becomes another, the rest stand. -/
abbrev Sys2Proof.Claims.tableWith (o o' : OfferEntry) (s : State) : List OfferEntry :=
  s.offers.table.map fun a => if a.id = o.id then o' else a

/-- An entry in BID_WAIT after its BID's exchange, by the reason recorded for a retraction (R68, R70). -/
def Sys2Proof.Claims.afterBid (lack : Bool) (reason : Option RetractReason) (timeout : Nat) (o : OfferEntry) : OfferEntry :=
  let o := { o with bidFrame := none, awardTimer := none, acceptTimer := none }
  match reason with
  | some .meter => { o with state := .ineligible, reason := some .meter }
  | some .alarm => { o with state := .ineligible, reason := some .alarm }
  | _ => if lack then { o with state := .bidSent, reason := none, awardTimer := some timeout }
         else { o with state := .missed, reason := none }

/-- A BID's exchange: BID_SENT with the award timer when it was LACKed and nothing else had been decided, MISSED without a
LACK. -/
def Sys2Proof.Claims.BidResultMovesTheOffer : Prop :=
  ∀ (e : PendEntry) (o : OfferEntry) (lack : Bool) (reason : Option RetractReason) (s : State), ExchangeEnds e lack s →
    e.owner = .offerEngine → Listed o s → o.bidFrame = some ⟨e.uid, reason⟩ → OwnsFrame o e.uid s →
    (o.state = .bidWait → reason ≠ some .award → reason ≠ some .withdraw → Completes .ackGapCloses s fun t =>
        ExchangeOver e lack s t
          ∧ t.offers = { s.offers with
              table := tableWith o (afterBid lack reason s.offers.awardTimeout o) s
              heldJob := if s.offers.heldJob = some o.id then none else s.offers.heldJob }
          ∧ t.port = (raise .offerChanged (.offer o.id) s).port ∧ t.msg.queue = s.msg.queue
          ∧ OnlyTouches [.link, .tx, .offers, .msg, .port] s t)
      ∧ (o.state = .awarded ∨ o.state = .lost ∨ o.state = .withdrawn → Completes .ackGapCloses s fun t =>
        ExchangeOver e lack s t
          ∧ t.offers.table = tableWith o
              { o with bidFrame := none, awardTimer := none,
                       acceptTimer := if o.state = .awarded then o.acceptTimer else none } s
          ∧ t.port = s.port ∧ t.msg.queue = s.msg.queue ∧ OnlyTouches [.link, .tx, .offers, .msg] s t)

/-- An ACCEPT's exchange makes the entry HELD or HELD_UNCONFIRMED; that of a REFUSE is recorded alone. -/
def Sys2Proof.Claims.ReplyResultMovesTheOffer : Prop :=
  ∀ (e : PendEntry) (o : OfferEntry) (f : QueuedFrame) (lack : Bool) (s : State), ExchangeEnds e lack s →
    e.owner = .offerEngine → Listed o s → o.bidFrame = none → o.replyFrame = some f → f.uid = e.uid →
    OwnsFrame o e.uid s →
    (e.payload = .accept o.id → o.state = .accepting → Completes .ackGapCloses s fun t =>
        ExchangeOver e lack s t
          ∧ t.offers = { s.offers with
              table := tableWith o
                { o with state := if lack then .held else .heldUnconfirmed, replyFrame := none, awardTimer := none,
                         acceptTimer := none, lastReply := some (if lack then .delivered else .noLack) } s
              heldJob := some o.id }
          ∧ t.port = (raise .offerChanged (.offer o.id) s).port ∧ t.msg.queue = s.msg.queue
          ∧ OnlyTouches [.link, .tx, .offers, .msg, .port] s t)
      ∧ ∀ r : RefuseReason, e.payload = .refuse o.id r → o.state = .refused → Completes .ackGapCloses s fun t =>
        ExchangeOver e lack s t
          ∧ t.offers.table = tableWith o
              { o with replyFrame := none, awardTimer := none, acceptTimer := none,
                       lastReply := some (if lack then .delivered else .noLack) } s
          ∧ t.port = s.port ∧ t.msg.queue = s.msg.queue ∧ OnlyTouches [.link, .tx, .offers, .msg] s t

/-- An upload list with the trip of a number changed. -/
abbrev Sys2Proof.Claims.uploadsWith (n : Nat) (f : UploadEntry → UploadEntry) (s : State) : List UploadEntry :=
  s.trips.uploads.map fun u => if u.trip.number = n then f u else u

/-- A TRIP_REPORT's exchange: DELIVERED with its UPLOAD_DONE group offered or owed, UNSENT without a LACK. -/
def Sys2Proof.Claims.TripReportResultMovesTheUpload : Prop :=
  ∀ (e : PendEntry) (n : Nat) (lack : Bool) (s : State), ExchangeEnds e lack s → e.owner = .tripRecorder →
    e.ref = .trip n →
    (lack = true → StoreTakesGroups s → s.store.queue.length < 6 → s.store.activity ≠ .idle →
        Completes .ackGapCloses s fun t =>
          ExchangeOver e lack s t
            ∧ t.trips = { s.trips with
                uploads := uploadsWith n
                  (fun u => { u with trip := { u.trip with upload := .delivered }, doneOwed := false }) s }
            ∧ t.store = { s.store with queue := s.store.queue ++ [⟨.uploadDone n, [.uploadDone n], false⟩] }
            ∧ t.port = (raise .uploadChanged (.trip n) s).port ∧ OnlyTouches [.link, .tx, .trips, .store, .port] s t)
      ∧ (lack = true → ¬ StoreTakesGroups s ∨ 6 ≤ s.store.queue.length → Completes .ackGapCloses s fun t =>
          ExchangeOver e lack s t
            ∧ t.trips = { s.trips with
                uploads := uploadsWith n
                  (fun u => { u with trip := { u.trip with upload := .delivered }, doneOwed := true }) s }
            ∧ t.port = (raise .uploadChanged (.trip n) s).port ∧ OnlyTouches [.link, .tx, .trips, .port] s t)
      ∧ (lack = false → Completes .ackGapCloses s fun t =>
          ExchangeOver e lack s t
            ∧ t.trips = { s.trips with
                uploads := uploadsWith n (fun u => { u with trip := { u.trip with upload := .unsent } }) s }
            ∧ t.port = (raise .uploadChanged (.trip n) s).port ∧ OnlyTouches [.link, .tx, .trips, .port] s t)

/-- A RECEIPT's exchange: the receipt field of the message that names it is DELIVERED or NO_LACK. -/
def Sys2Proof.Claims.ReceiptResultMovesTheMessage : Prop :=
  ∀ (e : PendEntry) (lack : Bool) (s : State), ExchangeEnds e lack s → e.owner = .messageUnit →
    Completes .ackGapCloses s fun t =>
      ExchangeOver e lack s t
        ∧ t.msg = { s.msg with
            queue := s.msg.queue.map fun m =>
              if m.receipt = some (.queued e.uid) then
                { m with receipt := some (if lack then .delivered else .noLack) }
              else m
            bus := t.msg.bus }
        ∧ OnlyTouches [.link, .tx, .msg] s t

/-- The exchange of a broadcast entry ends with its idle gap (R13). -/
abbrev Sys2Proof.Claims.BroadcastEnds (e : PendEntry) (s : State) : Prop :=
  Up s ∧ s.link.side = .onAir ∧ s.link.keyed = false ∧ s.link.gap = some .ownIdle ∧ heldEntry s = some e

/-- The own EMERGENCY sent: in CLEARING a CLEARED one is counted, the third ends the alarm, and an OPEN one that was still on
its way is followed by the first CLEARED one. -/
def Sys2Proof.Claims.OwnCallSentMovesTheAlarm : Prop :=
  ∀ (e : PendEntry) (o : OwnEntry) (n : Nat) (s : State), BroadcastEnds e s → e.owner = .emergencyController →
    e.ref = .alarm n → s.emerg.ownEntry = some o → o.uid = e.uid →
    (s.emerg.alarm ≠ .clearing → Completes .idleGapCloses s fun t =>
        t.emerg = { s.emerg with ownEntry := none, lamp := t.emerg.lamp, lampOn := t.emerg.lampOn }
          ∧ (∀ a ∈ t.tx.queue, a.uid ≠ e.uid) ∧ t.link.lastFault = .none ∧ OnlyTouches [.link, .tx, .emerg] s t)
      ∧ (s.emerg.alarm = .clearing → o.phase = .cleared → s.emerg.clearedSent < 2 → Completes .idleGapCloses s fun t =>
        t.emerg = { s.emerg with
            ownEntry := none, clearedSent := s.emerg.clearedSent + 1, spacingTimer := some 2, lamp := t.emerg.lamp,
            lampOn := t.emerg.lampOn }
          ∧ (∀ a ∈ t.tx.queue, a.uid ≠ e.uid) ∧ OnlyTouches [.link, .tx, .emerg] s t)
      ∧ (s.emerg.alarm = .clearing → o.phase = .cleared → s.emerg.clearedSent = 2 → Completes .idleGapCloses s fun t =>
        t.emerg.alarm = .quiet ∧ t.emerg.number = none ∧ t.emerg.source = none ∧ t.emerg.ownEntry = none
          ∧ t.emerg.lastNumber = s.emerg.lastNumber ∧ t.emerg.relays = s.emerg.relays
          ∧ t.port = (raise .alarmState .ownAlarm s).port ∧ OnlyTouches [.link, .tx, .emerg, .port] s t)
      ∧ (s.emerg.alarm = .clearing → o.phase = .open → s.tx.queue = [e] → Completes .idleGapCloses s fun t =>
        t.emerg.alarm = .clearing ∧ t.emerg.ownEntry = some ⟨.cleared, s.nextUid⟩
          ∧ t.emerg.nextRepeat = min 65535 (s.emerg.nextRepeat + 1) ∧ t.emerg.clearedSent = s.emerg.clearedSent
          ∧ t.tx.queue.map (fun a => (a.uid, a.cls, a.payload, a.dest)) =
              [(s.nextUid, .emergencyOrigin,
                .emergency ⟨s.link.station.getD 0, s.emerg.number.getD 0⟩ s.emerg.nextRepeat .cleared s.cell, 0xFFFF)]
          ∧ OnlyTouches [.link, .tx, .emerg] s t)

/-- A relay sent: its entry of the relay table has it pending no more, and an ACK relay is DONE; an entry aged out leaves. -/
def Sys2Proof.Claims.RelaySentMovesItsEntry : Prop :=
  ∀ (e : PendEntry) (r : RelayEntry) (s : State), BroadcastEnds e s → e.owner = .emergencyController →
    e.ref = .relay r.id → r ∈ s.emerg.relays → (∀ a ∈ s.emerg.relays, a.id = r.id → a = r) →
    (∀ a ∈ s.emerg.relays, a.id ≠ r.id → a.agedOut = false) →
    (∀ p : RelayPending, r.pending = some p → p.uid = e.uid → r.agedOut = false → Completes .idleGapCloses s fun t =>
        t.emerg.relays = s.emerg.relays.map (fun a => if a.id = r.id then { r with pending := none } else a)
          ∧ (∀ a ∈ t.tx.queue, a.uid ≠ e.uid) ∧ OnlyTouches [.link, .tx, .emerg] s t)
      ∧ (∀ joined : Nat, r.pending = none → r.ackRelay = .pending e.uid joined → r.agedOut = false →
          Completes .idleGapCloses s fun t =>
        t.emerg.relays = s.emerg.relays.map (fun a => if a.id = r.id then { r with ackRelay := .done } else a)
          ∧ (∀ a ∈ t.tx.queue, a.uid ≠ e.uid) ∧ OnlyTouches [.link, .tx, .emerg] s t)
      ∧ ∀ p : RelayPending, r.pending = some p → p.uid = e.uid → r.agedOut = true →
          r.ackRelay = .no ∨ r.ackRelay = .done → Completes .idleGapCloses s fun t =>
        t.emerg.relays = s.emerg.relays.filter (fun a => a.id != r.id)
          ∧ (∀ a ∈ t.tx.queue, a.uid ≠ e.uid) ∧ OnlyTouches [.link, .tx, .emerg] s t

/-- A matching LACK makes the attempt DELIVERED at the close of the ack gap; without one the entry is tried again, and after its
fourth attempt leaves with NO_LACK (R12, R13, R16, R21, R46, R57). What that gives the owners of a BID, an ACCEPT or REFUSE, a
TRIP_REPORT and a RECEIPT (R68, R70, R75, R122, R123, R155), and what is presented next (R44). That any carrier makes the
decision wait is the model's choice (log 34). -/
def Obligations.LackDecidesTheAttempt : Prop :=
  LackIsUsedInTheAckGap ∧ AckGapDecidesTheAttempt ∧ NextEntryIsPresentedAfterAnExchange ∧ BidResultMovesTheOffer
    ∧ ReplyResultMovesTheOffer ∧ TripReportResultMovesTheUpload ∧ ReceiptResultMovesTheMessage

/-- IDLE_GAP_CLOSES for host data that was broadcast, and GAP_CLOSES of the gaps of others and of an own LACK, with nothing
waiting to be presented. -/
def Sys2Proof.Claims.GapCloseEndsBroadcastAndLack : Prop :=
  (∀ (e : PendEntry) (s : State), Up s → s.link.side = .onAir → s.link.keyed = false → s.link.gap = some .ownIdle →
      s.tx.queue = [e] → e.owner = .terminalPort → e.state = .onAir → s.tx.outcomes.length < 16 →
      Completes .idleGapCloses s fun t =>
        t.link = { s.link with
            side := .idle, deferral := none, lackHeard := false, decisionWaits := false, gap := none,
            lastFault := .none }
          ∧ t.tx = { s.tx with
              queue := []
              outcomes := s.tx.outcomes ++ [⟨e.tag.getD 0, .broadcastSent, e.attempts + 1, false⟩] }
          ∧ t.port = (raise .sendOutcome .outcomes s).port ∧ OnlyTouches [.link, .tx, .port] s t)
    ∧ ∀ s : State, Up s → s.link.gap = some .ack ∨ s.link.gap = some .idle ∨ s.link.gap = some .unread →
      (∀ d : Deferral, s.link.deferral = some d → s.link.side = .deferring → s.link.slotClock = true →
          s.link.listenIn = none → s.link.carrier = false → s.link.keyed = false →
          Completes .gapCloses s fun t =>
            t.link = { s.link with gap := none, deferral := some ⟨d.slots, true⟩ } ∧ OnlyTouches [.link] s t)
        ∧ (s.link.deferral = none → s.link.side = .idle → s.tx.queue = [] → Completes .gapCloses s fun t =>
            t.link = { s.link with gap := none } ∧ OnlyTouches [.link] s t)
        ∧ (s.link.side = .lacking → s.tx.queue = [] → Completes .gapCloses s fun t =>
            t.link = { s.link with
                gap := none, side := .idle, keyed := false, txFrame := [], txSlots := 0, keyFault := false,
                deferral := none, lackHeard := false, decisionWaits := false }
              ∧ OnlyTouches [.link] s t)

/-- IDLE_GAP_CLOSES ends a broadcast of host data, of the own call (R171, R176) and of a relay (R182); GAP_CLOSES frees the
channel, and a waiting entry is presented, as it is at the end of the listen-in (R3, R8, R9, R44). -/
def Obligations.GapCloseEndsBroadcastsAndLacks : Prop :=
  GapCloseEndsBroadcastAndLack ∧ WaitingEntryIsPresented ∧ OwnCallSentMovesTheAlarm ∧ RelaySentMovesItsEntry

/-! ## Frames heard (R7, R17, R23 to R34, R62, R69, R72 to R74, R80, R149, R174, R180, R181) -/

/-- The three screens pass a frame (R24, R25, R26). -/
abbrev Sys2Proof.Claims.PassesScreens (k : FrameKind) (f : RxFrame) (s : State) : Prop :=
  s.link.station ≠ some f.source
    ∧ (s.link.fleet = some f.fleet ∨ f.fleet = 0 ∨ k = .emergency ∨ k = .emergencyAck)
    ∧ (k = .bid ∨ s.link.station = some f.dest ∨ f.dest = 0xFFFE ∨ f.dest = 0xFFFF
        ∨ (0xF000 ≤ f.dest ∧ f.dest ≤ 0xF0FF ∧ f.dest - 0xF000 ∈ s.rx.zones))

/-- The header ranges of R28. -/
abbrev Sys2Proof.Claims.HeaderInRange (k : FrameKind) (f : RxFrame) : Prop :=
  1 ≤ f.source ∧ f.source ≤ 4000 ∧ (f.hop = 0 ∨ k = .emergency ∨ k = .emergencyAck)

/-- The payload is one of its kind (R28). -/
def Sys2Proof.Claims.payloadOk (k : FrameKind) (bs : List Byte) : Bool :=
  match k with
  | .beacon => (parseBeacon bs).isSome | .offer => (parseOffer bs).isSome | .bid => (parseBid bs).isSome
  | .award => (parseAward bs).isSome | .withdraw => (parseOfferId bs).isSome | .accept => (parseOfferId bs).isSome
  | .refuse => refuseOk bs | .tripReport => tripReportOk bs | .message => (parseMessage bs).isSome
  | .receipt => receiptOk bs | .emergency => (parseEmergency bs).isSome
  | .emergencyAck => (parseEmergencyAck bs).isSome | .terminalData => (parseData bs).isSome | .lack => true

/-- The link controller after a frame was heard out and no LACK was keyed: HFC one lower, the carrier over, the frame's gap
begun (R3, R17). -/
def Sys2Proof.Claims.afterFrame (f : RxFrame) (s : State) : Link :=
  { s.link with
    hfc := s.link.hfc - 1, carrier := false, gap := some (if f.needsLack then .ack else .idle) }

/-- A frame is heard out, and the lower HFC names the link state that stands. -/
abbrev Sys2Proof.Claims.Hears (s : State) : Prop := HearsOut s ∧ Steady s.link.sfc (s.link.hfc - 1) s.link.state

/-- Every frame that passes its check lowers HFC, whatever becomes of it. -/
def Sys2Proof.Claims.EveryFrameLowersHfc : Prop :=
  ∀ (k : FrameKind) (f : RxFrame) (s : State), Up s → s.link.keyed = false → s.link.decisionWaits = false →
    Completes (frameCommand k f) s fun t =>
      t.link.hfc = s.link.hfc - 1 ∧ t.link.sfc = s.link.sfc ∧ t.link.lastFault = s.link.lastFault
        ∧ t.link.carrier = false ∧ t.fare.meter = s.fare.meter ∧ t.trips.totals = s.trips.totals
        ∧ t.port.response = s.port.response ∧ t.port.requestCount = s.port.requestCount ∧ t.pending = s.pending

/-- A frame that a screen stops changes nothing but the link; a malformed one is counted as well; a frame of a kind that has
no owner is dropped. -/
def Sys2Proof.Claims.FramesAreScreenedAndChecked : Prop :=
  ∀ (k : FrameKind) (f : RxFrame) (s : State), Hears s → k ≠ .lack →
    (¬ PassesScreens k f s → Completes (frameCommand k f) s fun t =>
        t.link = afterFrame f s ∧ OnlyTouches [.link] s t)
      ∧ (PassesScreens k f s → ¬ HeaderInRange k f ∨ payloadOk k f.payload = false →
        Completes (frameCommand k f) s fun t =>
          t.link = afterFrame f s ∧ t.rx = { s.rx with malformed := min 65535 (s.rx.malformed + 1) }
            ∧ OnlyTouches [.link, .rx] s t)
      ∧ (PassesScreens k f s → k = .accept ∨ k = .refuse ∨ k = .tripReport ∨ k = .receipt → HeaderInRange k f →
          payloadOk k f.payload = true → Completes (frameCommand k f) s fun t =>
            t.link = afterFrame f s ∧ OnlyTouches [.link] s t)

/-- A frame whose lower HFC moves the link to another state (R17, R18); a screen stops it. -/
def Sys2Proof.Claims.FrameMovesTheLink : Prop :=
  ∀ (k : FrameKind) (f : RxFrame) (l : LinkState) (s : State), HearsOut s → k ≠ .lack → ¬ PassesScreens k f s →
    Moves s.link.sfc (s.link.hfc - 1) l s → Completes (frameCommand k f) s fun t => LinkMovesTo l (afterFrame f s) s t

/-- Every frame that passes its check lowers HFC (R17), which may move the link (R18); the screens and the field ranges decide
what becomes of it (R23 to R29). That a frame with no carrier before it is taken as one whose carrier appeared (log 7), that a
RECEIPT may carry any reply index (log 36), a BID any destination (log 71) and an OFFER any fare estimate (log 72), and that the
numbers of a TRIP_REPORT have the ranges of the trip record (log 63), are the model's choices. -/
def Obligations.FramesAreCountedScreenedAndChecked : Prop :=
  EveryFrameLowersHfc ∧ FramesAreScreenedAndChecked ∧ FrameMovesTheLink

/-- A frame of a kind passes the screens and its header is in range; no BID is held for its wait where the frame asks for a
LACK (of that LackHandsAHeldBidBack speaks). -/
abbrev Sys2Proof.Claims.Accepted (k : FrameKind) (f : RxFrame) (s : State) : Prop :=
  Hears s ∧ PassesScreens k f s ∧ HeaderInRange k f ∧ (f.needsLack = true → s.link.side ≠ .deferring)

/-- 2 × distance + link penalty − idle bonus, held within 0..255 (R66). -/
def Sys2Proof.Claims.rankOf (own pickup : Cell) (l : LinkState) (idle : Nat) : Nat :=
  let dx := max own.x pickup.x - min own.x pickup.x
  let dy := max own.y pickup.y - min own.y pickup.y
  let penalty := if l = .active then 0 else if l = .warned then 16 else 32
  min 255 (2 * min 127 (dx + dy) + penalty - min 15 (idle / 4))

/-- The final states of R61. -/
def Sys2Proof.Claims.finalStates : List OfferState :=
  [.ineligible, .suppressed, .missed, .lost, .expired, .withdrawn, .refused, .done]

/-- The table to whose end a new entry goes: as it stands with fewer than 8 entries, and without its first entry in a final state
with 8 (R62). -/
def Sys2Proof.Claims.RoomIn (rest : List OfferEntry) (s : State) : Prop :=
  (s.offers.table.length < 8 ∧ rest = s.offers.table)
    ∨ ∃ (before after : List OfferEntry) (d : OfferEntry), s.offers.table = before ++ d :: after ∧ 8 ≤ s.offers.table.length
      ∧ (∀ a ∈ before, a.state ∉ finalStates) ∧ d.state ∈ finalStates ∧ rest = before ++ after

/-- The first condition of R64 that fails for an OFFER, in the order of its table. -/
def Sys2Proof.Claims.whyNot (p : OfferFields) (s : State) : Option OfferReason :=
  if s.fare.meter ≠ .vacant then some .meter
  else if s.offers.available = false then some .availability
  else if s.emerg.alarm ≠ .quiet then some .alarm
  else if s.link.state = .silent ∨ s.link.state = .recovering then some .link
  else if s.offers.heldJob ≠ none then some .jobHeld
  else if p.need ∉ s.offers.capability then some .vehicle
  else if s.offers.cell = none ∨ 30 < s.offers.positionAge then some .position
  else none

/-- The pending queue has no place for an entry of a class other than the two of EMERGENCY (R41). -/
abbrev Sys2Proof.Claims.QueueRefuses (s : State) : Prop :=
  20 ≤ s.tx.queue.length ∨ 18 ≤ (s.tx.queue.filter fun e => !e.isEmergency).length

/-- OFFER: a known id is ignored, and so is a new one that finds no place in the table, which is counted (R62); an offer the cab may
not bid for is listed INELIGIBLE with the first reason of R64; another is bid for, or MISSED where the queue refuses its BID (R66,
R67). That a fare estimate may be any 3-byte number is the model's choice (log 72). -/
def Obligations.OfferIsListedAndBidFor : Prop :=
  ∀ (f : RxFrame) (p : OfferFields) (s : State), Accepted .offer f s → parseOffer f.payload = some p →
    ((∃ e ∈ s.offers.table, e.id = ⟨f.source, p.number⟩) → Completes (.offer f) s fun t =>
        t.link = afterFrame f s ∧ OnlyTouches [.link] s t)
      ∧ ((∀ e ∈ s.offers.table, e.id ≠ ⟨f.source, p.number⟩ ∧ e.state ∉ finalStates) → 8 ≤ s.offers.table.length →
          Completes (.offer f) s fun t =>
            t.link = afterFrame f s ∧ t.offers = { s.offers with overflow := min 255 (s.offers.overflow + 1) }
              ∧ OnlyTouches [.link, .offers] s t)
      ∧ ∀ rest : List OfferEntry, (∀ e ∈ s.offers.table, e.id ≠ ⟨f.source, p.number⟩) → RoomIn rest s →
        (∀ r : OfferReason, whyNot p s = some r → Completes (.offer f) s fun t =>
            (∃ e : OfferEntry, t.offers = { s.offers with table := rest ++ [e] }
              ∧ e.id = ⟨f.source, p.number⟩ ∧ e.state = .ineligible ∧ e.reason = some r
              ∧ e.zone = some p.zone ∧ e.pickup = some p.pickup ∧ e.arrival = s.port.clock ∧ e.bidFrame = none)
            ∧ OnlyTouches [.link, .offers, .msg] s t ∧ t.msg.queue = s.msg.queue)
          ∧ ∀ own : Cell, whyNot p s = none → s.offers.cell = some own →
            let rank := rankOf own p.pickup s.link.state s.offers.idleMinutes
            let slot := rank * (p.window - 1) / 255
            (ReplyJoinsQuietly s → Completes (.offer f) s fun t =>
                (∃ e : OfferEntry, t.offers = { s.offers with table := rest ++ [e] }
                  ∧ e.id = ⟨f.source, p.number⟩ ∧ e.state = .bidWait ∧ e.rank = some rank ∧ e.bidSlot = some slot
                  ∧ e.window = some p.window ∧ e.bidFrame = some ⟨s.nextUid, none⟩)
                ∧ (∃ b : PendEntry, t.tx = { s.tx with queue := s.tx.queue ++ [b] } ∧ b.uid = s.nextUid ∧ b.cls = .bid
                  ∧ b.payload = .bid ⟨f.source, p.number⟩ rank own ∧ b.dest = f.source
                  ∧ b.bidWindow = some (slot, p.window) ∧ b.state = .waiting)
                ∧ t.port = (raise .offerHeard (.offer ⟨f.source, p.number⟩) s).port
                ∧ OnlyTouches [.link, .tx, .offers, .msg, .port] s t ∧ t.msg.queue = s.msg.queue)
              ∧ (QueueRefuses s → Completes (.offer f) s fun t =>
                (∃ e : OfferEntry, t.offers = { s.offers with table := rest ++ [e] }
                  ∧ e.id = ⟨f.source, p.number⟩ ∧ e.state = .missed ∧ e.reason = none ∧ e.rank = some rank
                  ∧ e.bidSlot = some slot ∧ e.bidFrame = none)
                ∧ t.port = (raise .offerChanged (.offer ⟨f.source, p.number⟩) s).port
                ∧ OnlyTouches [.link, .offers, .msg, .port] s t ∧ t.msg.queue = s.msg.queue)

/-- BID of another cab: a better one takes the own waiting BID back and suppresses the entry, another is noted (R69). -/
def Obligations.BetterBidSuppressesTheOwn : Prop :=
  ∀ (f : RxFrame) (p : BidFields) (e : OfferEntry) (own uid : Nat) (b : PendEntry) (s : State), Accepted .bid f s →
    parseBid f.payload = some p → Listed e s → e.id = p.id → e.state = .bidWait → e.rank = some own →
    e.bidFrame = some ⟨uid, none⟩ → e.replyFrame = none → OwnsFrame e uid s → findEntry uid s = some b → b.uid = uid →
    b.owner = .offerEngine → b.state = .waiting →
    (p.rank < own ∨ (p.rank = own ∧ f.source < s.link.station.getD 0) → Completes (.bid f) s fun t =>
        { e with
          state := .suppressed, reason := none, bidFrame := none, awardTimer := none, acceptTimer := none,
          bestRank := some (e.bestRank.elim p.rank fun r => min r p.rank) } ∈ t.offers.table
          ∧ t.tx = { s.tx with queue := s.tx.queue.filter fun a => a.uid != uid }
          ∧ OnlyTouches [.link, .tx, .offers, .msg, .port] s t ∧ t.msg.queue = s.msg.queue)
      ∧ (own < p.rank ∨ (p.rank = own ∧ s.link.station.getD 0 ≤ f.source) → Completes (.bid f) s fun t =>
        (∃ a ∈ t.offers.table, a.id = e.id ∧ a.state = .bidWait ∧ a.bidFrame = e.bidFrame
          ∧ a.bestRank = some (e.bestRank.elim p.rank fun r => min r p.rank))
          ∧ OnlyTouches [.link, .offers, .msg] s t ∧ t.msg.queue = s.msg.queue)

/-- AWARD naming this station for an entry in BID_SENT, AWARD naming another, and WITHDRAW (R72, R73, R80). -/
def Sys2Proof.Claims.AwardAndWithdrawOfAnOffer : Prop :=
  (∀ (f : RxFrame) (p : AwardFields) (e : OfferEntry) (s : State), Accepted .award f s →
      parseAward f.payload = some p → Listed e s → e.id = p.id →
      (s.link.station = some p.winner → e.state = .bidSent → s.offers.heldJob = none →
        Completes (.award f) s fun t =>
          t.offers = { s.offers with
              table := s.offers.table.map fun a =>
                if a.id = e.id then
                  { e with state := .awarded, reason := none, awardTimer := none,
                           jobText := if p.jobText.isSome then p.jobText else e.jobText,
                           acceptTimer := some s.offers.acceptTimeout }
                else a
              heldJob := some e.id }
            ∧ t.msg.shown = 1
            ∧ t.port = (raise .jobAwarded (.offer e.id) (raise .offerChanged (.offer e.id) s)).port
            ∧ OnlyTouches [.link, .offers, .msg, .port] s t)
      ∧ (s.link.station ≠ some p.winner → s.link.station ≠ none → e.state = .bidSent → e.bidFrame = none →
          e.replyFrame = none → s.offers.heldJob ≠ some e.id → Completes (.award f) s fun t =>
          t.offers = { s.offers with
              table := s.offers.table.map fun a =>
                if a.id = e.id then { e with state := .lost, reason := none, awardTimer := none, acceptTimer := none }
                else a }
            ∧ t.port = (raise .offerChanged (.offer e.id) s).port
            ∧ OnlyTouches [.link, .offers, .msg, .port] s t ∧ t.msg.queue = s.msg.queue))
    ∧ ∀ (f : RxFrame) (id : OfferId) (s : State), Accepted .withdraw f s → parseOfferId f.payload = some id →
      (∀ e : OfferEntry, Listed e s → e.id = id → e.state = .awarded → s.offers.heldJob = some id →
          e.bidFrame = none → e.replyFrame = none → Completes (.withdraw f) s fun t =>
            t.offers = { s.offers with
                table := s.offers.table.map fun a =>
                  if a.id = id then { e with state := .withdrawn, reason := none, awardTimer := none, acceptTimer := none }
                  else a
                heldJob := none }
              ∧ t.port = (raise .offerChanged (.offer id) s).port
              ∧ OnlyTouches [.link, .offers, .msg, .port] s t ∧ t.msg.queue = s.msg.queue)
        ∧ ((∀ e ∈ s.offers.table, e.id ≠ id) → Completes (.withdraw f) s fun t =>
            t.link = afterFrame f s ∧ OnlyTouches [.link] s t)

/-- The reason with which a direct assignment is refused, none for an eligible cab: R64 in its order without the driver's
availability and the position, and with the vehicle need where one is known (R74). -/
def Sys2Proof.Claims.refusalOf (need : Option VehicleNeed) (s : State) : Option RefuseReason :=
  if s.fare.meter ≠ .vacant then some .busy
  else if s.emerg.alarm ≠ .quiet ∨ s.link.state = .silent ∨ s.link.state = .recovering then some .unavailable
  else if s.offers.heldJob.isSome = true then some .busy
  else if need.any (fun v => decide (v ∉ s.offers.capability)) = true then some .unavailable
  else none

/-- The entry that an AWARD makes, in the state it is given: what only an OFFER gives is absent (R60, R74). -/
def Sys2Proof.Claims.madeByAward (id : OfferId) (st : OfferState) (s : State) : OfferEntry :=
  { id := id, zone := none, pickup := none, need := none, window := none, fareEstimate := none, pickupText := none,
    jobText := none, arrival := s.port.clock, state := st, reason := none, rank := none, bidSlot := none, bestRank := none,
    awardTimer := none, acceptTimer := none, bidFrame := none, replyFrame := none, lastReply := none, linkedTrip := none }

/-- An entry as a direct assignment reuses it, a final one with the fields of R74 cleared. -/
def Sys2Proof.Claims.reused (e : OfferEntry) : OfferEntry :=
  if e.state ∈ finalStates then
    { e with
      reason := none, rank := none, bidSlot := none, awardTimer := none, acceptTimer := none, bestRank := none,
      jobText := none, lastReply := none, linkedTrip := none, bidFrame := none, replyFrame := none }
  else e

/-- An AWARD naming this station that is a direct assignment (R74), parsed. -/
abbrev Sys2Proof.Claims.AwardsUs (f : RxFrame) (p : AwardFields) (s : State) : Prop :=
  Accepted .award f s ∧ parseAward f.payload = some p ∧ s.link.station = some p.winner

/-- The job page is shown and the two notices of an award are raised, in the model's order (R72, log 37). -/
abbrev Sys2Proof.Claims.AwardShown (id : OfferId) (s t : State) : Prop :=
  t.msg.shown = 1 ∧ t.port = (raise .jobAwarded (.offer id) (raise .offerChanged (.offer id) s)).port

/-- The BID of an entry waits, and the entry alone names it. -/
abbrev Sys2Proof.Claims.BidWaits (e : OfferEntry) (b : PendEntry) (s : State) : Prop :=
  e.state = .bidWait ∧ (∃ r, e.bidFrame = some ⟨b.uid, r⟩) ∧ e.replyFrame = none ∧ OwnsFrame e b.uid s
    ∧ findEntry b.uid s = some b ∧ b.owner = .offerEngine ∧ b.state = .waiting

/-- A direct assignment to an eligible cab: a new entry, one in a final state or one in BID_WAIT, whose BID is taken back, becomes
AWARDED (R74). -/
def Sys2Proof.Claims.DirectAssignmentIsTaken : Prop :=
  ∀ (f : RxFrame) (p : AwardFields) (s : State), AwardsUs f p s →
    (∀ rest : List OfferEntry, (∀ e ∈ s.offers.table, e.id ≠ p.id) → RoomIn rest s → refusalOf none s = none →
        Completes (.award f) s fun t =>
          t.offers = { s.offers with
              table := rest ++
                [{ madeByAward p.id .awarded s with jobText := p.jobText, acceptTimer := some s.offers.acceptTimeout }]
              heldJob := some p.id }
            ∧ AwardShown p.id s t ∧ OnlyTouches [.link, .offers, .msg, .port] s t)
      ∧ (∀ e : OfferEntry, Listed e s → e.id = p.id → e.state ∈ finalStates → refusalOf e.need s = none →
          Completes (.award f) s fun t =>
          t.offers = { s.offers with
              table := tableWith e
                { reused e with
                  state := .awarded, jobText := p.jobText, acceptTimer := some s.offers.acceptTimeout } s
              heldJob := some p.id }
            ∧ AwardShown p.id s t ∧ OnlyTouches [.link, .offers, .msg, .port] s t)
      ∧ ∀ (e : OfferEntry) (b : PendEntry), Listed e s → e.id = p.id → BidWaits e b s → refusalOf e.need s = none →
          Completes (.award f) s fun t =>
          t.offers = { s.offers with
              table := tableWith e
                { e with
                  state := .awarded, reason := none, jobText := if p.jobText.isSome then p.jobText else e.jobText,
                  awardTimer := none, acceptTimer := some s.offers.acceptTimeout, bidFrame := none } s
              heldJob := some p.id }
            ∧ t.tx = { s.tx with queue := s.tx.queue.filter fun a => a.uid != b.uid }
            ∧ AwardShown p.id s t ∧ OnlyTouches [.link, .tx, .offers, .msg, .port] s t

/-- A direct assignment to a cab that is not eligible: the entry is REFUSED with the reason, and a REFUSE is offered, which joins or
finds the queue full; with no place for a new entry the REFUSE is BUSY and the overflow count rises (R42, R74). That the job text
of a refused AWARD is not stored is the model's choice (log 39). -/
def Sys2Proof.Claims.DirectAssignmentIsRefused : Prop :=
  ∀ (f : RxFrame) (p : AwardFields) (r : RefuseReason) (s : State), AwardsUs f p s →
    let said := fun e : OfferEntry => if e.state = .refused then s.port else (raise .offerChanged (.offer p.id) s).port
    (∀ rest : List OfferEntry, (∀ e ∈ s.offers.table, e.id ≠ p.id) → RoomIn rest s → refusalOf none s = some r →
        s.offers.heldJob ≠ some p.id → ReplyJoinsQuietly s → Completes (.award f) s fun t =>
          t.offers = { s.offers with
              table := rest ++
                [{ madeByAward p.id .refused s with
                    reason := some (.refusal r), replyFrame := some ⟨s.nextUid, none⟩ }] }
            ∧ ReplyJoined (.refuse p.id r) p.id.base s t ∧ t.port = (raise .offerChanged (.offer p.id) s).port
            ∧ OnlyTouches [.link, .tx, .offers, .msg, .port] s t ∧ t.msg.queue = s.msg.queue)
      ∧ (∀ e : OfferEntry, Listed e s → e.id = p.id → e.state ∈ finalStates ∨ e.state = .bidSent →
          s.offers.heldJob ≠ some e.id → refusalOf e.need s = some r →
          (ReplyJoinsQuietly s → (e.state = .bidSent → s.offers.heldJob ≠ none) → Completes (.award f) s fun t =>
              t.offers = { s.offers with
                  table := tableWith e
                    { reused e with
                      state := .refused, reason := some (.refusal r), awardTimer := none, acceptTimer := none,
                      replyFrame := some ⟨s.nextUid, none⟩ } s }
                ∧ ReplyJoined (.refuse p.id r) p.id.base s t ∧ t.port = said e
                ∧ OnlyTouches [.link, .tx, .offers, .msg, .port] s t ∧ t.msg.queue = s.msg.queue)
            ∧ (20 ≤ s.tx.queue.length → (e.state = .bidSent → s.offers.heldJob ≠ none) → Completes (.award f) s fun t =>
              t.offers = { s.offers with
                  table := tableWith e
                    { reused e with
                      state := .refused, reason := some (.refusal r), awardTimer := none, acceptTimer := none } s }
                ∧ t.port = said e ∧ OnlyTouches [.link, .offers, .msg, .port] s t ∧ t.msg.queue = s.msg.queue))
      ∧ (∀ (e : OfferEntry) (b : PendEntry), Listed e s → e.id = p.id → BidWaits e b s → refusalOf e.need s = some r →
          s.offers.heldJob ≠ some e.id → b.uid ≠ s.nextUid → ReplyJoinsQuietly s → Completes (.award f) s fun t =>
          let u := { s with tx := { s.tx with queue := s.tx.queue.filter fun a => a.uid != b.uid } }
          t.offers = { s.offers with
              table := tableWith e
                { e with
                  state := .refused, reason := some (.refusal r), awardTimer := none, acceptTimer := none, bidFrame := none,
                  replyFrame := some ⟨s.nextUid, none⟩ } s }
            ∧ ReplyJoined (.refuse p.id r) p.id.base u t ∧ t.port = (raise .offerChanged (.offer p.id) s).port
            ∧ OnlyTouches [.link, .tx, .offers, .msg, .port] s t ∧ t.msg.queue = s.msg.queue)
      ∧ ((∀ e ∈ s.offers.table, e.id ≠ p.id ∧ e.state ∉ finalStates) → 8 ≤ s.offers.table.length → ReplyJoinsQuietly s →
          Completes (.award f) s fun t =>
          t.offers = { s.offers with overflow := min 255 (s.offers.overflow + 1) }
            ∧ ReplyJoined (.refuse p.id .busy) p.id.base s t ∧ OnlyTouches [.link, .tx, .offers] s t)

/-- An AWARD naming another station makes the entry LOST, a WITHDRAW makes it WITHDRAWN (R73, R80). -/
def Sys2Proof.Claims.TakesAway (k : FrameKind) (f : RxFrame) (id : OfferId) (st : OfferState) (s : State) : Prop :=
  (k = .award ∧ st = .lost ∧ s.link.station ≠ none
      ∧ ∃ p : AwardFields, parseAward f.payload = some p ∧ p.id = id ∧ s.link.station ≠ some p.winner)
    ∨ (k = .withdraw ∧ st = .withdrawn ∧ parseOfferId f.payload = some id)

/-- The frame is heard to its end while the decision of the attempt of `b`, the only entry in the queue, waits for that end
(R12). -/
abbrev Sys2Proof.Claims.HeardWhileDeciding (k : FrameKind) (f : RxFrame) (b : PendEntry) (s : State) : Prop :=
  Up s ∧ s.link.keyed = false ∧ s.link.carrier = true ∧ s.link.carrierInAckGap = true ∧ s.link.decisionWaits = true
    ∧ s.link.lackHeard = false ∧ s.link.gap = none ∧ s.link.side = .ackWait ∧ s.tx.queue = [b] ∧ b.state = .awaitLack
    ∧ PassesScreens k f s ∧ HeaderInRange k f ∧ Steady s.link.sfc (s.link.hfc - 1) s.link.state
    ∧ Steady (min 256 (s.link.sfc + 8)) (s.link.hfc - 1) s.link.state

/-- The entry that an AWARD or a WITHDRAW took away, and the held-job reference without it. -/
def Sys2Proof.Claims.offersWithout (e e' : OfferEntry) (s : State) : Offers :=
  { s.offers with
    table := tableWith e { e' with reason := none, awardTimer := none, acceptTimer := none } s
    heldJob := if s.offers.heldJob = some e.id then none else s.offers.heldJob }

/-- What an AWARD naming another station and a WITHDRAW do with the queued frames of the entry: a BID, an ACCEPT or a REFUSE that is
not on the air is taken back with RETRACTED; one that awaits its LACK ends its attempt first, and its result moves no state (R51,
R70, R73, R80). An entry in a final state stays, and so does the table for an offer with no entry. -/
def Sys2Proof.Claims.QueuedFramesAreTakenBack : Prop :=
  ∀ (k : FrameKind) (f : RxFrame) (id : OfferId) (st : OfferState) (s : State), TakesAway k f id st s →
    (∀ (e : OfferEntry) (b : PendEntry) (r : Option RetractReason), Listed e s → e.id = id → e.state ∉ finalStates →
        OwnsFrame e b.uid s → b.owner = .offerEngine →
        (Accepted k f s → findEntry b.uid s = some b → b.state = .waiting ∨ b.state = .deferring →
            (e.bidFrame = some ⟨b.uid, r⟩ → e.replyFrame = none → Completes (frameCommand k f) s fun t =>
                t.offers = offersWithout e { e with state := st, bidFrame := none } s
                  ∧ t.tx = { s.tx with queue := s.tx.queue.filter fun a => a.uid != b.uid }
                  ∧ t.port = (raise .offerChanged (.offer id) s).port
                  ∧ OnlyTouches [.link, .tx, .offers, .msg, .port] s t ∧ t.msg.queue = s.msg.queue)
              ∧ (e.bidFrame = none → e.replyFrame = some ⟨b.uid, r⟩ → Completes (frameCommand k f) s fun t =>
                t.offers = offersWithout e { e with state := st, replyFrame := none, lastReply := some .retracted } s
                  ∧ t.tx = { s.tx with queue := s.tx.queue.filter fun a => a.uid != b.uid }
                  ∧ t.port = (raise .offerChanged (.offer id) s).port
                  ∧ OnlyTouches [.link, .tx, .offers, .msg, .port] s t ∧ t.msg.queue = s.msg.queue))
          ∧ (HeardWhileDeciding k f b s →
            (e.bidFrame = some ⟨b.uid, r⟩ → e.replyFrame = none → Completes (frameCommand k f) s fun t =>
                t.offers = offersWithout e { e with state := st, bidFrame := none } s ∧ t.tx.queue = []
                  ∧ t.link.sfc = min 256 (s.link.sfc + 8) ∧ t.link.lastFault = .noLack ∧ t.link.side = .idle
                  ∧ t.port = (raise .offerChanged (.offer id) s).port
                  ∧ OnlyTouches [.link, .tx, .offers, .msg, .port] s t ∧ t.msg.queue = s.msg.queue)
              ∧ (e.bidFrame = none → e.replyFrame = some ⟨b.uid, r⟩ → Completes (frameCommand k f) s fun t =>
                t.offers = offersWithout e { e with state := st, replyFrame := none, lastReply := some .noLack } s
                  ∧ t.tx.queue = [] ∧ t.link.sfc = min 256 (s.link.sfc + 8) ∧ t.link.lastFault = .noLack
                  ∧ t.link.side = .idle ∧ t.port = (raise .offerChanged (.offer id) s).port
                  ∧ OnlyTouches [.link, .tx, .offers, .msg, .port] s t ∧ t.msg.queue = s.msg.queue)))
      ∧ (Accepted k f s → (∀ e ∈ s.offers.table, e.id = id → e.state ∈ finalStates) →
          Completes (frameCommand k f) s fun t => t.link = afterFrame f s ∧ OnlyTouches [.link] s t)

/-- A repeat of the own award replaces the job text it carries and moves no state (R72). -/
def Sys2Proof.Claims.RepeatedAwardReplacesTheText : Prop :=
  ∀ (f : RxFrame) (p : AwardFields) (e : OfferEntry) (s : State), AwardsUs f p s → Listed e s → e.id = p.id →
    e.state = .awarded ∨ e.state = .accepting ∨ e.state = .held ∨ e.state = .heldUnconfirmed →
    s.offers.heldJob = some e.id → e.awardTimer = none → (e.state ≠ .awarded → e.acceptTimer = none) →
    Completes (.award f) s fun t =>
      t.offers = { s.offers with
          table := tableWith e { e with jobText := if p.jobText.isSome then p.jobText else e.jobText } s }
        ∧ OnlyTouches [.link, .offers, .msg] s t ∧ t.msg.queue = s.msg.queue

/-- AWARD and WITHDRAW: an award of the own bid and its repeat (R72), and an entry taken away (R73, R80). That OFFER_CHANGED is
raised before JOB_AWARDED is the model's choice (log 37). -/
def Obligations.AwardAndWithdrawDecideTheOffer : Prop := AwardAndWithdrawOfAnOffer ∧ RepeatedAwardReplacesTheText

/-- A direct assignment taken or refused (R74), and the queued frames of an entry that is taken away (R70, R73, R80). That
OFFER_CHANGED is raised before JOB_AWARDED is the model's choice (log 37), and so is that a refused AWARD stores no job text (log
39); that an entry made and decided on one event raises OFFER_CHANGED (log 22), and that no LACK is keyed for a frame heard while
a decision waits (log 9), are its readings. -/
def Obligations.DirectAssignmentsAndFramesTakenBack : Prop :=
  DirectAssignmentIsTaken ∧ DirectAssignmentIsRefused ∧ QueuedFramesAreTakenBack

/-- The LACK of a heard frame is on the air, at the start of the ack gap (R4, R5, R14). -/
def Sys2Proof.Claims.LackKeyed (f : RxFrame) (s t : State) : Prop :=
  t.link = { afterFrame f s with
    side := .lacking, keyed := true, keyFault := false, txSlots := 3,
    txFrame := encodeFrame .lack ⟨s.link.fleet.getD 0, s.link.station.getD 0, f.source, f.seq, 0, false, false,
      [byteOf f.seq]⟩ }

/-- A LACK is owed for a frame to this station that asks for one, and can be keyed. -/
abbrev Sys2Proof.Claims.LackCanFollow (f : RxFrame) (s : State) : Prop :=
  f.needsLack = true ∧ s.link.station = some f.dest ∧ s.link.side = .idle ∧ s.link.state ≠ .silent
    ∧ s.link.state ≠ .recovering

/-- MESSAGE to this station: a new one is stored and acknowledged, a repeated one is acknowledged alone, one that finds the
queue full of unread text is refused without a LACK (R149 to R151, R14). -/
def Sys2Proof.Claims.MessageIsStoredOrRefused : Prop :=
  ∀ (f : RxFrame) (p : MessageFields) (s : State), Accepted .message f s → parseMessage f.payload = some p →
    LackCanFollow f s →
    ((∀ m ∈ s.msg.queue, m.pair ≠ ⟨f.source, p.number⟩) → ⟨f.source, p.number⟩ ∉ s.msg.recent →
        s.msg.queue.length < 12 → p.kind ≠ .priorityText → s.msg.shown = 0 → Completes (.message f) s fun t =>
        LackKeyed f s t
          ∧ (∃ m : Message, t.msg.queue = s.msg.queue ++ [m] ∧ m.pair = ⟨f.source, p.number⟩ ∧ m.kind = p.kind
            ∧ m.text = p.text ∧ m.replies = p.replies ∧ m.state = .new ∧ m.receipt = none
            ∧ m.lifetime = (if p.lifetime = 0 then none else some (60 * p.lifetime)) ∧ m.arrival = s.port.clock)
          ∧ ⟨f.source, p.number⟩ ∈ t.msg.recent ∧ t.msg.shown = 0
          ∧ t.port = (raise .messageNew (.message ⟨f.source, p.number⟩) s).port
          ∧ OnlyTouches [.link, .msg, .port] s t)
      ∧ (⟨f.source, p.number⟩ ∈ s.msg.recent → Completes (.message f) s fun t =>
        LackKeyed f s t ∧ OnlyTouches [.link] s t)
      ∧ ((∀ m ∈ s.msg.queue, m.pair ≠ ⟨f.source, p.number⟩ ∧ m.state = .new) → ⟨f.source, p.number⟩ ∉ s.msg.recent →
          12 ≤ s.msg.queue.length → Completes (.message f) s fun t =>
        t.link = afterFrame f s ∧ t.msg = { s.msg with refusals := min 65535 (s.msg.refusals + 1), bus := t.msg.bus }
          ∧ OnlyTouches [.link, .msg] s t)

/-- The message that a full queue evicts: the oldest of those READ, REPLIED or EXPIRED, otherwise the oldest SHOWN TEXT
(R150). -/
def Sys2Proof.Claims.Evicted (v : Message) (q : List Message) : Prop :=
  let settled := fun m : Message => m.state = .read ∨ m.state = .replied ∨ m.state = .expired
  let seen := fun m : Message => m.kind = .text ∧ m.state = .shown
  ∃ before after : List Message, q = before ++ v :: after
    ∧ ((settled v ∧ ∀ a ∈ before, ¬ settled a) ∨ ((∀ a ∈ q, ¬ settled a) ∧ seen v ∧ ∀ a ∈ before, ¬ seen a))

/-- The message a frame brings (R148, R150). -/
def Sys2Proof.Claims.newMessage (f : RxFrame) (p : MessageFields) (state : MsgState) (s : State) : Message :=
  { pair := ⟨f.source, p.number⟩, kind := p.kind, fleet := f.fleet, text := p.text, replies := p.replies,
    lifetime := if p.lifetime = 0 then none else some (60 * p.lifetime), arrival := s.port.clock, state := state,
    replyChosen := none, receipt := none }

/-- MESSAGE with a PRIORITY_TEXT, which makes page 2 the shown page, and MESSAGE that finds the queue full with a message it may
evict; a receipt that the evicted one owed is lost and counted (R150, R155, R158 to R160). -/
def Sys2Proof.Claims.PriorityAndEviction : Prop :=
  ∀ (f : RxFrame) (p : MessageFields) (s : State), Accepted .message f s → parseMessage f.payload = some p →
    LackCanFollow f s → (∀ m ∈ s.msg.queue, m.pair ≠ ⟨f.source, p.number⟩) → ⟨f.source, p.number⟩ ∉ s.msg.recent →
    (p.kind = .priorityText → s.msg.queue.length < 12 → Completes (.message f) s fun t =>
        LackKeyed f s t ∧ t.msg.shown = 2 ∧ t.msg.queue = s.msg.queue ++ [newMessage f p .shown s]
          ∧ t.port = (raise .messageNew (.message ⟨f.source, p.number⟩) s).port ∧ OnlyTouches [.link, .msg, .port] s t)
      ∧ ∀ v : Message, 12 ≤ s.msg.queue.length → (s.msg.queue.map (·.pair)).Nodup → Evicted v s.msg.queue →
        (p.kind ≠ .priorityText → s.msg.shown = 0 → Completes (.message f) s fun t =>
            LackKeyed f s t
              ∧ t.msg.queue = (s.msg.queue.filter fun m => m.pair != v.pair) ++ [newMessage f p .new s]
              ∧ t.msg.receiptLost = (if v.receipt = some (.owed .read) ∨ v.receipt = some (.owed .reply) then
                  min 65535 (s.msg.receiptLost + 1) else s.msg.receiptLost)
              ∧ t.msg.refusals = s.msg.refusals
              ∧ t.port = (raise .messageNew (.message ⟨f.source, p.number⟩) s).port ∧ OnlyTouches [.link, .msg, .port] s t)
          ∧ (p.kind = .priorityText → Completes (.message f) s fun t =>
            LackKeyed f s t ∧ t.msg.shown = 2
              ∧ t.msg.queue = (s.msg.queue.filter fun m => m.pair != v.pair) ++ [newMessage f p .shown s]
              ∧ OnlyTouches [.link, .msg, .port] s t)

/-- MESSAGE to this station is stored once, acknowledged or refused; a PRIORITY_TEXT shows page 2, and a full queue evicts what it
may (R14, R149 to R151, R155, R158 to R160). That page 2 is shown before the pages are composed (log 59), and that they are composed
once where an entry is evicted (log 67), are the model's choices. -/
def Obligations.MessageIsStoredOnce : Prop := MessageIsStoredOrRefused ∧ PriorityAndEviction

/-- EMERGENCY of another origin, first heard, with hops left in ACTIVE: an entry is made and a relay joins (R179, R180). The
own call heard back is not taken (R174). -/
def Sys2Proof.Claims.EmergencyIsRelayed : Prop :=
  ∀ (f : RxFrame) (p : EmergencyFields) (s : State), Accepted .emergency f s → parseEmergency f.payload = some p →
    (p.alarm.origin = s.link.station.getD 0 → Completes (.emergency f) s fun t =>
        t.link = afterFrame f s ∧ OnlyTouches [.link] s t)
      ∧ (p.alarm.origin ≠ s.link.station.getD 0 → (∀ e ∈ s.emerg.relays, e.id ≠ p.alarm) → s.emerg.relays.length < 16 →
          0 < f.hop → s.link.state = .active → s.tx.queue.length < 20 → s.link.side = .idle →
          Completes (.emergency f) s fun t =>
            (∃ e : RelayEntry, t.emerg.relays = s.emerg.relays ++ [e] ∧ e.id = p.alarm ∧ e.highest = some p.repeatSeq
              ∧ e.lastPhase = some p.phase ∧ e.lastCell = some p.cell ∧ e.lastHeard = s.elapsed
              ∧ e.pending = some ⟨s.nextUid, p.repeatSeq, none, s.elapsed⟩)
            ∧ (∃ b : PendEntry, t.tx = { s.tx with queue := s.tx.queue ++ [b] } ∧ b.uid = s.nextUid
              ∧ b.cls = .emergencyRelay ∧ b.payload = .emergency p.alarm p.repeatSeq p.phase p.cell
              ∧ b.dest = 0xFFFF ∧ b.fleet = 0 ∧ b.hop = f.hop - 1 ∧ b.relayed = true)
            ∧ t.emerg.alarm = s.emerg.alarm ∧ t.emerg.number = s.emerg.number
            ∧ t.port = (raise .otherAlarm (.alarm p.alarm) s).port
            ∧ OnlyTouches [.link, .tx, .emerg, .port] s t)

/-- EMERGENCY_ACK of the own open call acknowledges it and shows the marker; of another origin's it is relayed once (R174,
R181, R184). -/
def Sys2Proof.Claims.AcknowledgementIsTaken : Prop :=
  ∀ (f : RxFrame) (id : AlarmId) (s : State), Accepted .emergencyAck f s → parseEmergencyAck f.payload = some id →
    (s.link.station = some id.origin → s.emerg.number = some id.alarm → s.emerg.alarm = .open →
        Completes (.emergencyAck f) s fun t =>
          t.emerg.alarm = .acknowledged ∧ t.emerg.ackHeard = true ∧ t.emerg.repeatTimer = some 15
            ∧ t.emerg.markerShown = true ∧ t.emerg.markerTimer = some 10 ∧ t.emerg.number = s.emerg.number
            ∧ t.emerg.relays = s.emerg.relays ∧ t.emerg.openRecord = s.emerg.openRecord
            ∧ (DisplayShape s → charOf 0 0 19 t = some (byteOf s.emerg.marker))
            ∧ t.port = (raise .alarmState .ownAlarm s).port ∧ t.msg.queue = s.msg.queue
            ∧ OnlyTouches [.link, .msg, .emerg, .port] s t)
      ∧ (s.link.station = some id.origin → s.emerg.number ≠ some id.alarm → Completes (.emergencyAck f) s fun t =>
          t.link = afterFrame f s ∧ OnlyTouches [.link] s t)
      ∧ (id.origin ≠ s.link.station.getD 0 → (∀ e ∈ s.emerg.relays, e.id ≠ id) → s.emerg.relays.length < 16 →
          0 < f.hop → s.link.state = .active → s.tx.queue.length < 20 → s.link.side = .idle →
          Completes (.emergencyAck f) s fun t =>
            (∃ e : RelayEntry, t.emerg.relays = s.emerg.relays ++ [e] ∧ e.id = id ∧ e.lastHeard = s.elapsed
              ∧ e.ackRelay = .pending s.nextUid s.elapsed)
            ∧ (∃ b : PendEntry, t.tx = { s.tx with queue := s.tx.queue ++ [b] } ∧ b.uid = s.nextUid
              ∧ b.cls = .emergencyRelay ∧ b.payload = .emergencyAck id ∧ b.dest = 0xFFFF ∧ b.hop = f.hop - 1
              ∧ b.relayed = true)
            ∧ OnlyTouches [.link, .tx, .emerg, .port] s t)

/-- The entry of a pair stands once in the relay table. -/
abbrev Sys2Proof.Claims.InRelays (r : RelayEntry) (s : State) : Prop :=
  r ∈ s.emerg.relays ∧ ∀ a ∈ s.emerg.relays, a.id = r.id → a = r

/-- EMERGENCY of a pair already heard: a higher repeat sequence is relayed, one already relayed is not, and one whose relay
still waits takes that relay back (R179, R180, R182). -/
def Sys2Proof.Claims.KnownEmergencyIsRelayedOnce : Prop :=
  ∀ (f : RxFrame) (p : EmergencyFields) (r : RelayEntry) (s : State), Accepted .emergency f s →
    parseEmergency f.payload = some p → p.alarm.origin ≠ s.link.station.getD 0 → InRelays r s → r.id = p.alarm →
    f.needsLack = false →
    let heard : RelayEntry :=
      { r with
        lastHeard := s.elapsed, hearing := nextHearing s.emerg.relays, agedOut := false, lastPhase := some p.phase,
        lastCell := some p.cell }
    (r.pending = none → (∀ h : Nat, r.highest = some h → h < p.repeatSeq) → 0 < f.hop → s.link.state = .active →
        s.tx.queue.length < 20 → s.link.side = .idle → Completes (.emergency f) s fun t =>
          t.emerg.relays = s.emerg.relays.map (fun a => if a.id = r.id then
              { heard with pending := some ⟨s.nextUid, p.repeatSeq, r.highest, s.elapsed⟩, highest := some p.repeatSeq }
            else a)
            ∧ (∃ b : PendEntry, t.tx = { s.tx with queue := s.tx.queue ++ [b] } ∧ b.uid = s.nextUid
              ∧ b.cls = .emergencyRelay ∧ b.payload = .emergency p.alarm p.repeatSeq p.phase p.cell ∧ b.hop = f.hop - 1
              ∧ b.relayed = true)
            ∧ OnlyTouches [.link, .tx, .emerg] s t)
      ∧ (r.pending = none → (∃ h : Nat, r.highest = some h ∧ p.repeatSeq ≤ h) → Completes (.emergency f) s fun t =>
          t.link = afterFrame f s ∧ t.emerg.relays = s.emerg.relays.map (fun a => if a.id = r.id then heard else a)
            ∧ OnlyTouches [.link, .emerg] s t)
      ∧ ∀ (q : RelayPending) (b : PendEntry), r.pending = some q → findEntry q.uid s = some b →
        b.owner = .emergencyController → b.ref = .relay r.id → (∀ a ∈ s.emerg.relays, a.agedOut = false) →
        (q.repeatSeq = p.repeatSeq → b.state = .waiting → Completes (.emergency f) s fun t =>
            t.emerg.relays = s.emerg.relays.map (fun a => if a.id = r.id then { heard with pending := none } else a)
              ∧ t.tx = { s.tx with queue := s.tx.queue.filter fun a => a.uid != q.uid }
              ∧ OnlyTouches [.link, .tx, .emerg] s t)
          ∧ (q.repeatSeq = p.repeatSeq → b.state = .onAir → Completes (.emergency f) s fun t =>
            t.emerg.relays = s.emerg.relays.map (fun a => if a.id = r.id then heard else a)
              ∧ t.tx = { s.tx with queue := s.tx.queue.map fun a =>
                  if a.uid = q.uid then { a with state := .retractPending } else a }
              ∧ OnlyTouches [.link, .tx, .emerg] s t)
          ∧ (q.repeatSeq ≠ p.repeatSeq → Completes (.emergency f) s fun t =>
            t.emerg.relays = s.emerg.relays.map (fun a => if a.id = r.id then heard else a)
              ∧ OnlyTouches [.link, .emerg] s t)

/-- EMERGENCY_ACK of the own call in HELD, ACKNOWLEDGED and CLEARING, and of a pair whose ACK relay still waits (R174, R182,
R184). -/
def Sys2Proof.Claims.LaterAcknowledgementsAreTaken : Prop :=
  ∀ (f : RxFrame) (id : AlarmId) (s : State), Accepted .emergencyAck f s → parseEmergencyAck f.payload = some id →
    (s.link.station = some id.origin → s.emerg.number = some id.alarm →
        (s.emerg.alarm = .held ∨ s.emerg.alarm = .acknowledged → Completes (.emergencyAck f) s fun t =>
          t.emerg = { s.emerg with
              ackHeard := if s.emerg.alarm = .held then true else s.emerg.ackHeard, markerShown := true,
              markerTimer := some 10, lamp := t.emerg.lamp, lampOn := t.emerg.lampOn }
            ∧ (DisplayShape s → charOf 0 0 19 t = some (byteOf s.emerg.marker)) ∧ t.msg.queue = s.msg.queue
            ∧ OnlyTouches [.link, .msg, .emerg] s t)
          ∧ (s.emerg.alarm = .clearing → Completes (.emergencyAck f) s fun t =>
            t.link = afterFrame f s ∧ OnlyTouches [.link] s t))
      ∧ ∀ (r : RelayEntry) (b : PendEntry) (uid joined : Nat), id.origin ≠ s.link.station.getD 0 → InRelays r s →
        r.id = id → r.ackRelay = .pending uid joined → r.pending = none → findEntry uid s = some b →
        b.owner = .emergencyController → b.ref = .relay r.id → b.state = .waiting →
        (∀ a ∈ s.emerg.relays, a.agedOut = false) → Completes (.emergencyAck f) s fun t =>
          t.emerg.relays = s.emerg.relays.map (fun a => if a.id = r.id then
              { r with lastHeard := s.elapsed, hearing := nextHearing s.emerg.relays, ackRelay := .done }
            else a)
            ∧ t.tx = { s.tx with queue := s.tx.queue.filter fun a => a.uid != uid } ∧ OnlyTouches [.link, .tx, .emerg] s t

/-- The frame is an EMERGENCY or an EMERGENCY_ACK of the pair. -/
def Sys2Proof.Claims.IsOfPair (k : FrameKind) (f : RxFrame) (id : AlarmId) : Prop :=
  (k = .emergency ∧ ∃ p : EmergencyFields, parseEmergency f.payload = some p ∧ p.alarm = id)
    ∨ (k = .emergencyAck ∧ parseEmergencyAck f.payload = some id)

/-- A frame of a new pair while the relay table is full: the entry last heard before every other one is replaced, when that was more
than 30 s ago and no relay of it is pending; otherwise the frame is counted in the relay overflow (R179). That the moments are whole
seconds with an order of the hearings within each is the model's (log 20). -/
def Sys2Proof.Claims.FullRelayTableReplacesTheOldest : Prop :=
  ∀ (k : FrameKind) (f : RxFrame) (id : AlarmId) (r : RelayEntry) (s : State), IsOfPair k f id → Accepted k f s →
    id.origin ≠ s.link.station.getD 0 → (∀ a ∈ s.emerg.relays, a.id ≠ id) → 16 ≤ s.emerg.relays.length → InRelays r s →
    (∀ a ∈ s.emerg.relays, a ≠ r →
      r.lastHeard < a.lastHeard ∨ (r.lastHeard = a.lastHeard ∧ r.hearing < a.hearing)) →
    let quiet := r.pending = none ∧ (r.ackRelay = .no ∨ r.ackRelay = .done)
    (30 < s.elapsed - r.lastHeard → quiet → Completes (frameCommand k f) s fun t =>
        t.emerg.relays.map (·.id) = (s.emerg.relays.filter fun a => a.id != r.id).map (·.id) ++ [id]
          ∧ (∀ a ∈ s.emerg.relays, a.id ≠ r.id → a ∈ t.emerg.relays)
          ∧ t.port = (raise .otherAlarm (.alarm id) s).port ∧ OnlyTouches [.link, .tx, .emerg, .port] s t)
      ∧ (¬ (30 < s.elapsed - r.lastHeard ∧ quiet) → Completes (frameCommand k f) s fun t =>
        t.emerg = { s.emerg with
            relayOverflow := min 255 (s.emerg.relayOverflow + 1), lamp := t.emerg.lamp, lampOn := t.emerg.lampOn }
          ∧ t.link = afterFrame f s ∧ OnlyTouches [.link, .emerg] s t)

/-- An EMERGENCY of another origin is entered and relayed, each repeat once; an EMERGENCY_ACK acknowledges the own call or is
relayed; a relay that is heard from elsewhere is taken back (R174, R179 to R182, R184). That these moments are whole elapsed
seconds, and the mark agedOut of an entry, are the model's choice (log 20), and so is that a new entry stands last (log 68). -/
def Obligations.EmergencyFramesAreRelayedAndAcknowledged : Prop :=
  EmergencyIsRelayed ∧ AcknowledgementIsTaken ∧ KnownEmergencyIsRelayedOnce ∧ LaterAcknowledgementsAreTaken
    ∧ FullRelayTableReplacesTheOldest

/-- The entry a BEACON or TERMINAL_DATA frame makes (R32). -/
def Sys2Proof.Claims.receivedEntry (f : RxFrame) (p : RxPayload) (l : LackState) (s : State) : RxEntry :=
  ⟨f.source, f.dest, f.fleet, f.seq, s.port.clock, l, p⟩

/-- TERMINAL_DATA to this station by the acceptance list, in each mode of its queue, and with no LACK where it was refused
(R31, R33, R34, R14). -/
def Sys2Proof.Claims.TerminalDataFillsTheQueue : Prop :=
  ∀ (f : RxFrame) (s : State), Accepted .terminalData f s → 1 ≤ f.payload.length → f.payload.length ≤ 64 →
    LackCanFollow f s → s.rx.acceptance = [] → s.rx.defaultAction = .toOrdinary →
    (s.rx.ordinaryQueue.length < 24 → Completes (.terminalData f) s fun t =>
        LackKeyed f s t
          ∧ t.rx = { s.rx with
              ordinaryQueue := s.rx.ordinaryQueue ++ [receivedEntry f (.data f.payload) .sent s] }
          ∧ t.port = (raise .received (.queue .ordinary) s).port ∧ OnlyTouches [.link, .rx, .port] s t)
      ∧ (24 ≤ s.rx.ordinaryQueue.length → s.rx.ordinaryMode = .blocking → Completes (.terminalData f) s fun t =>
        t.link = afterFrame f s ∧ t.rx = { s.rx with ordinaryLost := min 255 (s.rx.ordinaryLost + 1) }
          ∧ OnlyTouches [.link, .rx] s t)
      ∧ (24 ≤ s.rx.ordinaryQueue.length → s.rx.ordinaryMode = .overwrite → Completes (.terminalData f) s fun t =>
        LackKeyed f s t
          ∧ t.rx = { s.rx with
              ordinaryQueue := s.rx.ordinaryQueue.drop 1 ++ [receivedEntry f (.data f.payload) .sent s]
              ordinaryLost := min 255 (s.rx.ordinaryLost + 1) }
          ∧ t.port = (raise .received (.queue .ordinary) s).port ∧ OnlyTouches [.link, .rx, .port] s t)

/-- BEACON by the first acceptance entry that matches: to the priority queue, or rejected (R31). -/
def Sys2Proof.Claims.BeaconFollowsTheAcceptanceList : Prop :=
  ∀ (f : RxFrame) (p : BeaconInfo) (a : AcceptEntry) (rest : List AcceptEntry) (s : State), Accepted .beacon f s →
    parseBeacon f.payload = some p → f.needsLack = false → s.rx.acceptance = a :: rest → a.beacon = true →
    a.lo ≤ f.source → f.source ≤ a.hi →
    (a.action = .toPriority → s.rx.priorityQueue.length < 8 → Completes (.beacon f) s fun t =>
        t.link = afterFrame f s
          ∧ t.rx = { s.rx with priorityQueue := s.rx.priorityQueue ++ [receivedEntry f (.beacon p) .notOwed s] }
          ∧ t.port = (raise .received (.queue .priority) s).port ∧ OnlyTouches [.link, .rx, .port] s t)
      ∧ (a.action = .reject → Completes (.beacon f) s fun t => t.link = afterFrame f s ∧ OnlyTouches [.link] s t)

/-- A LACK that is owed while a BID is held for its wait: the BID goes back to WAITING, eligible as it was, and the LACK is keyed;
its frame was stored with LACK state SENT. This is the model's reading of R8, R14, R32 and R43 (log 9). -/
def Sys2Proof.Claims.LackHandsAHeldBidBack : Prop :=
  ∀ (f : RxFrame) (s : State), Hears s → PassesScreens .terminalData f s → HeaderInRange .terminalData f →
    1 ≤ f.payload.length → f.payload.length ≤ 64 → f.needsLack = true → s.link.station = some f.dest →
    s.link.side = .deferring → s.link.state ≠ .silent → s.link.state ≠ .recovering → s.rx.acceptance = [] →
    s.rx.defaultAction = .toOrdinary → s.rx.ordinaryQueue.length < 24 → Completes (.terminalData f) s fun t =>
      LackKeyed f { s with link.deferral := none } t ∧ t.tx = { s.tx with queue := handedBack s.tx.queue }
        ∧ t.rx = { s.rx with ordinaryQueue := s.rx.ordinaryQueue ++ [receivedEntry f (.data f.payload) .sent s] }
        ∧ t.port = (raise .received (.queue .ordinary) s).port ∧ OnlyTouches [.link, .tx, .rx, .port] s t

/-- BEACON and TERMINAL_DATA frames go where the acceptance list sends them, by the mode of the queue (R30 to R34), and the LACK
of a stored one is sent (R14, R37), in the model's reading also while a BID is held (log 9). -/
def Obligations.HostFramesFillTheReceiveQueues : Prop :=
  TerminalDataFillsTheQueue ∧ BeaconFollowsTheAcceptanceList ∧ LackHandsAHeldBidBack

/-! ## Resets and the start-up scan (R22, R39, R59, R83, R110, R126, R142 to R147, R165, R186, R196, R199) -/

/-- Every block outside the store and the port is at its reset values; the link's carrier line is left to the channel. -/
def Sys2Proof.Claims.BlocksAtReset (t : State) : Prop :=
  { t.link with carrier := false } = Link.reset ∧ t.rx = .reset ∧ t.tx = .reset ∧ t.offers = .reset ∧ t.fare = .reset
    ∧ t.trips = .reset ∧ t.msg = .reset ∧ t.emerg = .reset ∧ t.store.queue = [] ∧ t.store.historyCarry = true
    ∧ t.store.dropped = 0

/-- What the rules give a reset, spelled out. -/
def Obligations.ResetValuesAreTheRules : Prop :=
  Link.reset.state = .active ∧ Link.reset.sfc = 0 ∧ Link.reset.hfc = 0 ∧ Link.reset.seqCounter = 0
    ∧ Link.reset.lastFault = .none ∧ Link.reset.side = .idle
    ∧ Rx.reset.zones = [] ∧ Rx.reset.acceptance = [] ∧ Rx.reset.defaultAction = .reject
    ∧ Rx.reset.priorityMode = .blocking ∧ Rx.reset.ordinaryMode = .blocking ∧ Rx.reset.malformed = 0
    ∧ Tx.reset.queue = [] ∧ Tx.reset.cycleTable = List.replicate 16 .none ∧ Tx.reset.tick = 10
    ∧ Tx.reset.cycleIndex = 0 ∧ Tx.reset.outcomes = []
    ∧ Offers.reset.table = [] ∧ Offers.reset.available = false ∧ Offers.reset.awardTimeout = 8
    ∧ Offers.reset.acceptTimeout = 15
    ∧ Fare.reset.meter = .vacant ∧ Fare.reset.trip = none ∧ Fare.reset.q = 0 ∧ Fare.reset.clockRunning = false
    ∧ Trips.reset.lastTrip = 0 ∧ Trips.reset.shift.isOpen = false ∧ Trips.reset.totals = .zero
    ∧ Msg.reset.queue = [] ∧ Msg.reset.shown = 0 ∧ Msg.reset.cursor = ⟨6, 0, 0⟩ ∧ Msg.reset.editMode = false
    ∧ Emerg.reset.alarm = .quiet ∧ Emerg.reset.holdTime = 20 ∧ Emerg.reset.marker = 0x2A ∧ Emerg.reset.lamp = .off
    ∧ Port.reset.part = .scanning ∧ Port.reset.requestCount = 0 ∧ Port.reset.notices = [] ∧ Port.reset.clock = 0
    ∧ State.reset.port = .reset ∧ State.reset.link = .reset ∧ BlocksAtReset State.reset ∧ State.reset.pending = []

/-- POWER_ON and RESET_PIN put every block at its reset values and SCANNING follows (R22, R39, R59, R83, R110, R147, R165, R186,
R199). That the input lines stand inactive at POWER_ON, that the scan waits for the release of the reset input, and that a
release with no reset asserted changes nothing are the model's choices (logs 17, 16, 1), and so are that RESET_PIN drops a switch
hold (log 60) and that until the scan's end the last alarm number reads 255 (log 62) and the last closed trip number 0 (log 48). -/
def Obligations.ResetsClearAndScan : Prop :=
  ∀ s : State,
    Completes .powerOn s (fun t =>
        BlocksAtReset t ∧ t.link = .reset ∧ t.port.part = .scanning ∧ t.port.inReset = false
          ∧ t.port.requestCount = 0 ∧ t.port.clock = 0 ∧ t.port.response = none ∧ t.store.supplyLow = false
          ∧ t.store.scan.isSome = true ∧ (∀ c ∈ t.store.sectors, c.fault = false) ∧ t.pending = s.pending)
      ∧ Completes .resetPin s (fun t =>
        BlocksAtReset t ∧ t.port = { Port.reset with inReset := true } ∧ t.link.carrier = s.link.carrier
          ∧ t.store.supplyLow = s.store.supplyLow ∧ t.store.activity = .idle
          ∧ t.store.sectors.map (·.fault) = s.store.sectors.map (·.fault) ∧ t.pending = s.pending)
      ∧ (s.port.inReset = true → Completes .resetPinRelease s fun t =>
        t.port.inReset = false ∧ t.port.part = s.port.part ∧ t.store.scan.isSome = true
          ∧ OnlyTouches [.store, .port] s t)
      ∧ (s.port.inReset = false → Completes .resetPinRelease s fun t => OnlyTouches [] s t)

/-- The newest record of a kind has these contents. -/
def Sys2Proof.Claims.NewestIs (p : Record → Bool) (body : RecordBody) (s : State) : Prop :=
  ∃ r : Record, newest p (allRecords s) = some r ∧ r.body = body

/-- The last trip number without an interrupted trip: that of the newer of the newest TOTALIZER and the newest SHIFT record, and 0
where neither is found (R126). -/
def Sys2Proof.Claims.LastTripRecorded (rs : List Record) (n : Nat) : Prop :=
  (∀ (r h : Record) (tt : Totals) (sh : Shift) (a b : Nat), newest Record.isTotalizer rs = some r → r.body = .totalizer tt a →
      newest Record.isShift rs = some h → h.body = .shift sh b → n = if r.writeNo < h.writeNo then b else a)
    ∧ (∀ (r : Record) (tt : Totals) (a : Nat), newest Record.isTotalizer rs = some r → r.body = .totalizer tt a →
        newest Record.isShift rs = none → n = a)
    ∧ (∀ (h : Record) (sh : Shift) (b : Nat), newest Record.isTotalizer rs = none → newest Record.isShift rs = some h →
        h.body = .shift sh b → n = b)
    ∧ (newest Record.isTotalizer rs = none → newest Record.isShift rs = none → n = 0)

/-- The last closed trip: that of the newest TRIP record, DELIVERED when an UPLOAD_DONE of its number follows it or its copy as
HISTORY, recorded UNSENT, stands for one, and otherwise as recorded (R126, R144). -/
def Sys2Proof.Claims.LastClosedRebuilt (rs : List Record) (last : Option TripRecord) : Prop :=
  (newest (fun r => r.trip?.isSome) rs = none → last = none)
    ∧ ∀ (r : Record) (x : TripRecord), newest (fun r => r.trip?.isSome) rs = some r → r.body = .trip x →
      let settled := (∃ u ∈ rs, u.body = .uploadDone x.number ∧ r.writeNo < u.writeNo)
        ∨ (r.carry = .historyCopy ∧ x.upload = .unsent)
      (settled → last = some { x with upload := .delivered }) ∧ (¬ settled → last = some x)

/-- START_UP_SCAN_END with no repair outstanding: the records are handed over and the part is UNCONFIGURED (R111, R126, R127, R142,
R144, R167, R178). That the last closed trip number is 0 without a TOTALIZER record is the model's choice (log 48); which of an
original and its copies stands, and that a CLOSED shift keeps its totals, are its readings (logs 27, 30). -/
def Obligations.ScanEndRebuildsTheBooks : Prop :=
  ∀ (c : Scan) (s : State), s.port.part = .scanning → s.port.inReset = false → s.store.scan = some c →
    s.store.inProgress = false → s.store.record = none → s.store.headerWrite = none → s.store.erasing = none →
    Completes .startUpScanEnd s fun t =>
      t.port.part = .unconfigured ∧ t.port.handedOver = true ∧ t.store.scan = none
        ∧ (c.formatted = true → t.store.startUp = .formatted)
        ∧ (c.formatted = false → c.repaired = true → t.store.startUp = .repaired)
        ∧ (c.formatted = false → c.repaired = false → t.store.startUp = .scanned ∧ t.port.notices = s.port.notices)
        ∧ (∀ (tt : Totals) (n : Nat), NewestIs Record.isTotalizer (.totalizer tt n) s →
            t.trips.totals = tt ∧ t.trips.lastClosedNumber = n)
        ∧ (newest Record.isTotalizer (allRecords s) = none → t.trips.totals = .zero ∧ t.trips.lastClosedNumber = 0)
        ∧ (∀ (sh : Shift) (n : Nat), NewestIs Record.isShift (.shift sh n) s → t.trips.shift = sh)
        ∧ t.trips.uploads = (uploadsFrom (allRecords s)).map (fun r => ⟨{ r with upload := .unsent }, false⟩)
        ∧ (interruptedTrip (allRecords s) = none → t.fare = s.fare)
        ∧ (∀ k : Checkpoint, interruptedTrip (allRecords s) = some k →
            t.fare.meter = .stopped ∧ t.trips.lastTrip = k.number ∧ t.fare.restored = true
              ∧ ∃ trip : Trip, t.fare.trip = some trip ∧ trip.number = k.number ∧ trip.fare = k.fare
                ∧ trip.hiredDistance = k.hiredDistance ∧ trip.extras = k.extras
                ∧ trip.flags = { k.flags with powerInterrupted := true })
        ∧ (interruptedTrip (allRecords s) = none → LastTripRecorded (allRecords s) t.trips.lastTrip)
        ∧ LastClosedRebuilt (allRecords s) t.trips.lastClosed
        ∧ (newest (fun r => r.alarmOpen?.isSome) (allRecords s) = none → t.emerg.lastNumber = 255)
        ∧ (∀ (r : Record) (a : AlarmOpenRecord), newest (fun r => r.alarmOpen?.isSome) (allRecords s) = some r →
            r.body = .alarmOpen a → t.emerg.lastNumber = a.number)
        ∧ (openAlarm (allRecords s) = none → t.emerg.restore = none)
        ∧ (∀ (r : Record) (a : AlarmOpenRecord), openAlarm (allRecords s) = some r → r.body = .alarmOpen a →
            t.emerg.restore = some ⟨a.number, a.time, a.cell⟩)
        ∧ OnlyTouches [.fare, .trips, .store, .emerg, .port] s t

/-! ## Events in time: the beacon cycle, the offer timers, the clock, the odometer (R55, R56, R65, R71, R77, R94 to R103, R124,
R152, R190) -/

/-- BEACON_TICK: the tick starts again, a FULL position offers a beacon, and at the rollover the oldest UNSENT trip is reported
(R55, R56, R124). That the event with the tick stopped changes nothing is the model's choice (log 1). -/
def Obligations.BeaconTickOffersAndReports : Prop :=
  ∀ s : State,
    (Up s → s.tx.tickTimer.isSome = true → s.tx.cycleTable[s.tx.cycleIndex]? = some .full → s.tx.cycleIndex < 15 →
        s.emerg.alarm = .quiet → s.link.state ≠ .silent → s.link.state ≠ .recovering → s.offers.cell.isSome = true →
        (∀ e ∈ s.tx.queue, e.cls ≠ .beacon) → ReplyJoinsQuietly s → Completes .beaconTick s fun t =>
          (∃ e : PendEntry,
            t.tx = { s.tx with
              queue := s.tx.queue ++ [e], cycleIndex := s.tx.cycleIndex + 1, tickTimer := some s.tx.tick }
            ∧ e.cls = .beacon ∧ e.payload = .beacon true none ∧ e.dest = 0xFFFE ∧ e.state = .waiting)
          ∧ OnlyTouches [.tx] s t)
      ∧ (Up s → s.tx.tickTimer.isSome = true → s.tx.cycleTable[s.tx.cycleIndex]? = some .none → s.tx.cycleIndex < 15 →
          Completes .beaconTick s fun t =>
            t.tx = { s.tx with cycleIndex := s.tx.cycleIndex + 1, tickTimer := some s.tx.tick } ∧ OnlyTouches [.tx] s t)
      ∧ (Up s → s.tx.tickTimer.isSome = true → s.tx.cycleTable[s.tx.cycleIndex]? = some .none → s.tx.cycleIndex = 15 →
          ReplyJoinsQuietly s → ∀ (u : UploadEntry) (base : Nat), s.trips.homeBase = some base →
          s.trips.uploads.find? (fun u => u.trip.upload == .unsent) = some u →
          (∀ a ∈ s.trips.uploads, a.doneOwed = false) → Completes .beaconTick s fun t =>
            (∃ e : PendEntry,
              t.tx = { s.tx with queue := s.tx.queue ++ [e], cycleIndex := 0, tickTimer := some s.tx.tick }
              ∧ e.cls = .normal
              ∧ e.owner = .tripRecorder ∧ e.dest = base
              ∧ ∃ r : TripReport, e.payload = .tripReport r ∧ r.number = u.trip.number ∧ r.fare = u.trip.fare
                ∧ r.startTime = u.trip.startTime ∧ r.endTime = u.trip.endTime)
            ∧ t.trips = { s.trips with uploads := s.trips.uploads.map fun a =>
                if a.trip.number = u.trip.number then { a with trip := { a.trip with upload := .queued } } else a }
            ∧ t.port = (raise .uploadChanged (.trip u.trip.number) s).port ∧ OnlyTouches [.tx, .trips, .port] s t)
      ∧ (s.tx.tickTimer = none → Completes .beaconTick s fun t => OnlyTouches [] s t)

/-- The award timer's expiry makes the entry EXPIRED, the accept timer's makes it REFUSED with a REFUSE for TIMEOUT (R71, R77). That
either changes nothing of an entry in another state is the model's choice (log 1). -/
def Obligations.OfferTimersEndTheEntry : Prop :=
  ∀ (e : OfferEntry) (s : State), Listed e s →
    (s.port.part = .running ∨ s.port.part = .dormant → e.state = .bidSent → e.awardTimer.isSome = true →
        s.offers.heldJob ≠ some e.id → Completes (.awardTimerExpiry e.id) s fun t =>
          t.offers = { s.offers with table := s.offers.table.map fun a =>
              if a.id = e.id then { e with state := .expired, awardTimer := none, acceptTimer := none } else a }
            ∧ t.port = (raise .offerChanged (.offer e.id) s).port ∧ OnlyTouches [.offers, .msg, .port] s t
            ∧ t.msg.queue = s.msg.queue)
      ∧ (Up s → e.state = .awarded → e.acceptTimer.isSome = true → s.offers.heldJob = some e.id → ReplyJoinsQuietly s →
          Completes (.acceptTimerExpiry e.id) s fun t =>
            ReplyJoined (.refuse e.id .timeout) e.id.base s t
              ∧ t.offers = { s.offers with
                  table := s.offers.table.map fun a =>
                    if a.id = e.id then
                      { e with state := .refused, reason := some (.refusal .timeout), acceptTimer := none,
                               awardTimer := none, replyFrame := some ⟨s.nextUid, none⟩ }
                    else a
                  heldJob := none }
              ∧ t.port = (raise .offerChanged (.offer e.id) s).port ∧ OnlyTouches [.tx, .offers, .msg, .port] s t
              ∧ t.msg.queue = s.msg.queue)
      ∧ (e.state ≠ .bidSent → Completes (.awardTimerExpiry e.id) s fun t => OnlyTouches [] s t)
      ∧ (e.state ≠ .awarded → Completes (.acceptTimerExpiry e.id) s fun t => OnlyTouches [] s t)

/-- A message whose lifetime a second brings to 0 (R152). -/
abbrev Sys2Proof.Claims.LastSecond (m : Message) : Prop :=
  (m.lifetime = some 1 ∨ m.lifetime = some 0) ∧ m.state ≠ .expired

/-- CLOCK_SECOND with no message at the end of its lifetime: the clock, and in RUNNING and DORMANT the ages and timers;
IDLE_MINUTE. -/
def Sys2Proof.Claims.SecondsAndMinutesCount : Prop :=
  ∀ s : State, s.port.inReset = false → (∀ m ∈ s.msg.queue, ¬ LastSecond m) →
    (s.port.clock < 4294967295 → Completes .clockSecond s fun t =>
        t.port = { s.port with clock := s.port.clock + 1 } ∧ t.elapsed = s.elapsed + 1
          ∧ (s.port.part = .running ∨ s.port.part = .dormant →
              t.offers.positionAge = (if s.offers.cell.isSome then min 65535 (s.offers.positionAge + 1)
                else s.offers.positionAge)
              ∧ t.offers.table.map (fun e => (e.id, e.state, e.awardTimer, e.acceptTimer)) =
                  s.offers.table.map (fun e =>
                    (e.id, e.state, e.awardTimer.map (· - 1), e.acceptTimer.map (· - 1)))
              ∧ t.offers.idleMinutes = s.offers.idleMinutes ∧ t.offers.heldJob = s.offers.heldJob
              ∧ t.msg.queue = s.msg.queue.map (fun m => { m with lifetime := m.lifetime.map (· - 1) })
              ∧ t.emerg.repeatTimer = s.emerg.repeatTimer.map (· - 1)
              ∧ t.emerg.spacingTimer = s.emerg.spacingTimer.map (· - 1)
              ∧ t.emerg.markerTimer = s.emerg.markerTimer.map (· - 1) ∧ t.emerg.alarm = s.emerg.alarm
              ∧ t.tx = { s.tx with tickTimer := s.tx.tickTimer.map (· - 1) }
              ∧ OnlyTouches [.tx, .offers, .msg, .emerg, .port] s t)
          ∧ (s.port.part = .scanning ∨ s.port.part = .unconfigured → OnlyTouches [.port] s t))
      ∧ (s.port.part = .running ∨ s.port.part = .dormant → Completes .idleMinute s fun t =>
          t.offers = { s.offers with idleMinutes := min 255 (s.offers.idleMinutes + 1) } ∧ OnlyTouches [.offers] s t)
      ∧ (s.port.part = .scanning ∨ s.port.part = .unconfigured →
          Completes .idleMinute s fun t => OnlyTouches [] s t)

/-- The second that brings a lifetime to 0, as CLOCK_SECOND or as MESSAGE_EXPIRY, expires the entry and raises
MESSAGE_EXPIRED; MESSAGE_EXPIRY of an entry with more of its lifetime left changes nothing (R152, logs 1, 6). -/
def Sys2Proof.Claims.MessageLifetimeEnds : Prop :=
  ∀ (m : Message) (s : State), s.port.part = .running ∨ s.port.part = .dormant → Queued m s →
    (∀ k : ReceiptKind, m.receipt ≠ some (.owed k)) →
    (LastSecond m → Completes (.messageExpiry m.pair) s fun t =>
        (∃ a ∈ t.msg.queue, a = { m with state := .expired, lifetime := some 0 })
          ∧ t.msg.queue.length = s.msg.queue.length ∧ t.msg.recent = s.msg.recent
          ∧ t.port = (raise .messageExpired (.message m.pair) s).port ∧ OnlyTouches [.msg, .port] s t)
      ∧ (¬ LastSecond m → Completes (.messageExpiry m.pair) s fun t => OnlyTouches [] s t)
      ∧ (LastSecond m → (s.msg.queue.map (·.pair)).Nodup → (∀ a ∈ s.msg.queue, LastSecond a → a = m) →
          s.port.inReset = false →
          s.port.clock < 4294967295 → Completes .clockSecond s fun t =>
            (∃ a ∈ t.msg.queue, a = { m with state := .expired, lifetime := some 0 })
              ∧ t.msg.queue.length = s.msg.queue.length ∧ t.msg.recent = s.msg.recent
              ∧ t.port =
                  (raise .messageExpired (.message m.pair) { s with port.clock := s.port.clock + 1 }).port
              ∧ t.emerg.repeatTimer = s.emerg.repeatTimer.map (· - 1)
              ∧ t.tx = { s.tx with tickTimer := s.tx.tickTimer.map (· - 1) }
              ∧ OnlyTouches [.tx, .offers, .msg, .emerg, .port] s t)

/-- CLOCK_SECOND, IDLE_MINUTE and MESSAGE_EXPIRY (R55, R65, R71, R77, R152, R172, R176, R184, R190). The count of elapsed seconds
is the model's own (log 20), and a timer other than a lifetime expires by its own command (log 2). -/
def Obligations.TimeMovesTheClockAndTheLifetimes : Prop := SecondsAndMinutesCount ∧ MessageLifetimeEnds

/-- ODOMETER_PULSE: Q rises by 1000 and completes metres while it is at least the pulse constant, at most 2 a pulse; a pulse
while the interval clock is stopped is ignored, and Q is 0 after each of the three resets (R95). -/
def Obligations.PulsesCompleteMetres : Prop :=
  (∀ (k : Nat) (s : State), s.fare.pulseConstant = some k → 500 ≤ k → s.fare.q < k → s.fare.clockRunning = true →
      Completes .odometerPulse s fun t =>
        t.fare = { s.fare with q := t.fare.q, metres := t.fare.metres } ∧ t.fare.q < k
          ∧ s.fare.metres ≤ t.fare.metres ∧ t.fare.metres ≤ s.fare.metres + 2
          ∧ t.fare.q + k * (t.fare.metres - s.fare.metres) = s.fare.q + 1000 ∧ OnlyTouches [.fare] s t)
    ∧ (∀ s : State, s.fare.clockRunning = false → Completes .odometerPulse s fun t => OnlyTouches [] s t)
    ∧ ∀ s : State,
      Completes .powerOn s (fun t => t.fare.q = 0) ∧ Completes .resetPin s (fun t => t.fare.q = 0)
        ∧ (Up s → MayStop s → Completes .restart s fun t => t.fare.q = 0)

/-- INTERVAL_BOUNDARY in VACANT: the metres go to the totals, at most 8, with an anomaly above (R96, R97, R119). -/
def Sys2Proof.Claims.VacantIntervalsAddDistance : Prop :=
  ∀ s : State, s.fare.clockRunning = true → s.fare.meter = .vacant → s.fare.trip = none →
    Completes .intervalBoundary s fun t =>
      t.fare = { s.fare with metres := 0, opening := false }
        ∧ t.trips.totals = { s.trips.totals with
            totalDistance := min 999999999 (s.trips.totals.totalDistance + min 8 s.fare.metres)
            anomalies := if 8 < s.fare.metres then min 65535 (s.trips.totals.anomalies + 1)
              else min 65535 s.trips.totals.anomalies }
        ∧ (s.trips.shift.isOpen = false → t.trips.shift = s.trips.shift)
        ∧ (s.trips.shift.isOpen = true → t.trips.shift.totals.totalDistance =
            min 999999999 (s.trips.shift.totals.totalDistance + min 8 s.fare.metres))
        ∧ t.trips.lastTrip = s.trips.lastTrip ∧ t.trips.uploads = s.trips.uploads ∧ OnlyTouches [.fare, .trips] s t

/-- INTERVAL_BOUNDARY in HIRED with no checkpoint due: distance or time, and the increment it may earn (R98 to R103). -/
def Sys2Proof.Claims.HiredIntervalsEarnIncrements : Prop :=
  ∀ (trip : Trip) (f : Tariff) (s : State), s.fare.clockRunning = true → s.fare.meter = .hired →
    s.fare.opening = false → s.fare.trip = some trip → tariffInForce s = some f → s.fare.metres ≤ 8 →
    s.fare.checkpointOwed = false → s.fare.incrementsSince < 15 → s.fare.intervalsSince < 599 →
    let d := s.fare.metres
    let p := s.fare.progress + (if f.D < d * f.T then d * f.T else f.D)
    Completes .intervalBoundary s fun t =>
      ∃ u : Trip, t.fare.trip = some u ∧ t.fare.metres = 0 ∧ t.fare.meter = .hired
        ∧ u.hiredDistance = min 9999999 (trip.hiredDistance + d)
        ∧ u.waiting = (if f.D < d * f.T then trip.waiting else min 864000 (trip.waiting + 1))
        ∧ t.fare.intervalsSince = min 600 (s.fare.intervalsSince + 1)
        ∧ u.number = trip.number ∧ u.extras = trip.extras ∧ u.startTime = trip.startTime
        ∧ (trip.pendingTariff = none → u.tariff = trip.tariff ∧ u.tariffList = trip.tariffList
            ∧ t.fare.progress = (if f.D * f.T ≤ p then p - f.D * f.T else p))
        ∧ (∀ n : Nat, trip.pendingTariff = some n → u.tariff = n ∧ u.pendingTariff = none ∧ t.fare.progress = 0
            ∧ u.tariffList = if n ∈ trip.tariffList then trip.tariffList else trip.tariffList ++ [n])
        ∧ (p < f.D * f.T → u.earned = trip.earned ∧ u.charged = trip.charged ∧ u.fare = trip.fare
            ∧ u.freeLeft = trip.freeLeft ∧ u.flags = trip.flags)
        ∧ (f.D * f.T ≤ p → u.earned = min 999999 (trip.earned + 1)
            ∧ t.fare.incrementsSince = min 16 (s.fare.incrementsSince + 1)
            ∧ (0 < trip.freeLeft → u.freeLeft = trip.freeLeft - 1 ∧ u.freeUsed = trip.freeUsed + 1
                ∧ u.fare = trip.fare ∧ u.charged = trip.charged)
            ∧ (trip.freeLeft = 0 → trip.flags.fareLimit = true → u.fare = trip.fare ∧ u.charged = trip.charged)
            ∧ (trip.freeLeft = 0 → trip.flags.fareLimit = false → trip.fare + f.A ≤ 999999 →
                u.fare = trip.fare + f.A ∧ u.charged = min 999999 (trip.charged + 1) ∧ u.flags = trip.flags)
            ∧ (trip.freeLeft = 0 → trip.flags.fareLimit = false → 999999 < trip.fare + f.A →
                u.fare = 999999 ∧ u.charged = trip.charged ∧ u.flags = { trip.flags with fareLimit := true }))
        ∧ OnlyTouches [.fare, .msg, .port] s t ∧ t.msg.queue = s.msg.queue

/-- The interval's metres are in the lifetime totals, and in the shift totals while the shift is OPEN (R96, R97, R119). -/
def Sys2Proof.Claims.DistanceIsAdded (s t : State) : Prop :=
  let more := fun a : Totals => { a with
    totalDistance := min 999999999 (a.totalDistance + min 8 s.fare.metres)
    anomalies := min 65535 (a.anomalies + if 8 < s.fare.metres then 1 else 0) }
  t.trips.totals = more s.trips.totals
    ∧ (s.trips.shift.isOpen = false → t.trips.shift = s.trips.shift)
    ∧ (s.trips.shift.isOpen = true →
        t.trips.shift.totals.totalDistance = (more s.trips.shift.totals).totalDistance)
    ∧ t.trips.lastTrip = s.trips.lastTrip ∧ t.trips.uploads = s.trips.uploads

/-- INTERVAL_BOUNDARY in STOPPED and at the end of an opening interval, with no checkpoint due: the interval is a vacant one, and
the trip has no more of it than PULSE_ANOMALY; a pending tariff takes effect as an opening interval ends (R88, R96, R97, R103). -/
def Sys2Proof.Claims.UnchargedIntervalsAddDistance : Prop :=
  ∀ (trip : Trip) (s : State), s.fare.clockRunning = true → s.fare.trip = some trip →
    s.fare.checkpointOwed = false → s.fare.incrementsSince < 16 → s.fare.intervalsSince < 600 →
    let marked : Trip := { trip with flags.pulseAnomaly := trip.flags.pulseAnomaly || decide (8 < s.fare.metres) }
    (s.fare.meter = .stopped ∨ (s.fare.meter = .hired ∧ s.fare.opening = true ∧ trip.pendingTariff = none) →
        Completes .intervalBoundary s fun t =>
          t.fare = { s.fare with metres := 0, opening := false, trip := some marked } ∧ DistanceIsAdded s t
            ∧ OnlyTouches [.fare, .trips] s t)
      ∧ ∀ n : Nat, s.fare.meter = .hired → s.fare.opening = true → trip.pendingTariff = some n →
        Completes .intervalBoundary s fun t =>
          t.fare = { s.fare with
              metres := 0, opening := false, progress := 0
              trip := some { marked with
                tariff := n, pendingTariff := none
                tariffList := if n ∈ trip.tariffList then trip.tariffList else trip.tariffList ++ [n] } }
            ∧ DistanceIsAdded s t ∧ OnlyTouches [.fare, .trips, .msg, .port] s t ∧ t.msg.queue = s.msg.queue

/-- A checkpoint is due at the boundary: it is owed, or a charged interval brings a counter to its limit (R104, R105). -/
def Sys2Proof.Claims.CheckpointFallsDue (s : State) : Prop :=
  s.fare.checkpointOwed = true
    ∨ (s.fare.meter = .hired ∧ s.fare.opening = false ∧ ∃ f : Tariff, tariffInForce s = some f
      ∧ (599 ≤ s.fare.intervalsSince ∨ (15 ≤ s.fare.incrementsSince
        ∧ f.D * f.T ≤ s.fare.progress + (if f.D < min 8 s.fare.metres * f.T then min 8 s.fare.metres * f.T else f.D))))

/-- A group of this kind waits in the write queue behind the one being written. -/
abbrev Sys2Proof.Claims.Waits (k : GroupKind) (s : State) : Prop := ∃ g ∈ s.store.queue, g.kind = k ∧ g.writing = false

/-- INTERVAL_BOUNDARY at which a checkpoint falls due: it joins with the trip as the boundary leaves it and the counters return to
0, a waiting checkpoint of the trip gives way, or it stays owed (R104, R105, R133). The store is at work on an earlier group. That
a pending tariff takes effect before the checkpoint is offered is the model's choice (log 40), and so is that a waiting one gives
way also at the head of a swap (log 51). -/
def Sys2Proof.Claims.CheckpointJoinsOrIsOwed : Prop :=
  ∀ (trip : Trip) (s : State), s.fare.clockRunning = true → s.fare.trip = some trip →
    s.fare.meter = .hired ∨ s.fare.meter = .stopped → CheckpointFallsDue s →
    let kind := GroupKind.checkpoint trip.number
    (StoreTakesGroups s → s.store.activity ≠ .idle → s.store.queue.length < 6 ∨ Waits kind s →
        Completes .intervalBoundary s fun t =>
          (∃ u : Trip, t.fare.trip = some u ∧ u.number = trip.number
            ∧ t.store = { s.store with queue :=
                (s.store.queue.filter fun g => !(g.kind == kind && !g.writing))
                  ++ [⟨kind, [.checkpoint (checkpointOf s.fare.meter u)], false⟩] })
            ∧ t.fare.checkpointOwed = false ∧ t.fare.incrementsSince = 0 ∧ t.fare.intervalsSince = 0
            ∧ t.fare.metres = 0 ∧ t.fare.meter = s.fare.meter
            ∧ OnlyTouches [.fare, .trips, .store, .msg, .port] s t ∧ t.msg.queue = s.msg.queue)
      ∧ (¬ StoreTakesGroups s ∨ (6 ≤ s.store.queue.length ∧ ¬ Waits kind s) →
        Completes .intervalBoundary s fun t =>
          (∃ u : Trip, t.fare.trip = some u ∧ u.number = trip.number) ∧ t.fare.checkpointOwed = true
            ∧ t.fare.metres = 0 ∧ t.fare.meter = s.fare.meter
            ∧ OnlyTouches [.fare, .trips, .msg, .port] s t ∧ t.msg.queue = s.msg.queue)

/-- INTERVAL_BOUNDARY in VACANT, in HIRED with its opening interval, and in STOPPED, and the checkpoints that fall due (R88, R96
to R105, R119). That a pending tariff takes effect before a checkpoint is offered (log 40), and that a waiting one gives way also
at the head of a swap (log 51), are the model's choices. -/
def Obligations.IntervalsAreCharged : Prop :=
  VacantIntervalsAddDistance ∧ HiredIntervalsEarnIncrements ∧ UnchargedIntervalsAddDistance ∧ CheckpointJoinsOrIsOwed

/-! ## Events of the store, the switch and the alarm (R134, R137, R139 to R141, R168, R172, R176, R179, R182 to R184) -/

/-- The sector with a number. -/
def Sys2Proof.Claims.Sector? (n : Nat) (s : State) : Option Sector := s.store.sectors[n - 1]?

/-- SLOT_WRITE_COMPLETE: the slot stands written; more slots follow, or the last group is done and the store is IDLE. -/
def Sys2Proof.Claims.SlotsFillTheSector : Prop :=
  ∀ (w : RecordWrite) (c : Sector) (s : State), s.store.record = some w → s.store.inProgress = true →
    Sector? w.sector s = some c →
    (w.written + 1 < w.record.slots → Completes .slotWriteComplete s fun t =>
        t.store = { s.store with
            sectors := s.store.sectors.set (w.sector - 1)
              { c with slots := c.slots ++ [if w.written = 0 then .head w.record else .tail] }
            record := some { w with written := w.written + 1 }
            inProgress := !s.store.supplyLow }
          ∧ OnlyTouches [.store] s t)
      ∧ (∀ g : Group, w.record.slots ≤ w.written + 1 → s.store.swap = none → s.store.rest = [] → s.store.queue = [g] →
          (g.kind = .shiftOpen ∨ g.kind = .shiftClose) → s.emerg.openRecord ≠ .owed →
          (∀ u ∈ s.trips.uploads, u.doneOwed = false) → Completes .slotWriteComplete s fun t =>
            t.store = { s.store with
                sectors := s.store.sectors.set (w.sector - 1)
                  { c with slots := c.slots ++ [if w.written = 0 then .head w.record else .tail] }
                record := none, inProgress := false, queue := [], activity := .idle }
              ∧ t.port = (raise .storeEvent .store s).port ∧ OnlyTouches [.store, .port] s t)

/-- HEADER_WRITE_COMPLETE of the new sector's ACTIVE header: the old sector's FULL header is next (R137). -/
def Sys2Proof.Claims.HeadersFollowTheSwap : Prop :=
  ∀ (h : HeaderWrite) (c : Sector) (sw : Swap) (old : Nat) (s : State), s.store.headerWrite = some h →
    s.store.inProgress = true → Sector? h.sector s = some c → s.store.swap = some sw → sw.step = .headerActive →
    sw.old = some old → old - 1 ≠ h.sector - 1 → Completes .headerWriteComplete s fun t =>
      t.store.sectors = s.store.sectors.set (h.sector - 1) { c with header := h.header }
        ∧ t.store.headerWrite = some ⟨old, .full (seqOf s old)⟩ ∧ t.store.swap = some { sw with step := .headerFull }
        ∧ t.store.inProgress = !s.store.supplyLow ∧ t.store.activity = .swapping ∧ t.store.queue = s.store.queue
        ∧ OnlyTouches [.store] s t

/-- ERASE_COMPLETE: a verified sector is ERASED; one that does not verify leaves rotation with STORE_FAULT (R137, R141). -/
def Sys2Proof.Claims.EraseVerifiesOrFaults : Prop :=
  ∀ (n : Nat) (c : Sector) (s : State), s.store.erasing = some n → s.store.inProgress = true → Sector? n s = some c →
    c.header = .bad → s.store.swap = none → s.store.scan = none → s.store.queue = [] →
    Completes (.eraseComplete true) s (fun t =>
        t.store = { s.store with
            sectors := s.store.sectors.set (n - 1) { c with header := .erased, slots := [], eraseBegun := false }
            erasing := none, inProgress := false, activity := .idle }
          ∧ OnlyTouches [.store] s t)
      ∧ Completes (.eraseComplete false) s fun t =>
        t.store = { s.store with
            sectors := s.store.sectors.set (n - 1) { c with fault := true }
            erasing := none, inProgress := false, activity := .idle }
          ∧ t.port = (raise .storeFault (.sector n) s).port ∧ OnlyTouches [.store, .port] s t

/-- The store with an erase of the sector over: verified or not. -/
def Sys2Proof.Claims.erased (verified : Bool) (n : Nat) (c : Sector) (s : State) : State :=
  { s with store := { s.store with
      sectors := s.store.sectors.set (n - 1)
        (if verified then { c with header := .erased, slots := [], eraseBegun := false } else { c with fault := true })
      erasing := none, inProgress := false } }

/-- The history-dropped count as a FULL sector is erased (R136). -/
def Sys2Proof.Claims.droppedWith (n : Nat) (c : Sector) (s : State) : Nat :=
  if c.header.isFull then min 65535 (s.store.dropped + historyLost s n) else s.store.dropped

/-- The notices of an erase, in the model's order: STORE_EVENT as the history-dropped count rises, STORE_FAULT for a sector that
does not verify (R136, R141, log 37). -/
def Sys2Proof.Claims.eraseSaid (verified : Bool) (n : Nat) (c : Sector) (s : State) : State :=
  let u := if droppedWith n c s = s.store.dropped then s else raise .storeEvent .store s
  if verified then u else raise .storeFault (.sector n) u

/-- An erase of the sector is in progress, and no other work. -/
abbrev Sys2Proof.Claims.Erases (n : Nat) (c : Sector) (s : State) : Prop :=
  s.store.erasing = some n ∧ s.store.inProgress = true ∧ Sector? n s = some c ∧ s.store.record = none
    ∧ s.store.headerWrite = none

/-- The next erase has begun: the sector before it as its own erase left it (R141). -/
def Sys2Proof.Claims.NextErase (verified : Bool) (n m : Nat) (c : Sector) (s t : State) : Prop :=
  t.store.erasing = some m ∧ t.store.activity = .erasing ∧ t.store.inProgress = !s.store.supplyLow
    ∧ Sector? n t = Sector? n (erased verified n c s) ∧ t.store.dropped = droppedWith n c s
    ∧ t.port = (eraseSaid verified n c s).port ∧ t.store.queue = s.store.queue ∧ OnlyTouches [.store, .port] s t

/-- The erase of a swap's step 4: verified, or with no FULL sector left, it completes the swap, and the head group is written into
the ACTIVE sector; not verified, the next oldest FULL sector is erased (R136, R137, R141). -/
def Sys2Proof.Claims.StepFourEraseEndsTheSwap : Prop :=
  ∀ (n : Nat) (c : Sector) (sw : Swap) (s : State), Erases n c s → c.header.isFull = true → s.store.swap = some sw →
    (∀ (verified : Bool) (a : Nat) (g : Group) (b : RecordBody) (bs : List RecordBody) (rest : List Group),
        (if verified then c.fault = false ∧ 1 ≤ n ∧ n ≤ 4
         else spareSector (erased false n c s) = none ∧ oldestFull (erased false n c s) = none) →
        s.store.scan = none → s.store.supplyLow = false → s.store.queue = g :: rest → g.records = b :: bs →
        activeSector (erased verified n c s) = some a → g.need ≤ freeSlots (erased verified n c s) a →
        Completes (.eraseComplete verified) s fun t =>
          t.store.swap = none ∧ t.store.sectors = (erased verified n c s).store.sectors ∧ t.store.erasing = none
            ∧ t.store.dropped = droppedWith n c s
            ∧ (∃ r : Record, t.store.record = some ⟨r, a, 0⟩ ∧ r.body = b ∧ r.writeNo = s.store.writeCounter)
            ∧ t.store.activity = .writing ∧ t.store.inProgress = true
            ∧ t.port = (raise .storeEvent .store (eraseSaid verified n c s)).port ∧ OnlyTouches [.store, .port] s t)
      ∧ (∀ (k : Scan) (a : Nat), s.store.scan = some k → k.formatting = none → k.redoSwap = false →
          c.fault = false → 1 ≤ n → n ≤ 4 → unreadableSector (erased true n c s) = none →
          sectorsWith Header.isActive (erased true n c s) = [a] → sectorsWith Header.isCarrying (erased true n c s) = [] →
          Completes (.eraseComplete true) s fun t =>
          t.store.swap = none ∧ t.store.sectors = (erased true n c s).store.sectors ∧ t.store.erasing = none
            ∧ t.store.dropped = droppedWith n c s ∧ t.store.scan = some k ∧ t.store.activity = .idle
            ∧ t.store.inProgress = false ∧ t.port = (raise .storeEvent .store (eraseSaid true n c s)).port
            ∧ OnlyTouches [.store, .port] s t)
      ∧ ∀ m : Nat, spareSector (erased false n c s) = none → oldestFull (erased false n c s) = some m → m - 1 ≠ n - 1 →
          Completes (.eraseComplete false) s fun t =>
            NextErase false n m c s t ∧ t.store.swap = some { sw with step := .erase }

/-- An erase of the scan, verified or not: the next unreadable sector is erased, or the oldest FULL one while no sector is ERASED,
or no repair is left; a formatting goes on to its next sector (R141, R142, R145). -/
def Sys2Proof.Claims.ScanEraseGoesOnWithTheRepairs : Prop :=
  ∀ (verified : Bool) (n : Nat) (c : Sector) (k : Scan) (s : State), Erases n c s → s.store.swap = none →
    s.store.scan = some k →
    let u := erased verified n c s
    (k.formatting = none →
        (∀ m : Nat, unreadableSector u = some m → m - 1 ≠ n - 1 → Completes (.eraseComplete verified) s fun t =>
            NextErase verified n m c s t ∧ t.store.scan = some { k with repaired := true })
          ∧ (∀ a : Nat, unreadableSector u = none → k.redoSwap = false → sectorsWith Header.isActive u = [a] →
            sectorsWith Header.isCarrying u = [] →
            ((∃ m : Nat, spareSector u = some m) ∨ sectorsWith Header.isFull u = [] →
                Completes (.eraseComplete verified) s fun t =>
                t.store.sectors = u.store.sectors ∧ t.store.erasing = none ∧ t.store.inProgress = false
                  ∧ t.store.activity = .idle ∧ t.store.scan = some k ∧ t.store.dropped = droppedWith n c s
                  ∧ t.port = (eraseSaid verified n c s).port ∧ OnlyTouches [.store, .port] s t)
              ∧ ∀ m : Nat, spareSector u = none → oldestFull u = some m → m - 1 ≠ n - 1 →
                Completes (.eraseComplete verified) s fun t =>
                NextErase verified n m c s t ∧ t.store.scan = some { k with repaired := true }))
      ∧ ∀ (m : Nat) (rest : List Nat), k.formatting = some (m :: rest) → m - 1 ≠ n - 1 →
          Completes (.eraseComplete verified) s fun t =>
          NextErase verified n m c s t ∧ t.store.scan = some { k with formatting := some rest }

/-- The write of a header or an erase is over, with no swap: the store as it leaves it, and the state whose notices stand. -/
def Sys2Proof.Claims.WorkEnds (i : Instr) (s u said : State) : Prop :=
  s.store.swap = none
    ∧ ((∃ h : HeaderWrite, i = .headerWriteComplete ∧ s.store.headerWrite = some h ∧ s.store.inProgress = true
          ∧ u = putHeader h s ∧ said = s)
      ∨ ∃ (verified : Bool) (n : Nat) (c : Sector), i = .eraseComplete verified ∧ Erases n c s
          ∧ u = erased verified n c s ∧ said = eraseSaid verified n c s)

/-- A repair's header write has begun. -/
def Sys2Proof.Claims.RepairHeaderBegins (h : HeaderWrite) (k : Scan) (u said t : State) : Prop :=
  t.store.headerWrite = some h ∧ t.store.activity = .swapping ∧ t.store.inProgress = !u.store.supplyLow
    ∧ t.store.sectors = u.store.sectors ∧ t.store.scan = some { k with repaired := true } ∧ t.store.erasing = u.store.erasing
    ∧ t.port = said.port ∧ OnlyTouches [.store, .port] said t

/-- The scan's repairs that write a header, after an erase or a header write with no unreadable sector left: the older of two
ACTIVE sectors becomes FULL, a CARRYING sector that is complete becomes ACTIVE, and an incomplete one is erased for its swap to be
made again (R142). That the activity is SWAPPING in these writes is the model's choice (log 50). -/
def Sys2Proof.Claims.ScanWritesItsHeaders : Prop :=
  ∀ (i : Instr) (k : Scan) (s u said : State), WorkEnds i s u said → s.store.scan = some k → k.formatting = none →
    unreadableSector u = none →
    (∀ n : Nat, 2 ≤ (sectorsWith Header.isActive u).length → oldestOf u (sectorsWith Header.isActive u) = some n →
        Completes i s fun t => RepairHeaderBegins ⟨n, .full (seqOf u n)⟩ k u said t)
      ∧ ((sectorsWith Header.isActive u).length < 2 →
        (∀ n : Nat, (sectorsWith Header.isCarrying u).find? (carryComplete u) = some n →
            Completes i s fun t => RepairHeaderBegins ⟨n, .active (seqOf u n)⟩ k u said t)
          ∧ ∀ n : Nat, (sectorsWith Header.isCarrying u).find? (carryComplete u) = none →
            (sectorsWith Header.isCarrying u).head? = some n → Completes i s fun t =>
            t.store.erasing = some n ∧ t.store.activity = .erasing ∧ t.store.inProgress = !s.store.supplyLow
              ∧ t.store.scan = some { k with repaired := true, redoSwap := true } ∧ t.port = said.port
              ∧ OnlyTouches [.store, .port] s t)

/-- An erase that makes the spare for the swap of a head group that does not fit: verified, the swap begins with the CARRYING
header; not verified, the next oldest FULL sector is erased, and with none left the store is HALTED (R135, R141). That a spare is
made by an erase before the swap is the model's reading (log 33). -/
def Sys2Proof.Claims.SpareEraseLetsTheSwapBegin : Prop :=
  ∀ (n a : Nat) (c : Sector) (g : Group) (rest : List Group) (verified : Bool) (s : State), Erases n c s →
    s.store.swap = none → s.store.scan = none → s.store.supplyLow = false → s.store.queue = g :: rest →
    let u := erased verified n c s
    activeSector u = some a → freeSlots u a < g.need →
    (∀ m : Nat, spareSector u = some m → Completes (.eraseComplete verified) s fun t =>
        t.store.headerWrite = some ⟨m, .carrying (nextSeq u)⟩ ∧ t.store.sectors = u.store.sectors
          ∧ (∃ sw : Swap, t.store.swap = some sw ∧ sw.target = m ∧ sw.seq = nextSeq u ∧ sw.old = some a
            ∧ sw.step = .newHeader)
          ∧ t.store.activity = .swapping ∧ t.store.inProgress = true ∧ t.store.queue = s.store.queue
          ∧ t.store.dropped = droppedWith n c s ∧ t.port = (eraseSaid verified n c s).port
          ∧ OnlyTouches [.store, .port] s t)
      ∧ (∀ m : Nat, spareSector u = none → oldestFull u = some m → m - 1 ≠ n - 1 →
          Completes (.eraseComplete verified) s fun t => NextErase verified n m c s t)
      ∧ (spareSector u = none → oldestFull u = none → Completes (.eraseComplete verified) s fun t =>
          t.store.activity = .halted ∧ t.store.sectors = u.store.sectors ∧ t.store.queue = s.store.queue
            ∧ t.store.erasing = none ∧ t.store.inProgress = false ∧ t.store.dropped = droppedWith n c s
            ∧ t.port = (raise .storeFault .store (eraseSaid verified n c s)).port ∧ OnlyTouches [.store, .port] s t)

/-- The last slot of the last group's last record stands written, and no group is owed (R134). -/
abbrev Sys2Proof.Claims.LastSlotOf (w : RecordWrite) (c : Sector) (g : Group) (s : State) : Prop :=
  s.store.record = some w ∧ s.store.inProgress = true ∧ Sector? w.sector s = some c ∧ w.record.slots ≤ w.written + 1
    ∧ s.store.swap = none ∧ s.store.rest = [] ∧ s.store.queue = [g] ∧ s.emerg.openRecord ≠ .owed
    ∧ ∀ u ∈ s.trips.uploads, u.doneOwed = false

/-- The store with that slot written and nothing left to do. -/
def Sys2Proof.Claims.groupOut (w : RecordWrite) (c : Sector) (s : State) : Store :=
  { s.store with
    sectors := s.store.sectors.set (w.sector - 1)
      { c with slots := c.slots ++ [if w.written = 0 then .head w.record else .tail] }
    record := none, inProgress := false, queue := [], activity := .idle }

/-- A group written and its owner: a close has its trip reported, an UPLOAD_DONE takes the entry off the upload list, an
ALARM_OPEN makes the open record WRITTEN; a CHECKPOINT, a SHIFT and an ALARM_CLEAR ask nothing more (R118, R123, R134, R177). That
STORE_EVENT is judged after the owner has reacted is the model's reading (log 13), that it is raised after the owner's notice its
choice (log 37). -/
def Sys2Proof.Claims.WrittenGroupReachesItsOwner : Prop :=
  ∀ (w : RecordWrite) (c : Sector) (g : Group) (s : State), LastSlotOf w c g s →
    ((∃ n : Nat, g.kind = .checkpoint n) ∨ g.kind = .shiftOpen ∨ g.kind = .shiftClose ∨ g.kind = .alarmClear →
        Completes .slotWriteComplete s fun t =>
          t.store = groupOut w c s ∧ t.port = (raise .storeEvent .store s).port ∧ OnlyTouches [.store, .port] s t)
      ∧ (∀ (n base : Nat) (u : UploadEntry), g.kind = .close n true → ReplyJoinsQuietly s → s.trips.homeBase = some base →
          findUpload n s = some u → u.trip.upload = .storing → Completes .slotWriteComplete s fun t =>
          t.store = groupOut w c s
            ∧ t.trips = { s.trips with uploads := uploadsWith n (fun a => { a with trip.upload := .queued }) s }
            ∧ (∃ e : PendEntry, t.tx = { s.tx with queue := s.tx.queue ++ [e] } ∧ e.cls = .normal ∧ e.owner = .tripRecorder
              ∧ e.ref = .trip n ∧ e.dest = base ∧ ∃ r : TripReport, e.payload = .tripReport r ∧ r.number = u.trip.number
                ∧ r.fare = u.trip.fare)
            ∧ t.port = (raise .storeEvent .store (raise .uploadChanged (.trip n) s)).port
            ∧ OnlyTouches [.tx, .trips, .store, .port] s t)
      ∧ (∀ n : Nat, g.kind = .close n false → findUpload n s = none → Completes .slotWriteComplete s fun t =>
          t.store = groupOut w c s ∧ t.port = (raise .storeEvent .store s).port ∧ OnlyTouches [.store, .port] s t)
      ∧ (∀ n : Nat, g.kind = .uploadDone n → Completes .slotWriteComplete s fun t =>
          t.store = groupOut w c s
            ∧ t.trips = { s.trips with
                uploads := s.trips.uploads.filter fun u => u.trip.number != n
                lastClosed := s.trips.lastClosed.map fun r =>
                  if r.number = n ∧ r.upload ≠ .notListed then { r with upload := .delivered } else r }
            ∧ t.port = (raise .storeEvent .store (raise .uploadChanged (.trip n) s)).port
            ∧ OnlyTouches [.trips, .store, .port] s t)
      ∧ (g.kind = .alarmOpen → s.emerg.openRecord = .queued → Completes .slotWriteComplete s fun t =>
          t.store = groupOut w c s ∧ t.emerg.openRecord = .written ∧ t.emerg.alarm = s.emerg.alarm
            ∧ t.port = (raise .storeEvent .store s).port ∧ OnlyTouches [.store, .emerg, .port] s t)

/-- The record that a swap writes next: the record, in the new sector, with none of its slots written. -/
abbrev Sys2Proof.Claims.CopyBegins (r : Record) (sw : Swap) (s t : State) : Prop :=
  t.store.record = some ⟨r, sw.target, 0⟩ ∧ t.store.inProgress = !s.store.supplyLow ∧ t.store.activity = .swapping

/-- The start of a swap's carry: after the CARRYING header come the ESSENTIAL records, the newest TOTALIZER first, each as a
copy with its own write number (R135), and with history carry on, or in the scan, the history candidates stand behind them (R136).
What the records are is said by the model's `allRecords`, `newest`, `essentials` and `historyCandidates`. -/
def Sys2Proof.Claims.CarryBeginsWithTheEssentials : Prop :=
  ∀ (h : HeaderWrite) (sw : Swap) (s : State), s.store.headerWrite = some h → s.store.inProgress = true →
    s.store.swap = some sw → sw.step = .newHeader → usedSlots (putHeader h s) sw.target = 0 →
    let u := putHeader h s
    let l := essentials (listedTrips u (allRecords u)) (allRecords u)
    (∀ (r : Record) (rest : List Record), l = r :: rest → r.slots < 256 → Completes .headerWriteComplete s fun t =>
        CopyBegins { r with position := 1, groupEnd := true, carry := .essentialCopy } sw s t
          ∧ (∃ sw' : Swap, t.store.swap = some sw' ∧ sw'.step = .essential ∧ sw'.target = sw.target ∧ sw'.seq = sw.seq
            ∧ sw'.toCopy.length = rest.length ∧ sw'.toCopy.map (·.writeNo) = rest.map (·.writeNo)
            ∧ (s.store.historyCarry = false → s.store.scan = none → sw'.candidates = [])
            ∧ (s.store.historyCarry = true ∨ s.store.scan ≠ none →
                sw'.candidates = historyCandidates (listedTrips u (allRecords u)) (allRecords u)))
          ∧ OnlyTouches [.store] s t)
      ∧ ∀ r : Record, newest Record.isTotalizer (allRecords u) = some r → r.slots < 256 → Completes .headerWriteComplete s fun t =>
        CopyBegins { r with position := 1, groupEnd := true, carry := .essentialCopy } sw s t

/-- The last slot of a record that a swap copies stands written: the next record, the next history candidate while 64 slots stay
free after it and the CARRY_DONE, or the CARRY_DONE with the count of the records carried (R135 to R137). -/
def Sys2Proof.Claims.CarryGoesOn : Prop :=
  ∀ (w : RecordWrite) (c : Sector) (sw : Swap) (s : State), s.store.record = some w → s.store.inProgress = true →
    Sector? w.sector s = some c → w.record.slots = w.written + 1 → s.store.swap = some sw → w.sector = sw.target →
    1 ≤ sw.target → (sw.step = .essential ∨ sw.step = .history) →
    let used := (c.slots ++ [if w.written = 0 then Slot.head w.record else .tail])
    (∀ (r : Record) (rest : List Record), sw.toCopy = r :: rest →
        missingSlots used.length used = 0 → used.length + r.slots + 1 ≤ 256 → Completes .slotWriteComplete s fun t =>
        CopyBegins r sw s t ∧ t.store.swap = some { sw with copied := sw.copied + 1, toCopy := rest }
          ∧ OnlyTouches [.store] s t)
      ∧ (∀ (k : List Record) (r : Record) (rest : List Record) (more : List (List Record)), sw.toCopy = [] →
          sw.candidates = k :: more → k = r :: rest → missingSlots used.length used = 0 →
          used.length + slotsOf k + 1 + 64 ≤ 256 → Completes .slotWriteComplete s fun t =>
        CopyBegins { r with position := 1, groupEnd := true, carry := .historyCopy } sw s t
          ∧ (∃ sw' : Swap, t.store.swap = some sw' ∧ sw'.step = .history ∧ sw'.candidates = more
            ∧ sw'.copied = sw.copied + 1 ∧ sw'.toCopy.map (·.writeNo) = rest.map (·.writeNo))
          ∧ OnlyTouches [.store] s t)
      ∧ (sw.toCopy = [] →
          sw.candidates = []
            ∨ (∃ (k : List Record) (more : List (List Record)), sw.candidates = k :: more
              ∧ 256 < used.length + slotsOf k + 1 + 64) →
          Completes .slotWriteComplete s fun t =>
        (∃ r : Record, CopyBegins r sw s t ∧ r.body = .carryDone sw.seq (sw.copied + 1))
          ∧ (∃ sw' : Swap, t.store.swap = some sw' ∧ sw'.step = .carryDone) ∧ OnlyTouches [.store] s t)

/-- The end of a swap: the CARRY_DONE is followed by the ACTIVE header; the old sector's FULL header by the erase of the oldest
FULL sector when no sector is ERASED, and otherwise the swap is complete with STORE_EVENT (R137). -/
def Sys2Proof.Claims.SwapEnds : Prop :=
  ∀ (sw : Swap) (s : State), s.store.swap = some sw → s.store.inProgress = true →
    (∀ (w : RecordWrite) (c : Sector), s.store.record = some w → Sector? w.sector s = some c →
        w.record.slots = w.written + 1 → sw.step = .carryDone → Completes .slotWriteComplete s fun t =>
        t.store.headerWrite = some ⟨sw.target, .active sw.seq⟩ ∧ t.store.swap = some { sw with step := .headerActive }
          ∧ t.store.record = none ∧ t.store.inProgress = !s.store.supplyLow ∧ t.store.activity = .swapping
          ∧ OnlyTouches [.store] s t)
      ∧ ∀ h : HeaderWrite, s.store.record = none → s.store.headerWrite = some h → sw.step = .headerFull →
        (∀ n : Nat, spareSector (putHeader h s) = some n → s.store.scan = none → s.store.queue = [] →
            Completes .headerWriteComplete s fun t =>
            t.store.swap = none ∧ t.store.activity = .idle ∧ t.store.inProgress = false ∧ t.store.headerWrite = none
              ∧ t.store.sectors = (putHeader h s).store.sectors
              ∧ t.port = (raise .storeEvent .store s).port ∧ OnlyTouches [.store, .port] s t)
          ∧ ∀ n : Nat, spareSector (putHeader h s) = none → oldestFull (putHeader h s) = some n →
            Completes .headerWriteComplete s fun t =>
            t.store.erasing = some n ∧ t.store.swap = some { sw with step := .erase } ∧ t.store.activity = .erasing
              ∧ t.store.inProgress = !s.store.supplyLow ∧ OnlyTouches [.store] s t

/-- Formatting: the erases go through the sectors in turn, then the lowest ERASED one, `spareSector` of the store after the last
erase, becomes ACTIVE with sequence number 1 and the write counter stands at 1; with none the store is HALTED (R145). That the
activity is SWAPPING during that header's write is the model's choice (log 50). -/
def Sys2Proof.Claims.FormattingGoesThroughTheSectors : Prop :=
  ∀ (k : Scan) (s : State), s.store.scan = some k → s.store.swap = none → s.store.inProgress = true →
    (∀ (n m : Nat) (c : Sector) (rest : List Nat), s.store.erasing = some n → Sector? n s = some c → c.header.isFull = false →
        k.formatting = some (m :: rest) → Completes (.eraseComplete true) s fun t =>
        t.store.erasing = some m ∧ t.store.scan = some { k with formatting := some rest } ∧ t.store.activity = .erasing
          ∧ t.store.inProgress = !s.store.supplyLow ∧ OnlyTouches [.store] s t)
      ∧ (∀ (n : Nat) (c : Sector), s.store.erasing = some n → 1 ≤ n → Sector? n s = some c → c.header.isFull = false →
          c.fault = false → n ≤ 4 → s.store.sectors.length = 4 →
          (∀ m : Nat, 1 ≤ m → m < n → ∀ a : Sector, Sector? m s = some a → a.fault = true ∨ a.header ≠ .erased) →
          k.formatting = some [] → Completes (.eraseComplete true) s fun t =>
        t.store.headerWrite = some ⟨n, .active 1⟩ ∧ t.store.activity = .swapping ∧ t.store.erasing = none
          ∧ OnlyTouches [.store] s t)
      ∧ (∀ (verified : Bool) (n : Nat) (c : Sector), Erases n c s → k.formatting = some [] →
          let u := erased verified n c s
          (∀ m : Nat, spareSector u = some m → Completes (.eraseComplete verified) s fun t =>
              t.store.headerWrite = some ⟨m, .active 1⟩ ∧ t.store.activity = .swapping ∧ t.store.erasing = none
                ∧ t.store.inProgress = !s.store.supplyLow ∧ t.store.sectors = u.store.sectors ∧ t.store.scan = some k
                ∧ t.port = (eraseSaid verified n c s).port ∧ OnlyTouches [.store, .port] s t)
            ∧ (spareSector u = none → Completes (.eraseComplete verified) s fun t =>
              t.store.activity = .halted ∧ t.store.sectors = u.store.sectors ∧ t.store.erasing = none
                ∧ t.store.scan = some { k with formatted := true } ∧ t.store.inProgress = false
                ∧ t.port = (raise .storeFault .store (eraseSaid verified n c s)).port
                ∧ OnlyTouches [.store, .port] s t))
      ∧ ∀ h : HeaderWrite, s.store.headerWrite = some h → k.formatting = some [] → Completes .headerWriteComplete s fun t =>
        t.store.scan = some { k with formatted := true } ∧ t.store.writeCounter = 1 ∧ t.store.headerWrite = none
          ∧ t.store.sectors = (putHeader h s).store.sectors ∧ OnlyTouches [.store] s t

/-- SLOT_WRITE_COMPLETE, HEADER_WRITE_COMPLETE and ERASE_COMPLETE: groups and their owners (R118, R123, R134, R177), the swap with
its carry (R135 to R137), erases of a swap, of the scan and for a spare (R136, R137, R141, R142), the scan's header writes (R142)
and the format (R145). The order of an event's notices (log 37), the lowest unreadable sector first (log 57), the activity shown
in a hold and in header writes outside a swap (logs 49, 50), and what a sector out of rotation shows (log 65) are the model's
choices; logs 13, 27, 33 and 53 are its readings of when the queue is empty, of the dropped count at an erase outside step 4, of
an erase for a spare, and of which records are a listed trip's own. -/
def Obligations.StoreWorkCompletes : Prop :=
  SlotsFillTheSector ∧ HeadersFollowTheSwap ∧ EraseVerifiesOrFaults ∧ StepFourEraseEndsTheSwap
    ∧ ScanEraseGoesOnWithTheRepairs ∧ ScanWritesItsHeaders ∧ SpareEraseLetsTheSwapBegin ∧ WrittenGroupReachesItsOwner
    ∧ CarryBeginsWithTheEssentials ∧ CarryGoesOn ∧ SwapEnds ∧ FormattingGoesThroughTheSectors

/-- SUPPLY_LOW_ASSERTED abandons an erase and lets a write complete; SUPPLY_LOW_RELEASED goes on (R139, R140). -/
def Sys2Proof.Claims.SupplyLowIsAssertedAndReleased : Prop :=
  ∀ s : State, s.port.inReset = false →
    (s.store.supplyLow = false → Completes .supplyLowAsserted s fun t =>
        t.store = { s.store with
            supplyLow := true, inProgress := s.store.inProgress && s.store.erasing.isNone }
          ∧ t.port = (raise .supplyLow .store s).port ∧ OnlyTouches [.store, .port] s t)
      ∧ (s.store.supplyLow = true → Completes .supplyLowAsserted s fun t => OnlyTouches [] s t)
      ∧ (s.store.supplyLow = true → s.store.record = none → s.store.headerWrite = none → s.store.erasing = none →
          s.store.queue = [] → s.store.activity = .idle → Completes .supplyLowReleased s fun t =>
            t.store = { s.store with supplyLow := false } ∧ t.port = (raise .supplyLow .store s).port
              ∧ OnlyTouches [.store, .port] s t)
      ∧ (∀ n : Nat, s.store.supplyLow = true → s.store.inProgress = false → s.store.record = none →
          s.store.headerWrite = none → s.store.erasing = some n → Completes .supplyLowReleased s fun t =>
            t.store.supplyLow = false ∧ t.store.inProgress = true ∧ t.store.erasing = some n
              ∧ t.store.activity = .erasing ∧ OnlyTouches [.store, .port] s t)
      ∧ (s.store.supplyLow = false → Completes .supplyLowReleased s fun t => OnlyTouches [] s t)

/-- What a hold kept due goes on with its release: a header write, a record with no slot written, and a record cut short, whose
unwritten slots are passed over and whose group is written again from its first record, wherever in its sector it stands behind
whole records (R129, R134, R140). That a record with no slot written starts as it is, also a later one of a group whose earlier
records stand written, is the model's reading (log 32). -/
def Sys2Proof.Claims.ReleaseGoesOnWithWhatWasDue : Prop :=
  ∀ s : State, s.port.inReset = false → s.store.supplyLow = true → s.store.inProgress = false →
    (∀ h : HeaderWrite, s.store.record = none → s.store.headerWrite = some h → Completes .supplyLowReleased s fun t =>
        t.store = { s.store with supplyLow := false, inProgress := true }
          ∧ t.port = (raise .supplyLow .store s).port ∧ OnlyTouches [.store, .port] s t)
      ∧ (∀ w : RecordWrite, s.store.record = some w → w.written = 0 → Completes .supplyLowReleased s fun t =>
        t.store = { s.store with supplyLow := false, inProgress := true }
          ∧ t.port = (raise .supplyLow .store s).port ∧ OnlyTouches [.store, .port] s t)
      ∧ ∀ (w : RecordWrite) (c : Sector) (used : List Slot) (g : Group) (b : RecordBody) (bs : List RecordBody)
          (rest : List Group),
        s.store.record = some w → 1 ≤ w.written → Sector? w.sector s = some c → 1 ≤ w.sector →
        c.slots = used ++ .head w.record :: List.replicate (w.written - 1) .tail → missingSlots used.length used = 0 →
        w.written < w.record.slots →
        s.store.swap = none → activeSector s = some w.sector → s.store.queue = g :: rest → g.records = b :: bs →
        used.length + w.record.slots + g.need ≤ 256 → Completes .supplyLowReleased s fun t =>
          t.store.sectors = s.store.sectors.set (w.sector - 1)
              { c with slots := c.slots ++ List.replicate (w.record.slots - w.written) .blank }
            ∧ (∃ r : Record, t.store.record = some ⟨r, w.sector, 0⟩ ∧ r.body = b ∧ r.position = 1
              ∧ r.writeNo = s.store.writeCounter)
            ∧ t.store.rest.map (·.body) = bs ∧ t.store.inProgress = true ∧ t.store.supplyLow = false
            ∧ t.store.activity = .writing ∧ OnlyTouches [.store, .port] s t

/-- The slots of a record cut short, wherever in its sector it stands behind whole records, count as used as soon as it is cut,
before they are passed over (R129, R140). -/
def Sys2Proof.Claims.CutSlotsCountAsUsed : Prop :=
  ∀ (w : RecordWrite) (c : Sector) (used : List Slot) (s : State), s.store.record = some w → s.store.inProgress = false →
    Sector? w.sector s = some c → 1 ≤ w.sector → 1 ≤ w.written →
    c.slots = used ++ .head w.record :: List.replicate (w.written - 1) .tail → missingSlots used.length used = 0 →
    w.written < w.record.slots →
    activeSector s = some w.sector → used.length + w.record.slots ≤ 256 → Up s →
    Completes .getStatus s fun t =>
      ∃ r : StatusReport, t.port.response.map (·.reply) = some (.status r)
        ∧ r.store.freeSlots = 256 - (used.length + w.record.slots)

/-- SUPPLY_LOW_ASSERTED and SUPPLY_LOW_RELEASED: the hold, an erase, a header write and a record cut short, whose slots count as
used (R129, R139, R140). That the line's standing so already changes nothing is the model's choice (log 1), and that a record with
no slot written starts as it is, whatever its place in its group, is its reading (log 32). -/
def Obligations.SupplyLowHoldsTheStore : Prop :=
  SupplyLowIsAssertedAndReleased ∧ ReleaseGoesOnWithWhatWasDue ∧ CutSlotsCountAsUsed

/-- The switch: a hold begins, is released, or completes once, also in DORMANT, which it ends; a released one completes nothing
(R22, R168, R197). -/
def Obligations.SwitchHoldRaisesOnce : Prop :=
  ∀ s : State, s.port.inReset = false →
    (s.emerg.hold = .none → Completes .switchHoldBegins s fun t =>
        t.emerg.hold = .running ∧ t.emerg.alarm = s.emerg.alarm ∧ t.emerg.pendingRaise = s.emerg.pendingRaise
          ∧ OnlyTouches [.emerg] s t)
      ∧ Completes .switchRelease s (fun t =>
        t.emerg.hold = .none ∧ t.emerg.alarm = s.emerg.alarm ∧ t.emerg.number = s.emerg.number
          ∧ OnlyTouches [.emerg] s t)
      ∧ (s.emerg.hold = .completed ∨ s.emerg.hold = .none →
          Completes .switchHoldCompletes s fun t => OnlyTouches [] s t)
      ∧ (s.emerg.hold = .running → s.port.part = .scanning ∨ s.port.part = .unconfigured →
          Completes .switchHoldCompletes s fun t =>
            t.emerg.pendingRaise = true ∧ t.emerg.hold = .completed ∧ t.emerg.alarm = s.emerg.alarm
              ∧ OnlyTouches [.emerg] s t)
      ∧ (s.emerg.hold = .running → s.port.part = .running → s.emerg.alarm ≠ .quiet →
          Completes .switchHoldCompletes s fun t =>
            t.emerg.hold = .completed ∧ t.emerg.alarm = s.emerg.alarm ∧ t.emerg.number = s.emerg.number
              ∧ OnlyTouches [.emerg] s t)
      ∧ (s.emerg.hold = .running → s.port.part = .running → s.emerg.alarm = .quiet →
          Completes .switchHoldCompletes s fun t =>
            t.emerg.hold = .completed ∧ t.emerg.alarm = startsAs s.link.state ∧ LinkAtRaise s t
              ∧ t.emerg.source = some .switch
              ∧ t.emerg.number = some (if s.emerg.lastNumber < 255 then s.emerg.lastNumber + 1 else 0)
              ∧ t.emerg.repeatTimer = timerAtStart s ∧ t.pending = s.pending)
      ∧ (s.emerg.hold = .running → s.port.part = .dormant → s.emerg.alarm = .quiet →
          Completes .switchHoldCompletes s fun t =>
            t.port.part = .running ∧ t.link.slotClock = true ∧ t.link.listenIn = some 0
              ∧ t.tx.tickTimer = some s.tx.tick ∧ t.emerg.hold = .completed ∧ t.emerg.alarm = startsAs s.link.state
              ∧ LinkAtRaise s t ∧ t.emerg.source = some .switch
              ∧ t.emerg.number = some (if s.emerg.lastNumber < 255 then s.emerg.lastNumber + 1 else 0)
              ∧ t.emerg.repeatTimer = timerAtStart s ∧ t.pending = s.pending)
      ∧ (s.emerg.hold = .running → s.port.part = .dormant → s.emerg.alarm ≠ .quiet →
          Completes .switchHoldCompletes s fun t =>
            t.port.part = .running ∧ t.link.slotClock = true ∧ t.link.listenIn = some 0 ∧ t.emerg.hold = .completed
              ∧ t.emerg.alarm = s.emerg.alarm ∧ t.emerg.number = s.emerg.number)

/-- REPEAT_TIMER_EXPIRY, SPACING_TIMER_EXPIRY and MARKER_TIMER_EXPIRY with nothing in the queue (R172, R176, R184). -/
def Sys2Proof.Claims.AlarmTimersOfferTheCall : Prop :=
  ∀ s : State, Up s → s.tx.queue = [] → s.emerg.ownEntry = none →
    (s.emerg.alarm = .open ∨ s.emerg.alarm = .acknowledged → s.emerg.repeatTimer.isSome = true →
        s.emerg.openRecord ≠ .owed → Completes .repeatTimerExpiry s fun t =>
          t.emerg.repeatTimer = some (if s.emerg.alarm = .open then 2 else 15)
            ∧ t.emerg.nextRepeat = min 65535 (s.emerg.nextRepeat + 1) ∧ t.emerg.alarm = s.emerg.alarm
            ∧ t.tx.queue.map (fun e => (e.cls, e.payload, e.dest)) =
                [(.emergencyOrigin,
                  .emergency ⟨s.link.station.getD 0, s.emerg.number.getD 0⟩ s.emerg.nextRepeat .open s.cell, 0xFFFF)]
            ∧ OnlyTouches [.link, .tx, .emerg] s t)
      ∧ (s.emerg.repeatTimer = none → Completes .repeatTimerExpiry s fun t => OnlyTouches [] s t)
      ∧ (s.emerg.alarm = .clearing → s.emerg.spacingTimer.isSome = true → Completes .spacingTimerExpiry s fun t =>
          t.emerg.spacingTimer = none ∧ t.emerg.alarm = .clearing
            ∧ t.tx.queue.map (fun e => (e.cls, e.payload, e.dest)) =
                [(.emergencyOrigin,
                  .emergency ⟨s.link.station.getD 0, s.emerg.number.getD 0⟩ s.emerg.nextRepeat .cleared s.cell, 0xFFFF)]
            ∧ OnlyTouches [.link, .tx, .emerg] s t)
      ∧ (s.emerg.markerTimer.isSome = true → Completes .markerTimerExpiry s fun t =>
          t.emerg.markerTimer = none ∧ t.emerg.markerShown = false ∧ t.emerg.alarm = s.emerg.alarm
            ∧ (DisplayShape s → charOf 0 0 19 t = some 0x20#8
                ∧ ∀ p l k : Nat, ¬ (p = 0 ∧ l = 0 ∧ k = 19) → charOf p l k t = charOf p l k s)
            ∧ t.msg.queue = s.msg.queue ∧ OnlyTouches [.msg, .emerg] s t)

/-- REPEAT_TIMER_EXPIRY and SPACING_TIMER_EXPIRY while an own entry still stands in the queue offer none beside it (R171,
R172). -/
def Sys2Proof.Claims.OneOwnEntryAtATime : Prop :=
  ∀ (o : OwnEntry) (s : State), Up s → s.emerg.ownEntry = some o →
    (s.emerg.alarm = .open ∨ s.emerg.alarm = .acknowledged → s.emerg.repeatTimer.isSome = true →
        s.emerg.openRecord ≠ .owed → Completes .repeatTimerExpiry s fun t =>
          t.emerg = { s.emerg with
              repeatTimer := some (if s.emerg.alarm = .open then 2 else 15), lamp := t.emerg.lamp,
              lampOn := t.emerg.lampOn }
            ∧ OnlyTouches [.emerg] s t)
      ∧ (s.emerg.alarm = .clearing → s.emerg.spacingTimer.isSome = true → Completes .spacingTimerExpiry s fun t =>
          t.emerg = { s.emerg with spacingTimer := none, lamp := t.emerg.lamp, lampOn := t.emerg.lampOn }
            ∧ OnlyTouches [.emerg] s t)

/-- REPEAT_TIMER_EXPIRY, SPACING_TIMER_EXPIRY and MARKER_TIMER_EXPIRY (R171, R172, R176, R184). That REPEAT_TIMER_EXPIRY with no
timer running changes nothing is the model's choice (log 1). -/
def Obligations.AlarmTimersRepeatTheCall : Prop := AlarmTimersOfferTheCall ∧ OneOwnEntryAtATime

/-- RELAY_STALE of both kinds, RELAY_ENTRY_AGED_OUT and ROOF_LAMP_PHASE (R8, R50, R179, R182, R183). The mark agedOut of an entry
that leaves with its last relay's result is the model's (log 20). -/
def Obligations.RelaysAgeAndTheLampFlashes : Prop :=
  (∀ (e : RelayEntry) (p : RelayPending) (b : PendEntry) (s : State), s.emerg.relays = [e] → e.pending = some p →
      findEntry p.uid s = some b → b.uid = p.uid → b.owner = .emergencyController → b.ref = .relay e.id →
      e.agedOut = false →
      (b.state = .waiting → Completes (.relayStale e.id .emergency) s fun t =>
          t.tx = { s.tx with queue := s.tx.queue.filter fun a => a.uid != p.uid }
            ∧ t.emerg.relays = [{ e with pending := none }] ∧ t.emerg.alarm = s.emerg.alarm
            ∧ OnlyTouches [.tx, .emerg] s t)
        ∧ (b.state = .deferring → Completes (.relayStale e.id .emergency) s fun t =>
          t.tx = { s.tx with queue := s.tx.queue.filter fun a => a.uid != p.uid }
            ∧ t.link = { s.link with side := .idle, deferral := none } ∧ t.emerg.relays = [{ e with pending := none }]
            ∧ t.emerg.alarm = s.emerg.alarm ∧ OnlyTouches [.link, .tx, .emerg] s t)
        ∧ (b.state = .onAir → Completes (.relayStale e.id .emergency) s fun t => OnlyTouches [] s t))
    ∧ (∀ (e : RelayEntry) (uid joined : Nat) (b : PendEntry) (s : State), s.emerg.relays = [e] →
      e.ackRelay = .pending uid joined → e.pending = none → findEntry uid s = some b → b.uid = uid →
      b.owner = .emergencyController → b.ref = .relay e.id → e.agedOut = false →
      (b.state = .waiting ∨ b.state = .deferring → Completes (.relayStale e.id .ack) s fun t =>
          t.tx = { s.tx with queue := s.tx.queue.filter fun a => a.uid != uid }
            ∧ t.link = (if b.state = .deferring then { s.link with side := .idle, deferral := none } else s.link)
            ∧ t.emerg.relays = [{ e with ackRelay := .done }] ∧ t.emerg.alarm = s.emerg.alarm
            ∧ OnlyTouches [.link, .tx, .emerg] s t)
        ∧ (b.state = .onAir → Completes (.relayStale e.id .ack) s fun t => OnlyTouches [] s t))
    ∧ (∀ (e : RelayEntry) (s : State), e ∈ s.emerg.relays →
      (∀ a ∈ s.emerg.relays, a.agedOut = false ∧ (a.id = e.id → a = e)) →
      (e.pending = none → e.ackRelay = .no ∨ e.ackRelay = .done → Completes (.relayEntryAgedOut e.id) s fun t =>
          t.emerg.relays = s.emerg.relays.filter (fun a => a.id != e.id) ∧ t.emerg.alarm = s.emerg.alarm
            ∧ OnlyTouches [.emerg] s t)
        ∧ (e.pending.isSome = true → Completes (.relayEntryAgedOut e.id) s fun t =>
          t.emerg.relays = s.emerg.relays.map (fun a => if a.id = e.id then { a with agedOut := true } else a)
            ∧ OnlyTouches [.emerg] s t))
    ∧ ∀ s : State, s.emerg.lamp = lampTable s →
      (s.emerg.lamp = .slow ∨ s.emerg.lamp = .fast → Completes .roofLampPhase s fun t =>
          t.emerg = { s.emerg with lampOn := !s.emerg.lampOn } ∧ OnlyTouches [.emerg] s t)
        ∧ (s.emerg.lamp = .steady ∨ s.emerg.lamp = .off → Completes .roofLampPhase s fun t =>
          t.emerg = s.emerg ∧ OnlyTouches [] s t)

/-! ## Requests while entries wait, while a frame is on the air, and with offers listed -/

/-- The pending entries have each their own name, below the model's counter (log 5; QueuesStayWithinCapacity keeps it so). -/
abbrev Sys2Proof.Claims.NamedOnce (s : State) : Prop :=
  (s.tx.queue.map (·.uid)).Nodup ∧ ∀ e ∈ s.tx.queue, e.uid < s.nextUid

/-- The entry that SEND_DATA makes (R41, R53). -/
def Sys2Proof.Claims.sentEntry (dest tag : Nat) (data : List Byte) (s : State) : PendEntry :=
  { uid := s.nextUid, owner := .terminalPort, ref := .none, cls := .normal, payload := .data data, dest := dest,
    fleet := s.link.fleet.getD 0, hop := 0, relayed := false, seq := none, attempts := 0, state := .waiting,
    bidWindow := none, eligible := false, windowEnded := false, tag := some tag }

/-- SEND_DATA on a channel that is free: the entry joins and the chosen one is presented, its slots counted from the next
boundary. A held BEACON is displaced by it; a held entry of its class or a higher one is not (R8, R41, R44). -/
def Sys2Proof.Claims.SendDataIsPresented : Prop :=
  ∀ (dest tag : Nat) (data : List Byte) (s : State), Up s → tag ≤ 255 → Address dest → s.link.station ≠ some dest →
    1 ≤ data.length → data.length ≤ 64 → s.tx.queue.length < 20 →
    (s.tx.queue.filter fun e => !e.isEmergency).length < 18 → Takes s → s.link.listenIn = none →
    (s.link.side = .idle → NoneOnAir s → ∀ c : PendEntry, ChosenIn (s.tx.queue ++ [sentEntry dest tag data s]) c →
        Completes (.sendData dest tag data) s fun t =>
          JustAnswered .ok .bare s t ∧ Presented false c (s.tx.queue ++ [sentEntry dest tag data s]) s.link t
            ∧ OnlyTouches [.link, .tx, .port] s t)
      ∧ (∀ h c : PendEntry, s.link.side = .deferring → heldEntry s = some h → h.cls = .beacon →
          ChosenIn (handedBack (s.tx.queue ++ [sentEntry dest tag data s])) c →
          Completes (.sendData dest tag data) s fun t =>
            JustAnswered .ok .bare s t
              ∧ Presented false c (handedBack (s.tx.queue ++ [sentEntry dest tag data s])) s.link t
              ∧ OnlyTouches [.link, .tx, .port] s t)
      ∧ ∀ h : PendEntry, s.link.side = .deferring → heldEntry s = some h → h.cls ≠ .beacon →
          (∀ a ∈ s.tx.queue, MayBeChosen a → classPlace h.cls ≤ classPlace a.cls) →
          Completes (.sendData dest tag data) s fun t =>
            JustAnswered .ok .bare s t ∧ t.tx = { s.tx with queue := s.tx.queue ++ [sentEntry dest tag data s] }
              ∧ OnlyTouches [.tx, .port] s t

/-- The classes that do not wait in DORMANT (R49). -/
def Sys2Proof.Claims.leavesInDormant (c : TxClass) : Bool := c == .bid || c == .beacon || c == .emergencyRelay

/-- The link controller as DORMANT stops it between frames (R22, R49). -/
def Sys2Proof.Claims.stoppedLink (s : State) : Link :=
  { s.link with
    slotClock := false, partialSpan := 0, listenIn := none, gap := none, deferral := none, carrierInAckGap := false,
    decisionWaits := false, lackHeard := false, side := .idle }

/-- ENTER_DORMANT with entries in the pending queue and none in an exchange: BID, BEACON and relay entries leave, the rest wait. A
BID that leaves makes its offer entry MISSED, a relay that leaves takes its repeat sequence back (R49, R68, R182). -/
def Sys2Proof.Claims.EnterDormantSortsTheQueue : Prop :=
  ∀ s : State, Up s → MayStop s → s.link.keyed = false → s.link.side = .idle ∨ s.link.side = .deferring → NamedOnce s →
    (∀ e ∈ s.tx.queue, e.state = .waiting ∨ (e.state = .deferring ∧ s.link.side = .deferring)) →
    (s.tx.queue.filter fun e => e.state == .deferring).length ≤ 1 →
    Completes .enterDormant s fun t =>
      t.port.part = .dormant ∧ Answered .ok .bare s t ∧ t.link = stoppedLink s
        ∧ t.tx.queue = handedBack (s.tx.queue.filter fun e => !leavesInDormant e.cls) ∧ t.tx.tickTimer = none
        ∧ (∀ e : PendEntry, s.tx.queue = [e] → e.owner = .offerEngine → e.cls = .bid → ∀ o : OfferEntry, Listed o s →
            o.state = .bidWait → o.bidFrame = some ⟨e.uid, none⟩ → OwnsFrame o e.uid s →
            t.offers.table = tableWith o (afterBid false none 0 o) s)
        ∧ (∀ e : PendEntry, s.tx.queue = [e] → e.owner = .emergencyController → e.cls = .emergencyRelay →
            ∀ (r : RelayEntry) (p : RelayPending), s.emerg.relays = [r] → e.ref = .relay r.id → r.agedOut = false →
            r.pending = some p → p.uid = e.uid →
            t.emerg.relays = [{ r with pending := none, highest := p.before }])
        ∧ t.fare = s.fare ∧ t.store = s.store ∧ t.msg.queue.map (·.pair) = s.msg.queue.map (·.pair)
        ∧ t.pending = s.pending

/-- ENTER_DORMANT with one entry in an exchange: a BID leaves with NO_LACK; another completes the airtime of its frame, or in
its ack gap goes back to WAITING with its attempts as they stood (R15, R49). -/
def Sys2Proof.Claims.EnterDormantEndsTheExchange : Prop :=
  ∀ (e : PendEntry) (s : State), Up s → MayStop s → s.tx.queue = [e] →
    (s.link.side = .onAir → s.link.keyed = true → s.link.runOff ≠ some .restart → e.state = .onAir → e.cls ≠ .bid →
          Completes .enterDormant s fun t =>
        t.port.part = .dormant ∧ Answered .ok .bare s t
          ∧ t.link = { stoppedLink s with side := .onAir, runOff := some .dormant } ∧ t.tx.queue = [e]
          ∧ t.tx.tickTimer = none ∧ OnlyTouches [.link, .tx, .port] s t)
      ∧ (s.link.side = .ackWait → s.link.keyed = false → e.state = .awaitLack → e.unicast = true → e.cls ≠ .bid →
          Completes .enterDormant s fun t =>
        t.port.part = .dormant ∧ Answered .ok .bare s t ∧ t.link = stoppedLink s
          ∧ t.tx.queue = [{ e with state := .waiting }] ∧ t.tx.tickTimer = none ∧ OnlyTouches [.link, .tx, .port] s t)
      ∧ (e.state = .onAir ∨ e.state = .awaitLack → s.link.runOff ≠ some .restart → e.cls = .bid → e.owner = .offerEngine →
          Completes .enterDormant s fun t =>
        t.port.part = .dormant ∧ t.tx.queue = [] ∧ t.link.keyed = s.link.keyed
          ∧ (s.link.keyed = true → t.link.runOff = some .dormant)
          ∧ (∀ o : OfferEntry, Listed o s → o.state = .bidWait → o.bidFrame = some ⟨e.uid, none⟩ → OwnsFrame o e.uid s →
              t.offers.table = tableWith o (afterBid false none 0 o) s)
          ∧ OnlyTouches [.link, .tx, .offers, .msg, .port] s t)

/-- RESTART with a frame on the air: the frame stays until its airtime ends, its entry with it, and nothing else of the queue
(R15, R59; that the entry then goes without a result is log 11). -/
def Sys2Proof.Claims.RestartLetsTheFrameRunOff : Prop :=
  ∀ (e : PendEntry) (rest : List PendEntry) (s : State), Up s → MayStop s → s.link.keyed = true → s.link.side = .onAir →
    s.tx.queue = e :: rest → e.state = .onAir → (∀ a ∈ rest, a.state = .waiting) → Completes .restart s fun t =>
      t.port.part = .unconfigured ∧ t.tx = { Tx.reset with queue := [e] } ∧ t.link.keyed = true
        ∧ t.link.side = .onAir ∧ t.link.txFrame = s.link.txFrame ∧ t.link.txSlots = s.link.txSlots
        ∧ t.link.runOff = some .restart ∧ t.link.slotClock = false ∧ t.link.station = none ∧ t.link.fleet = none
        ∧ t.rx = .reset ∧ t.offers = .reset ∧ t.fare = .reset ∧ t.msg.queue = [] ∧ t.emerg.relays = []
        ∧ t.store = { s.store with historyCarry := true } ∧ t.pending = s.pending

/-- A frame that RESTART left on the air: ENTER_DORMANT, with the part in RUNNING again, leaves it and its entry as they are, a BID
among them; END_OF_AIRTIME takes the entry away with no result, and leaves what has joined since (R15, R49, R59, log 11; that the
last fault kind stands is log 42). -/
def Sys2Proof.Claims.RestartedFrameGoesWithoutAResult : Prop :=
  ∀ (e : PendEntry) (rest : List PendEntry) (s : State), s.link.keyed = true → s.link.runOff = some .restart →
    s.tx.queue = e :: rest → e.state = .onAir → (∀ a ∈ rest, a.uid ≠ e.uid ∧ a.state = .waiting) →
    (Up s → MayStop s → s.link.side = .onAir → (∀ a ∈ rest, leavesInDormant a.cls = false) →
        Completes .enterDormant s fun t =>
        t.port.part = .dormant ∧ Answered .ok .bare s t ∧ t.link = { stoppedLink s with side := .onAir }
          ∧ t.tx = { s.tx with tickTimer := none } ∧ OnlyTouches [.link, .tx, .port] s t)
      ∧ Completes .endOfAirtime s fun t =>
        t.link.keyed = false ∧ t.link.side = .idle ∧ t.link.runOff = none ∧ t.link.lastFault = s.link.lastFault
          ∧ t.tx = { s.tx with queue := rest } ∧ OnlyTouches [.link, .tx] s t

/-- END_OF_AIRTIME of a frame that ENTER_DORMANT left on the air (R15, R21, R49, logs 31, 42, 64). -/
def Sys2Proof.Claims.RunOffEndsWithTheAirtime : Prop :=
  ∀ (e : PendEntry) (s : State), s.link.keyed = true → s.tx.queue = [e] → e.state = .onAir →
    (s.link.runOff = some .dormant → e.unicast = true → Completes .endOfAirtime s fun t =>
        t.link.keyed = false ∧ t.link.side = .idle ∧ t.link.runOff = none
          ∧ t.tx = { s.tx with queue := [{ e with state := .waiting }] } ∧ t.link.lastFault = s.link.lastFault
          ∧ OnlyTouches [.link, .tx] s t)
      ∧ (s.link.runOff = some .dormant → e.unicast = false → e.owner = .terminalPort → s.link.keyFault = false →
          s.tx.outcomes.length < 16 → Completes .endOfAirtime s fun t =>
        t.link.keyed = false ∧ t.link.side = .idle ∧ t.link.runOff = none ∧ t.link.lastFault = .none
          ∧ t.tx = { s.tx with
              queue := []
              outcomes := s.tx.outcomes ++ [⟨e.tag.getD 0, .broadcastSent, e.attempts + 1, false⟩] }
          ∧ t.port = (raise .sendOutcome .outcomes s).port ∧ OnlyTouches [.link, .tx, .port] s t)
      ∧ (s.link.runOff = some .dormant → e.unicast = false → s.link.keyFault = true → Completes .endOfAirtime s fun t =>
        t.link.keyed = false ∧ t.link.side = .idle ∧ t.link.runOff = none ∧ t.link.lastFault = s.link.lastFault)

/-- The held-job reference names the entry in a job-held state, and there is at most one (R63). -/
abbrev Sys2Proof.Claims.OneJobHeld (s : State) : Prop :=
  ∀ o ∈ s.offers.table, s.offers.heldJob = some o.id ↔
    (o.state = .awarded ∨ o.state = .accepting ∨ o.state = .held ∨ o.state = .heldUnconfirmed)

/-- Each id stands once in the offer table (R60). -/
abbrev Sys2Proof.Claims.EachOfferOnce (s : State) : Prop := (s.offers.table.map (·.id)).Nodup

/-- An entry whose treatment sends nothing and takes nothing back. -/
abbrev Sys2Proof.Claims.SendsNothing (o : OfferEntry) : Prop := o.state ≠ .bidWait ∧ o.state ≠ .awarded

/-- An offer entry after METER_HIRE gave a trip the number `n`: a bid that was sent is given up, a job taken is linked (R78). -/
def Sys2Proof.Claims.afterHire (n : Nat) (o : OfferEntry) : OfferEntry :=
  match o.state with
  | .bidSent => { o with state := .ineligible, reason := some .meter, awardTimer := none, acceptTimer := none }
  | .accepting | .held | .heldUnconfirmed => { o with linkedTrip := some n, awardTimer := none, acceptTimer := none }
  | _ => o

/-- What METER_HIRE needs to form a trip (R87). -/
abbrev Sys2Proof.Claims.MayHire (n : Nat) (s : State) : Prop :=
  Up s ∧ s.fare.meter = .vacant ∧ 1 ≤ n ∧ n ≤ s.fare.tariffs.length ∧ s.trips.shift.isOpen = true ∧ StoreTakesGroups s

/-- The next trip number (R115). -/
def Sys2Proof.Claims.nextTrip (s : State) : Nat := if s.trips.lastTrip < 65535 then s.trips.lastTrip + 1 else 1

/-- METER_HIRE with listed offers (R78): what each entry becomes, and the job id of the trip. -/
def Sys2Proof.Claims.MeterHireTreatsTheOffers : Prop :=
  ∀ (n : Nat) (s : State), MayHire n s → EachOfferOnce s → OneJobHeld s → (∀ o ∈ s.offers.table, SendsNothing o) →
    Completes (.meterHire n) s fun t =>
      Answered .ok (.number (nextTrip s)) s t ∧ t.fare.meter = .hired
        ∧ t.offers = { s.offers with table := s.offers.table.map (afterHire (nextTrip s)) }
        ∧ (∃ trip : Trip, t.fare.trip = some trip ∧ trip.number = nextTrip s
            ∧ (∀ o ∈ s.offers.table, s.offers.heldJob = some o.id → trip.jobId = some o.id)
            ∧ ((∀ o ∈ s.offers.table, s.offers.heldJob ≠ some o.id) → trip.jobId = none))
        ∧ OnlyTouches [.fare, .trips, .offers, .msg, .port] s t ∧ t.msg.queue = s.msg.queue

/-- The BID of an offer entry stands in the pending queue under its own name, and no other offer entry names it. -/
abbrev Sys2Proof.Claims.HasBid (o : OfferEntry) (b : PendEntry) (s : State) : Prop :=
  o.state = .bidWait ∧ o.bidFrame = some ⟨b.uid, none⟩ ∧ o.replyFrame = none ∧ findEntry b.uid s = some b
    ∧ b.owner = .offerEngine

/-- What a retraction for `why` leaves of an entry whose BID had not been keyed, held for its wait or not, and of one whose BID is
in an exchange (R50, R51, R70). -/
def Sys2Proof.Claims.BidTakenBack (o : OfferEntry) (b : PendEntry) (why : RetractReason) (because : OfferReason)
    (s t : State) : Prop :=
  (b.state = .waiting ∨ b.state = .deferring → t.offers.table = [{ o with
        state := .ineligible, reason := some because, bidFrame := none, awardTimer := none, acceptTimer := none }]
      ∧ b.uid ∉ t.tx.queue.map (·.uid)
      ∧ ∀ a ∈ s.tx.queue, a.uid ≠ b.uid → a.cls ≠ .beacon → ∃ a' ∈ t.tx.queue, a'.uid = a.uid ∧ a'.payload = a.payload)
    ∧ (b.state = .onAir ∨ b.state = .awaitLack → t.offers.table = [{ o with
        bidFrame := some ⟨b.uid, some why⟩, awardTimer := none, acceptTimer := none }]
      ∧ ∃ a ∈ t.tx.queue, a.uid = b.uid ∧ a.state = .retractPending)

/-- METER_HIRE with one offer whose BID stands in the queue, or whose job is AWARDED: the BID is asked back, and a held one leaves
the link controller IDLE (R8, R50); the award is refused with BUSY, whether or not the REFUSE joins (R42, R70, R78). -/
def Sys2Proof.Claims.MeterHireTakesBack : Prop :=
  ∀ (n : Nat) (o : OfferEntry) (s : State), MayHire n s → s.offers.table = [o] →
    (∀ b : PendEntry, HasBid o b s → Completes (.meterHire n) s fun t =>
        BidTakenBack o b .meter .meter s t ∧ t.fare.meter = .hired
          ∧ t.link = (if b.state = .deferring then { s.link with side := .idle, deferral := none } else s.link)
          ∧ OnlyTouches [.link, .fare, .trips, .tx, .offers, .msg, .port] s t)
      ∧ (o.state = .awarded → s.offers.heldJob = some o.id → ReplyJoinsQuietly s → Completes (.meterHire n) s fun t =>
        ReplyJoined (.refuse o.id .busy) o.id.base s t
          ∧ t.offers = { s.offers with
              table := [{ o with state := .refused, reason := some (.refusal .busy), awardTimer := none,
                                 acceptTimer := none, replyFrame := some ⟨s.nextUid, none⟩ }]
              heldJob := none }
          ∧ t.fare.meter = .hired ∧ OnlyTouches [.fare, .trips, .tx, .offers, .msg, .port] s t)
      ∧ (o.state = .awarded → s.offers.heldJob = some o.id → 20 ≤ s.tx.queue.length →
          Completes (.meterHire n) s fun t =>
        t.offers = { s.offers with
            table := [{ o with state := .refused, reason := some (.refusal .busy), awardTimer := none,
                               acceptTimer := none }]
            heldJob := none }
          ∧ t.fare.meter = .hired ∧ OnlyTouches [.fare, .trips, .offers, .msg, .port] s t)

/-- An offer entry after the alarm left QUIET: a bid that was sent is given up, the rest stands (R79). -/
def Sys2Proof.Claims.afterAlarm (o : OfferEntry) : OfferEntry :=
  match o.state with
  | .bidSent => { o with state := .ineligible, reason := some .alarm, awardTimer := none, acceptTimer := none }
  | _ => o

/-- The alarm stands, OPEN or HELD by the link, and its first frame is in the queue. -/
def Sys2Proof.Claims.CallStands (s t : State) : Prop :=
  t.emerg.alarm = startsAs s.link.state ∧ t.emerg.repeatTimer = timerAtStart s
    ∧ t.emerg.number = some (if s.emerg.lastNumber < 255 then s.emerg.lastNumber + 1 else 0)
    ∧ ∃ e ∈ t.tx.queue, e.cls = .emergencyOrigin ∧ e.owner = .emergencyController

/-- RAISE_ALARM with listed offers, an open trip and entries in the pending queue: what each offer entry becomes, the trip has
EMERGENCY_DURING_TRIP, and no BEACON that is not on the air stays (R56, R79, R107, R170). -/
def Sys2Proof.Claims.RaiseAlarmTreatsTheNeighbours : Prop :=
  ∀ s : State, Up s → s.emerg.alarm = .quiet → s.emerg.ownEntry = none → s.tx.queue.length < 20 → NamedOnce s →
    (EachOfferOnce s → OneJobHeld s → (∀ o ∈ s.offers.table, SendsNothing o) →
        (∀ e ∈ s.tx.queue, e.cls = .beacon → e.owner = .beaconCycle) → Completes .raiseAlarm s fun t =>
        CallStands s t ∧ t.offers = { s.offers with table := s.offers.table.map afterAlarm }
          ∧ t.fare = { s.fare with trip := s.fare.trip.map fun trip => { trip with flags.emergencyDuringTrip := true } }
          ∧ (∀ e ∈ t.tx.queue, e.cls = .beacon → e.state ≠ .waiting ∧ e.state ≠ .deferring)
          ∧ (∀ e ∈ s.tx.queue, e.cls ≠ .beacon → ∃ e' ∈ t.tx.queue, e'.uid = e.uid ∧ e'.payload = e.payload)
          ∧ OnlyTouches [.link, .tx, .offers, .fare, .store, .msg, .emerg, .port] s t ∧ t.msg.queue = s.msg.queue)
      ∧ ∀ o : OfferEntry, s.offers.table = [o] → (∀ e ∈ s.tx.queue, e.cls ≠ .beacon) →
        (∀ b : PendEntry, HasBid o b s → Completes .raiseAlarm s fun t =>
            CallStands s t ∧ BidTakenBack o b .alarm .alarm s t
              ∧ OnlyTouches [.link, .tx, .offers, .fare, .store, .msg, .emerg, .port] s t)
          ∧ (o.state = .awarded → s.offers.heldJob = some o.id →
              (s.tx.queue.filter fun e => !e.isEmergency).length < 18 →
              s.tx.queue.length < 19 → Completes .raiseAlarm s fun t =>
            CallStands s t
              ∧ t.offers = { s.offers with
                  table := [{ o with state := .refused, reason := some (.refusal .unavailable), awardTimer := none,
                                     acceptTimer := none, replyFrame := some ⟨s.nextUid, none⟩ }]
                  heldJob := none }
              ∧ (∃ e ∈ t.tx.queue, e.uid = s.nextUid ∧ e.cls = .reply ∧ e.payload = .refuse o.id .unavailable
                ∧ e.dest = o.id.base)
              ∧ OnlyTouches [.link, .tx, .offers, .fare, .store, .msg, .emerg, .port] s t)

/-! ## Requests in groups -/

/-- A request outside the part states that take it is answered NOT_CONFIGURED (R188 step 2), one in DORMANT wakes the part and
is judged in RUNNING (R197), and BAD_FRAME and the release of select touch the response alone (R187, R188 step 1). -/
def Obligations.RequestsAreJudgedInOrder : Prop :=
  NotConfiguredOutsideItsStates ∧ RequestInDormantIsJudgedInRunning ∧ BadFrameAndSelectReleaseTouchTheResponse

/-- CONFIGURE with every field in range puts each into its block and the part into RUNNING (R194, R195), and restores an
alarm found open by the scan (R178). The numbers of the default action, of the history carry and of the notice enables are the
model's choice (log 21). -/
def Obligations.ConfigureTakesEffect : Prop :=
  ConfigureStartsRunning ∧ ConfigureRestoresAnOpenAlarm ∧ ConfigureMakesThePendingRaise

/-- RESTART and ENTER_DORMANT need the four conditions of R197; what each clears and what each keeps (R22, R39, R49, R59, R83,
R110, R128, R147, R165, R186, R198); entries that wait and a frame on the air included (R15, logs 11, 31, 42, 46, 64). -/
def Obligations.RestartAndDormantLeaveRunning : Prop :=
  RestartAndDormantNeedTheFourConditions ∧ RestartClearsAllButTheStoredState ∧ EnterDormantStopsTheLinkController
    ∧ EnterDormantSortsTheQueue ∧ EnterDormantEndsTheExchange ∧ RestartLetsTheFrameRunOff
    ∧ RestartedFrameGoesWithoutAResult ∧ RunOffEndsWithTheAirtime

/-- SET_POSITION, SET_AVAILABLE and LINK_REJOIN (R20, R38, R64, R65, R190). That SET_AVAILABLE's field is the byte 0 or 1 is the
model's reading (log 21). -/
def Obligations.HostInputsAreTaken : Prop := PositionAndAvailabilityAreSet ∧ LinkRejoinLeavesSilentAlone

/-- SEND_DATA joins the pending queue or is refused (R41, R53), and on a free channel is presented (R8, R9, R44); CANCEL_SEND asks
back the oldest entry of its tag (R50, R54, R57). -/
def Obligations.HostDataIsQueuedAndCancelled : Prop :=
  SendDataJoinsOrIsRefused ∧ CancelSendRetractsTheOldest ∧ SendDataIsPresented

/-- ACCEPT_JOB and REFUSE_JOB (R63, R75, R76, R81), the answer to an id out of range being the model's choice (log 76). -/
def Obligations.JobAnswersAreOffered : Prop :=
  AcceptJobOffersAnAccept ∧ RefuseJobOffersARefusal ∧ LateAnswersAreTurnedAway

/-- METER_HIRE forms a trip, or is refused in the order of R87 (R87, R88, R107, R115), and treats the listed offers (R42, R70,
R78). -/
def Obligations.MeterHireFormsOrRefuses : Prop :=
  MeterHireFormsATrip ∧ MeterHireRefusals ∧ MeterHireTreatsTheOffers ∧ MeterHireTakesBack

/-- METER_TARIFF, METER_STOP and METER_EXTRA (R89, R90, R91, R101, R105). -/
def Obligations.MeterRequestsWhileATripIsOpen : Prop :=
  MeterTariffSetsThePendingTariff ∧ MeterStopFreezesTheFare ∧ MeterExtraJoinsAndIsCharged

/-- METER_CLEAR closes the trip as its group joins the write queue, listed or NOT_LISTED, and makes a linked job DONE (R78, R92,
R117, R119). The order of the notices is the model's choice (log 37). -/
def Obligations.MeterClearFollowsItsGroup : Prop :=
  MeterClearClosesTheTrip ∧ MeterClearTreatsTheLinkedJob ∧ MeterClearNeedsAStoppedMeter

/-- MSG_READ and MSG_REPLY (R153, R154, R155). -/
def Obligations.MessagesAreReadAndAnswered : Prop := MsgReadMarksTheMessage ∧ MsgReplyQueuesAReceipt

/-- DISPLAY_SELECT, DISPLAY_WRITE, DISPLAY_READ and edit mode (R159, R161 to R163), the order of the attributes read being the
model's choice (log 77). -/
def Obligations.DisplayFollowsItsRequests : Prop :=
  DisplaySelectShowsThePage ∧ DisplayWritePutsTheCharacter ∧ DisplayWriteGoesOn ∧ DisplayRequestsAreRefused
    ∧ DisplayReadReturnsTheCharacters ∧ EditModeKeepsItsPlace

/-- RAISE_ALARM and CLEAR_ALARM (R169, R170, R171, R175, R177); what a raise does to the offers, the trip and a BEACON (R56, R79,
R107). -/
def Obligations.AlarmIsRaisedAndCleared : Prop :=
  RaiseAlarmOpensTheCall ∧ ClearAlarmSendsCleared ∧ ClearAlarmTakesTheCallBack ∧ RaiseAlarmTreatsTheNeighbours

/-! ## Encodings (R200, R201, R203) -/

/-- A frame of any kind whose fields fit their bits is received as it was sent (R7, R201). -/
def Obligations.FramesAreReceivedAsSent : Prop :=
  ∀ (k : FrameKind) (f : RxFrame), f.wellFormed = true → receiveBytes (encodeFrame k f) = .pass k f

/-- A request of any code whose fields fit their bytes is judged as the request that was sent (R200, R203). The place of the
presence byte and the codes that the manual leaves open are the model's choice (log 21), and so is that CONFIGURE's lists of fixed
size have no count byte (log 69). -/
def Obligations.RequestsAreJudgedAsSent : Prop :=
  ∀ (c : Instr) (bytes : List Byte), c.wellFormed = true → encodeRequest c = some bytes → judgeBytes bytes = .request c

/-! ## Invariants -/

open Sys2Proof.Safety in
/-- Every invariant holds right after reset. -/
def Obligations.InvariantsHoldAtReset : Prop :=
  LinkStateIsNamed State.reset ∧ QueuesFit State.reset ∧ TablesFit State.reset ∧ DisplayKeepsItsShape State.reset
    ∧ CountersFit State.reset ∧ ModesAgree State.reset

/-- The link state stays the one the fault counts name, or SILENT or RECOVERING (R16 to R20). -/
def Obligations.LinkStateStaysNamed : Prop := Safety.KeptByEveryStep Safety.LinkStateIsNamed

/-- Every queue stays within its capacity (R32, R41, R57, R191). -/
def Obligations.QueuesStayWithinCapacity : Prop := Safety.KeptByEveryStep Safety.QueuesFit

/-- Every table stays within its capacity (R60, R129, R132, R148, R151, R179), and the display keeps its shape with the cursor
on a terminal page (R157, R159, R161, R163). -/
def Obligations.TablesAndDisplayKeepTheirShape : Prop :=
  Safety.KeptByEveryStep Safety.TablesFit ∧ Safety.KeptByEveryStep Safety.DisplayKeepsItsShape

/-- Counters stay within their bounds, the meter is VACANT exactly without a trip, the alarm QUIET exactly without a number. -/
def Obligations.CountersAndModesAgree : Prop :=
  Safety.KeptByEveryStep Safety.CountersFit ∧ Safety.KeptByEveryStep Safety.ModesAgree
end

