-- ==== Sys2Proof/Laws/State.lean ====
section
/-! SUPPORT. What each named update of State leaves as it was, field by field, so that no proof unfolds a record update. -/

namespace Sys2Proof.Machine

/-! ## Notices -/

@[simp] theorem raise_keeps (k : NoticeKind) (j : Subject) (s : State) :
    (raise k j s).link = s.link ∧ (raise k j s).rx = s.rx ∧ (raise k j s).tx = s.tx ∧ (raise k j s).offers = s.offers
      ∧ (raise k j s).fare = s.fare ∧ (raise k j s).trips = s.trips ∧ (raise k j s).store = s.store
      ∧ (raise k j s).msg = s.msg ∧ (raise k j s).emerg = s.emerg ∧ (raise k j s).free = s.free
      ∧ (raise k j s).nextUid = s.nextUid ∧ (raise k j s).elapsed = s.elapsed
      ∧ (raise k j s).pending = s.pending := by
  unfold raise
  repeat' split
  all_goals simp

@[simp] theorem raise_keeps_port (k : NoticeKind) (j : Subject) (s : State) :
    (raise k j s).port.part = s.port.part ∧ (raise k j s).port.inReset = s.port.inReset
      ∧ (raise k j s).port.response = s.port.response ∧ (raise k j s).port.requestCount = s.port.requestCount
      ∧ (raise k j s).port.disabled = s.port.disabled ∧ (raise k j s).port.handedOver = s.port.handedOver
      ∧ (raise k j s).port.clock = s.port.clock := by
  unfold raise
  repeat' split
  all_goals simp

/-! ## Free values and the display memory -/

@[simp] theorem useFree_keeps (s : State) :
    s.useFree.link = s.link ∧ s.useFree.rx = s.rx ∧ s.useFree.tx = s.tx ∧ s.useFree.offers = s.offers
      ∧ s.useFree.fare = s.fare ∧ s.useFree.trips = s.trips ∧ s.useFree.store = s.store ∧ s.useFree.msg = s.msg
      ∧ s.useFree.emerg = s.emerg ∧ s.useFree.port = s.port ∧ s.useFree.nextUid = s.nextUid
      ∧ s.useFree.elapsed = s.elapsed ∧ s.useFree.pending = s.pending := by
  simp [State.useFree]

@[simp] theorem setPage_keeps (n : Nat) (l : List Line) (s : State) :
    (setPage n l s).link = s.link ∧ (setPage n l s).rx = s.rx ∧ (setPage n l s).tx = s.tx
      ∧ (setPage n l s).offers = s.offers ∧ (setPage n l s).fare = s.fare ∧ (setPage n l s).trips = s.trips
      ∧ (setPage n l s).store = s.store ∧ (setPage n l s).emerg = s.emerg ∧ (setPage n l s).port = s.port
      ∧ (setPage n l s).free = s.free ∧ (setPage n l s).nextUid = s.nextUid ∧ (setPage n l s).elapsed = s.elapsed
      ∧ (setPage n l s).pending = s.pending := by
  simp [setPage]

@[simp] theorem setPage_msg (n : Nat) (l : List Line) (s : State) :
    (setPage n l s).msg = { s.msg with pages := s.msg.pages.set n l } := rfl

@[simp] theorem setChar_keeps (p l c : Nat) (b : Byte) (s : State) :
    (setChar p l c b s).link = s.link ∧ (setChar p l c b s).rx = s.rx ∧ (setChar p l c b s).tx = s.tx
      ∧ (setChar p l c b s).offers = s.offers ∧ (setChar p l c b s).fare = s.fare
      ∧ (setChar p l c b s).trips = s.trips ∧ (setChar p l c b s).store = s.store
      ∧ (setChar p l c b s).emerg = s.emerg ∧ (setChar p l c b s).port = s.port
      ∧ (setChar p l c b s).free = s.free ∧ (setChar p l c b s).nextUid = s.nextUid
      ∧ (setChar p l c b s).elapsed = s.elapsed ∧ (setChar p l c b s).pending = s.pending := by
  simp [setChar]

@[simp] theorem setChar_keeps_msg (p l c : Nat) (b : Byte) (s : State) :
    (setChar p l c b s).msg.queue = s.msg.queue ∧ (setChar p l c b s).msg.recent = s.msg.recent
      ∧ (setChar p l c b s).msg.shown = s.msg.shown ∧ (setChar p l c b s).msg.cursor = s.msg.cursor
      ∧ (setChar p l c b s).msg.editMode = s.msg.editMode ∧ (setChar p l c b s).msg.editMark = s.msg.editMark := by
  simp [setChar]

/-! ## What follows every event -/

@[simp] theorem refreshLamp_keeps (s : State) :
    (refreshLamp s).link = s.link ∧ (refreshLamp s).rx = s.rx ∧ (refreshLamp s).tx = s.tx
      ∧ (refreshLamp s).offers = s.offers ∧ (refreshLamp s).fare = s.fare ∧ (refreshLamp s).trips = s.trips
      ∧ (refreshLamp s).store = s.store ∧ (refreshLamp s).msg = s.msg ∧ (refreshLamp s).port = s.port
      ∧ (refreshLamp s).free = s.free ∧ (refreshLamp s).nextUid = s.nextUid ∧ (refreshLamp s).elapsed = s.elapsed
      ∧ (refreshLamp s).pending = s.pending := by
  unfold refreshLamp
  split <;> simp

/-- The pattern depends on the lamp in nothing (R183). -/
@[simp] theorem lampPattern_refreshLamp (s : State) : lampPattern (refreshLamp s) = lampPattern s := by
  unfold refreshLamp
  split <;> rfl

/-- The lamp has the pattern of the state it was refreshed in (R183). -/
theorem refreshLamp_emerg (s : State) :
    (refreshLamp s).emerg = { s.emerg with lamp := lampPattern s, lampOn := (refreshLamp s).emerg.lampOn } := by
  unfold refreshLamp
  split <;> simp_all

@[simp] theorem settle_keeps (s : State) :
    (settle s).link = s.link ∧ (settle s).rx = s.rx ∧ (settle s).tx = s.tx ∧ (settle s).offers = s.offers
      ∧ (settle s).fare = s.fare ∧ (settle s).trips = s.trips ∧ (settle s).store = s.store
      ∧ (settle s).port = s.port ∧ (settle s).free = s.free ∧ (settle s).nextUid = s.nextUid
      ∧ (settle s).elapsed = s.elapsed ∧ (settle s).pending = s.pending := by
  unfold settle refreshBus refreshLamp
  split <;> simp

/-- The lamp takes the pattern of the state the event left (R183). -/
theorem settle_emerg (s : State) :
    (settle s).emerg = { s.emerg with
      lamp := lampPattern s
      lampOn := if lampPattern s = s.emerg.lamp then s.emerg.lampOn else decide (lampPattern s ≠ .off) } := by
  unfold settle refreshBus refreshLamp
  split <;> simp_all

/-- The bus carries the shown page while the display is lit (R164). -/
theorem settle_msg (s : State) :
    (settle s).msg = { s.msg with bus := if s.lit then .page (pageOf s s.msg.shown) else .dark } := by
  unfold settle refreshBus refreshLamp
  split <;> rfl

@[simp] theorem settle_keeps_emerg (s : State) :
    (settle s).emerg.alarm = s.emerg.alarm ∧ (settle s).emerg.number = s.emerg.number
      ∧ (settle s).emerg.source = s.emerg.source ∧ (settle s).emerg.nextRepeat = s.emerg.nextRepeat
      ∧ (settle s).emerg.ackHeard = s.emerg.ackHeard ∧ (settle s).emerg.openRecord = s.emerg.openRecord
      ∧ (settle s).emerg.openGroup = s.emerg.openGroup ∧ (settle s).emerg.ownEntry = s.emerg.ownEntry
      ∧ (settle s).emerg.clearedSent = s.emerg.clearedSent ∧ (settle s).emerg.pendingRaise = s.emerg.pendingRaise
      ∧ (settle s).emerg.restore = s.emerg.restore ∧ (settle s).emerg.lastNumber = s.emerg.lastNumber
      ∧ (settle s).emerg.repeatTimer = s.emerg.repeatTimer ∧ (settle s).emerg.spacingTimer = s.emerg.spacingTimer
      ∧ (settle s).emerg.markerTimer = s.emerg.markerTimer ∧ (settle s).emerg.markerShown = s.emerg.markerShown
      ∧ (settle s).emerg.relays = s.emerg.relays ∧ (settle s).emerg.relayOverflow = s.emerg.relayOverflow
      ∧ (settle s).emerg.hold = s.emerg.hold ∧ (settle s).emerg.holdTime = s.emerg.holdTime
      ∧ (settle s).emerg.marker = s.emerg.marker := by
  simp [settle_emerg]

@[simp] theorem settle_keeps_msg (s : State) :
    (settle s).msg.queue = s.msg.queue ∧ (settle s).msg.recent = s.msg.recent
      ∧ (settle s).msg.refusals = s.msg.refusals ∧ (settle s).msg.receiptLost = s.msg.receiptLost
      ∧ (settle s).msg.pages = s.msg.pages ∧ (settle s).msg.shown = s.msg.shown
      ∧ (settle s).msg.cursor = s.msg.cursor ∧ (settle s).msg.editMode = s.msg.editMode
      ∧ (settle s).msg.editMark = s.msg.editMark := by
  simp [settle_msg]

/-! ## The pending queue and the sectors -/

@[simp] theorem updateEntry_keeps (u : Nat) (f : PendEntry → PendEntry) (s : State) :
    (updateEntry u f s).link = s.link ∧ (updateEntry u f s).rx = s.rx ∧ (updateEntry u f s).offers = s.offers
      ∧ (updateEntry u f s).fare = s.fare ∧ (updateEntry u f s).trips = s.trips
      ∧ (updateEntry u f s).store = s.store ∧ (updateEntry u f s).msg = s.msg
      ∧ (updateEntry u f s).emerg = s.emerg ∧ (updateEntry u f s).port = s.port
      ∧ (updateEntry u f s).free = s.free ∧ (updateEntry u f s).nextUid = s.nextUid
      ∧ (updateEntry u f s).elapsed = s.elapsed ∧ (updateEntry u f s).pending = s.pending := by
  simp [updateEntry]

@[simp] theorem updateEntry_tx (u : Nat) (f : PendEntry → PendEntry) (s : State) :
    (updateEntry u f s).tx = { s.tx with queue := updateWhere (fun e => e.uid == u) f s.tx.queue } := rfl

@[simp] theorem dequeue_keeps (u : Nat) (s : State) :
    (dequeue u s).link = s.link ∧ (dequeue u s).rx = s.rx ∧ (dequeue u s).offers = s.offers
      ∧ (dequeue u s).fare = s.fare ∧ (dequeue u s).trips = s.trips ∧ (dequeue u s).store = s.store
      ∧ (dequeue u s).msg = s.msg ∧ (dequeue u s).emerg = s.emerg ∧ (dequeue u s).port = s.port
      ∧ (dequeue u s).free = s.free ∧ (dequeue u s).nextUid = s.nextUid ∧ (dequeue u s).elapsed = s.elapsed
      ∧ (dequeue u s).pending = s.pending := by
  simp [dequeue]

@[simp] theorem dequeue_tx (u : Nat) (s : State) :
    (dequeue u s).tx = { s.tx with queue := s.tx.queue.filter fun e => e.uid != u } := rfl

@[simp] theorem updateSector_keeps (n : Nat) (f : Sector → Sector) (s : State) :
    (updateSector n f s).link = s.link ∧ (updateSector n f s).rx = s.rx ∧ (updateSector n f s).tx = s.tx
      ∧ (updateSector n f s).offers = s.offers ∧ (updateSector n f s).fare = s.fare
      ∧ (updateSector n f s).trips = s.trips ∧ (updateSector n f s).msg = s.msg
      ∧ (updateSector n f s).emerg = s.emerg ∧ (updateSector n f s).port = s.port
      ∧ (updateSector n f s).free = s.free ∧ (updateSector n f s).nextUid = s.nextUid
      ∧ (updateSector n f s).elapsed = s.elapsed ∧ (updateSector n f s).pending = s.pending := by
  simp [updateSector]

@[simp] theorem updateSector_store (n : Nat) (f : Sector → Sector) (s : State) :
    (updateSector n f s).store = { s.store with sectors := s.store.sectors.set (n - 1) (f (sectorOf s n)) } := rfl

end Sys2Proof.Machine
end

