-- ==== Sys2Proof/Laws/Pages.lean ====
section
/-! SUPPORT. What composing the display pages leaves as it was. -/

namespace Sys2Proof.Machine

theorem newToShown_eq (s : State) : newToShown s = { s with msg.queue := (newToShown s).msg.queue } := by
  unfold newToShown
  repeat' split
  all_goals rfl

@[simp] theorem newToShown_keeps (s : State) :
    (newToShown s).link = s.link ∧ (newToShown s).rx = s.rx ∧ (newToShown s).tx = s.tx
      ∧ (newToShown s).offers = s.offers ∧ (newToShown s).fare = s.fare ∧ (newToShown s).trips = s.trips
      ∧ (newToShown s).store = s.store ∧ (newToShown s).emerg = s.emerg ∧ (newToShown s).port = s.port
      ∧ (newToShown s).free = s.free ∧ (newToShown s).nextUid = s.nextUid ∧ (newToShown s).elapsed = s.elapsed
      ∧ (newToShown s).pending = s.pending := by
  rw [newToShown_eq s]
  simp

@[simp] theorem newToShown_keeps_msg (s : State) :
    (newToShown s).msg.pages = s.msg.pages ∧ (newToShown s).msg.shown = s.msg.shown
      ∧ (newToShown s).msg.recent = s.msg.recent ∧ (newToShown s).msg.refusals = s.msg.refusals
      ∧ (newToShown s).msg.receiptLost = s.msg.receiptLost ∧ (newToShown s).msg.cursor = s.msg.cursor
      ∧ (newToShown s).msg.editMode = s.msg.editMode ∧ (newToShown s).msg.editMark = s.msg.editMark
      ∧ (newToShown s).msg.bus = s.msg.bus := by
  rw [newToShown_eq s]
  simp

@[simp] theorem composeMessages_keeps (s : State) :
    (composeMessages s).link = s.link ∧ (composeMessages s).rx = s.rx ∧ (composeMessages s).tx = s.tx
      ∧ (composeMessages s).offers = s.offers ∧ (composeMessages s).fare = s.fare
      ∧ (composeMessages s).trips = s.trips ∧ (composeMessages s).store = s.store
      ∧ (composeMessages s).emerg = s.emerg ∧ (composeMessages s).port = s.port
      ∧ (composeMessages s).free = s.free ∧ (composeMessages s).nextUid = s.nextUid
      ∧ (composeMessages s).elapsed = s.elapsed ∧ (composeMessages s).pending = s.pending := by
  simp [composeMessages]

@[simp] theorem composeMessages_keeps_msg (s : State) :
    (composeMessages s).msg.queue = (newToShown s).msg.queue ∧ (composeMessages s).msg.shown = s.msg.shown
      ∧ (composeMessages s).msg.recent = s.msg.recent ∧ (composeMessages s).msg.refusals = s.msg.refusals
      ∧ (composeMessages s).msg.receiptLost = s.msg.receiptLost ∧ (composeMessages s).msg.cursor = s.msg.cursor
      ∧ (composeMessages s).msg.editMode = s.msg.editMode ∧ (composeMessages s).msg.editMark = s.msg.editMark
      ∧ (composeMessages s).msg.bus = s.msg.bus := by
  simp [composeMessages]

@[simp] theorem writeFarePage_keeps (s : State) :
    (writeFarePage s).link = s.link ∧ (writeFarePage s).rx = s.rx ∧ (writeFarePage s).tx = s.tx
      ∧ (writeFarePage s).offers = s.offers ∧ (writeFarePage s).fare = s.fare ∧ (writeFarePage s).trips = s.trips
      ∧ (writeFarePage s).store = s.store ∧ (writeFarePage s).emerg = s.emerg ∧ (writeFarePage s).free = s.free
      ∧ (writeFarePage s).nextUid = s.nextUid ∧ (writeFarePage s).elapsed = s.elapsed
      ∧ (writeFarePage s).pending = s.pending := by
  simp [writeFarePage]

@[simp] theorem writeFarePage_keeps_msg (s : State) :
    (writeFarePage s).msg.queue = s.msg.queue ∧ (writeFarePage s).msg.shown = s.msg.shown
      ∧ (writeFarePage s).msg.recent = s.msg.recent ∧ (writeFarePage s).msg.refusals = s.msg.refusals
      ∧ (writeFarePage s).msg.receiptLost = s.msg.receiptLost ∧ (writeFarePage s).msg.cursor = s.msg.cursor
      ∧ (writeFarePage s).msg.editMode = s.msg.editMode ∧ (writeFarePage s).msg.editMark = s.msg.editMark
      ∧ (writeFarePage s).msg.bus = s.msg.bus := by
  simp [writeFarePage]

/-- FARE_CHANGED is judged against the notice list alone, so the page does not matter to it. -/
theorem raise_port (k : NoticeKind) (j : Subject) (s t : State) (h : s.port = t.port) :
    (raise k j s).port = (raise k j t).port := by
  unfold raise State.hasOverflow
  rw [h]
  repeat' split
  all_goals simp [h]

theorem writeFarePage_port (s : State) : (writeFarePage s).port = (raise .fareChanged .meter s).port :=
  raise_port _ _ _ _ rfl

@[simp] theorem writeJobPage_keeps (s : State) :
    (writeJobPage s).link = s.link ∧ (writeJobPage s).rx = s.rx ∧ (writeJobPage s).tx = s.tx
      ∧ (writeJobPage s).offers = s.offers ∧ (writeJobPage s).fare = s.fare ∧ (writeJobPage s).trips = s.trips
      ∧ (writeJobPage s).store = s.store ∧ (writeJobPage s).emerg = s.emerg ∧ (writeJobPage s).port = s.port
      ∧ (writeJobPage s).free = s.free ∧ (writeJobPage s).nextUid = s.nextUid
      ∧ (writeJobPage s).elapsed = s.elapsed ∧ (writeJobPage s).pending = s.pending := by
  simp [writeJobPage]

@[simp] theorem writeJobPage_keeps_msg (s : State) :
    (writeJobPage s).msg.queue = s.msg.queue ∧ (writeJobPage s).msg.shown = s.msg.shown
      ∧ (writeJobPage s).msg.recent = s.msg.recent ∧ (writeJobPage s).msg.refusals = s.msg.refusals
      ∧ (writeJobPage s).msg.receiptLost = s.msg.receiptLost ∧ (writeJobPage s).msg.cursor = s.msg.cursor
      ∧ (writeJobPage s).msg.editMode = s.msg.editMode ∧ (writeJobPage s).msg.editMark = s.msg.editMark
      ∧ (writeJobPage s).msg.bus = s.msg.bus := by
  simp [writeJobPage]

@[simp] theorem showPage_keeps (n : Nat) (s : State) :
    (showPage n s).link = s.link ∧ (showPage n s).rx = s.rx ∧ (showPage n s).tx = s.tx
      ∧ (showPage n s).offers = s.offers ∧ (showPage n s).fare = s.fare ∧ (showPage n s).trips = s.trips
      ∧ (showPage n s).store = s.store ∧ (showPage n s).emerg = s.emerg ∧ (showPage n s).port = s.port
      ∧ (showPage n s).free = s.free ∧ (showPage n s).nextUid = s.nextUid ∧ (showPage n s).elapsed = s.elapsed
      ∧ (showPage n s).pending = s.pending ∧ (showPage n s).msg.shown = n := by
  simp [showPage]

end Sys2Proof.Machine
end

