-- ==== Sys2Proof/Laws/Judging.lean ====
section
/-! SUPPORT. How a request is judged (R188), said once: counted and handed to its owner, or answered NOT_CONFIGURED. -/

namespace Sys2Proof.Machine

/-- A request is counted. -/
def counted (s : State) : State := { s with port.requestCount := wrapInc 255 s.port.requestCount }

@[simp] theorem counted_keeps (s : State) :
    (counted s).link = s.link ∧ (counted s).rx = s.rx ∧ (counted s).tx = s.tx ∧ (counted s).offers = s.offers
      ∧ (counted s).fare = s.fare ∧ (counted s).trips = s.trips ∧ (counted s).store = s.store
      ∧ (counted s).msg = s.msg ∧ (counted s).emerg = s.emerg ∧ (counted s).free = s.free
      ∧ (counted s).nextUid = s.nextUid ∧ (counted s).elapsed = s.elapsed ∧ (counted s).pending = s.pending
      ∧ (counted s).port = { s.port with requestCount := wrapInc 255 s.port.requestCount } := by
  simp [counted]

@[simp] theorem respond_keeps (st : Status) (n : Nat) (r : Reply) (s : State) :
    (respond st n r s).link = s.link ∧ (respond st n r s).rx = s.rx ∧ (respond st n r s).tx = s.tx
      ∧ (respond st n r s).offers = s.offers ∧ (respond st n r s).fare = s.fare
      ∧ (respond st n r s).trips = s.trips ∧ (respond st n r s).store = s.store ∧ (respond st n r s).msg = s.msg
      ∧ (respond st n r s).emerg = s.emerg ∧ (respond st n r s).free = s.free
      ∧ (respond st n r s).nextUid = s.nextUid ∧ (respond st n r s).elapsed = s.elapsed
      ∧ (respond st n r s).pending = s.pending
      ∧ (respond st n r s).port = { s.port with response := some ⟨st, n, r⟩ } := by
  simp [respond]

theorem wake_of_not_dormant {s : State} (h : s.port.part ≠ .dormant) : wake s = s := by simp [wake, h]

/-- A request that its part state lets pass is counted, judged by its owner and answered. -/
theorem judge_taken (t : TakenIn) (o : State → State × Status × Reply) {s : State} (h : s.port.inReset = false)
    (hd : s.port.part ≠ .dormant) (ht : takenIn t s.port.part = true) :
    judge t o s =
      respond (o (counted s)).2.1 (wrapInc 255 s.port.requestCount) (o (counted s)).2.2 (o (counted s)).1 := by
  unfold judge
  simp [h, wake_of_not_dormant hd, ht, counted]

/-- A request that its part state does not let pass is counted and answered NOT_CONFIGURED. -/
theorem judge_not_configured (t : TakenIn) (o : State → State × Status × Reply) {s : State}
    (h : s.port.inReset = false) (hd : s.port.part ≠ .dormant) (ht : takenIn t s.port.part = false) :
    judge t o s = respond .notConfigured (wrapInc 255 s.port.requestCount) .bare (counted s) := by
  unfold judge
  simp [h, wake_of_not_dormant hd, ht, counted]

/-- While the reset input is asserted nothing is judged. -/
theorem judge_in_reset (t : TakenIn) (o : State → State × Status × Reply) {s : State} (h : s.port.inReset = true) :
    judge t o s = s := by simp [judge, h]

theorem takenIn_running (t : TakenIn) : takenIn t .running = true := by cases t <;> rfl

/-- A request in RUNNING. -/
theorem judge_running (t : TakenIn) (o : State → State × Status × Reply) {s : State} (h : s.port.inReset = false)
    (hr : s.port.part = .running) :
    judge t o s =
      respond (o (counted s)).2.1 (wrapInc 255 s.port.requestCount) (o (counted s)).2.2 (o (counted s)).1 :=
  judge_taken t o h (by simp [hr]) (by rw [hr]; exact takenIn_running t)

theorem wake_port (s : State) :
    (wake s).port = { s.port with part := if s.port.part = .dormant then .running else s.port.part } := by
  unfold wake
  split <;> simp_all [becomeRunning, startListening]

/-- A part that wakes has its lamp's pattern before anything is judged (R183, R197). -/
theorem becomeRunning_lamp (s : State) : (becomeRunning s).emerg.lamp = lampPattern (becomeRunning s) := by
  unfold becomeRunning
  rw [lampPattern_refreshLamp, refreshLamp_emerg]

theorem wake_wake (s : State) : wake (wake s) = wake s :=
  wake_of_not_dormant (by rw [wake_port]; dsimp only; split <;> simp_all)

/-- A request wakes the part first, and is then judged as if the part had been awake. -/
theorem judge_wake (t : TakenIn) (o : State → State × Status × Reply) {s : State} (h : s.port.inReset = false) :
    judge t o s = judge t o (wake s) := by
  have hw : (wake s).port.inReset = false := by rw [wake_port]; exact h
  unfold judge
  simp [h, hw, wake_wake]

/-- A notice raised after the count and one raised before it leave the same port. -/
theorem raise_counted_port (k : NoticeKind) (j : Subject) (s : State) :
    (raise k j (counted s)).port =
      { (raise k j s).port with requestCount := wrapInc 255 s.port.requestCount } := by
  have ho : (counted s).hasOverflow = s.hasOverflow := rfl
  unfold raise
  rw [ho]
  simp only [counted_keeps]
  by_cases h1 : s.port.disabled.contains k = true
  · simp only [h1, if_true, counted_keeps]
  · by_cases h2 : s.port.notices.contains ⟨k, j⟩ = true
    · simp only [h1, h2, if_true, if_false, counted_keeps, Bool.false_eq_true]
    · by_cases h3 : s.hasOverflow = true
      · simp only [h1, h2, h3, if_true, if_false, Bool.false_eq_true]
      · by_cases h4 : Config.noticeCapacity ≤ s.port.notices.length + 1 <;>
          simp only [h1, h2, h3, h4, if_true, if_false, Bool.false_eq_true]

end Sys2Proof.Machine
end

