-- ==== Sys2Proof/Laws/Reach.lean ====
section
/-! SUPPORT. How far the shared operations reach: everything an offer to the pending queue or the store, a result handed to its
owner, or a change of the link state can change. Each lemma says of one operation that its result agrees with its argument
outside the fields named. -/

namespace Sys2Proof.Machine

/-- `t` agrees with `s` but for what the pending queue, its results and the link states reach. -/
def Reach (s t : State) : Prop :=
  t = { s with
    link := { s.link with
      state := t.link.state, quietSpans := t.link.quietSpans, partialSpan := t.link.partialSpan, side := t.link.side,
      deferral := t.link.deferral }
    tx := { s.tx with queue := t.tx.queue, outcomes := t.tx.outcomes, outcomeLost := t.tx.outcomeLost }
    offers := { s.offers with table := t.offers.table, heldJob := t.offers.heldJob }
    fare := { s.fare with trip := t.fare.trip }
    trips := { s.trips with uploads := t.trips.uploads, lastClosed := t.trips.lastClosed }
    store := t.store
    msg := { s.msg with queue := t.msg.queue, pages := t.msg.pages }
    emerg := { s.emerg with
      alarm := t.emerg.alarm, number := t.emerg.number, source := t.emerg.source, nextRepeat := t.emerg.nextRepeat,
      openRecord := t.emerg.openRecord, openGroup := t.emerg.openGroup, ownEntry := t.emerg.ownEntry,
      clearedSent := t.emerg.clearedSent, repeatTimer := t.emerg.repeatTimer, spacingTimer := t.emerg.spacingTimer,
      relays := t.emerg.relays }
    port := { s.port with notices := t.port.notices, lost := t.port.lost }
    free := t.free
    nextUid := t.nextUid }

namespace Reach

theorem refl (s : State) : Reach s s := rfl

theorem trans {s t u : State} (h : Reach s t) (k : Reach t u) : Reach s u := by
  unfold Reach at *
  rw [h] at k
  exact k

/-- What no such operation changes. -/
theorem keeps {s t : State} (h : Reach s t) :
    t.rx = s.rx ∧ t.elapsed = s.elapsed ∧ t.pending = s.pending
      ∧ t.link.sfc = s.link.sfc ∧ t.link.hfc = s.link.hfc ∧ t.link.lastFault = s.link.lastFault
      ∧ t.link.keyed = s.link.keyed ∧ t.link.gap = s.link.gap ∧ t.link.carrier = s.link.carrier
      ∧ t.link.listenIn = s.link.listenIn ∧ t.link.slotClock = s.link.slotClock
      ∧ t.link.station = s.link.station ∧ t.link.fleet = s.link.fleet
      ∧ t.link.keyFault = s.link.keyFault ∧ t.link.lackHeard = s.link.lackHeard
      ∧ t.link.decisionWaits = s.link.decisionWaits ∧ t.link.runOff = s.link.runOff
      ∧ t.link.carrierInAckGap = s.link.carrierInAckGap ∧ t.link.seqCounter = s.link.seqCounter := by
  unfold Reach at h
  rw [h]
  simp

theorem keeps_port {s t : State} (h : Reach s t) :
    t.port.part = s.port.part ∧ t.port.inReset = s.port.inReset ∧ t.port.response = s.port.response
      ∧ t.port.requestCount = s.port.requestCount ∧ t.port.disabled = s.port.disabled
      ∧ t.port.handedOver = s.port.handedOver ∧ t.port.clock = s.port.clock := by
  unfold Reach at h
  rw [h]
  simp

theorem foldl {α : Type} (f : State → α → State) (hf : ∀ s a, Reach s (f s a)) (l : List α) (s : State) :
    Reach s (l.foldl f s) := by
  induction l generalizing s with
  | nil => exact refl s
  | cons a l ih => exact trans (hf s a) (ih (f s a))

end Reach

/-! ## Notices, pages, queue -/

theorem raise_reach (k : NoticeKind) (j : Subject) (s : State) : Reach s (raise k j s) := by
  unfold raise
  repeat' split
  all_goals rfl

theorem setPage_reach (n : Nat) (l : List Line) (s : State) : Reach s (setPage n l s) := rfl

theorem writeJobPage_reach (s : State) : Reach s (writeJobPage s) := rfl

theorem updateEntry_reach (u : Nat) (f : PendEntry → PendEntry) (s : State) : Reach s (updateEntry u f s) := rfl

theorem dequeue_reach (u : Nat) (s : State) : Reach s (dequeue u s) := rfl

theorem handBackDeferring_reach (s : State) : Reach s (handBackDeferring s) := by
  unfold handBackDeferring
  split <;> rfl

theorem present_reach (e : PendEntry) (b : Bool) (s : State) : Reach s (present e b s) := by
  unfold present
  dsimp only
  split <;> rfl

theorem accessOpportunity_reach (b : Bool) (s : State) : Reach s (accessOpportunity b s) := by
  unfold accessOpportunity
  repeat' split
  all_goals first | rfl | exact present_reach _ _ _

theorem displace_reach (b : Bool) (s : State) : Reach s (displace b s) := by
  unfold displace
  repeat' split
  all_goals first | rfl | exact (handBackDeferring_reach s).trans (accessOpportunity_reach _ _)

theorem channelBecomesFree_reach (s : State) : Reach s (channelBecomesFree s) := by
  unfold channelBecomesFree
  repeat' split
  all_goals first | rfl | exact accessOpportunity_reach _ _

theorem joinEntry_reach (e : PendEntry) (s : State) : Reach s (joinEntry e s) := by
  unfold joinEntry
  dsimp only
  repeat' split
  · refine Reach.trans ?_ (accessOpportunity_reach _ _)
    rfl
  · rfl
  · refine Reach.trans ?_ (displace_reach _ _)
    rfl

theorem offerEntry_reach (e : PendEntry) (s : State) : Reach s (offerEntry e s).1 := by
  unfold offerEntry
  repeat' split
  all_goals first | rfl | exact joinEntry_reach _ _

/-! ## The store -/

theorem updateSector_reach (n : Nat) (f : Sector → Sector) (s : State) : Reach s (updateSector n f s) := rfl

theorem haltStore_reach (s : State) : Reach s (haltStore s) := by
  unfold haltStore
  refine Reach.trans ?_ (raise_reach _ _ _)
  rfl

theorem beginErase_reach (n : Nat) (s : State) : Reach s (beginErase n s) := by
  unfold beginErase
  dsimp only
  split <;> rfl

theorem beginSwap_reach (s : State) : Reach s (beginSwap s) := by
  unfold beginSwap
  repeat' split
  all_goals first | rfl | exact beginErase_reach _ _ | exact haltStore_reach _

theorem startHead_reach (s : State) : Reach s (startHead s) := by
  unfold startHead
  repeat' split
  all_goals first | rfl | exact beginSwap_reach _

theorem kickStore_reach (s : State) : Reach s (kickStore s) := by
  unfold kickStore
  split
  · exact startHead_reach s
  · rfl

theorem offerGroup_reach (k : GroupKind) (l : List RecordBody) (s : State) : Reach s (offerGroup k l s).1 := by
  unfold offerGroup
  repeat' split
  all_goals first | rfl | (refine Reach.trans ?_ (kickStore_reach _); rfl)

/-! ## Owners -/

theorem updateOffer_reach (id : OfferId) (f : OfferEntry → OfferEntry) (s : State) :
    Reach s (updateOffer id f s) := by
  unfold updateOffer
  dsimp only
  split
  · rfl
  · refine Reach.trans ?_ (writeJobPage_reach _)
    split
    · rfl
    · refine Reach.trans ?_ (raise_reach _ _ _)
      rfl

theorem offerResult_reach (r : TxResult) (s : State) : Reach s (offerResult r s) := by
  unfold offerResult
  repeat' split
  all_goals first | rfl | exact updateOffer_reach _ _ _

theorem setUpload_reach (n : Nat) (st : UploadState) (s : State) : Reach s (setUpload n st s) := by
  unfold setUpload
  refine Reach.trans ?_ (raise_reach _ _ _)
  rfl

theorem offerUploadDone_reach (n : Nat) (s : State) : Reach s (offerUploadDone n s) := by
  unfold offerUploadDone
  dsimp only
  refine Reach.trans (offerGroup_reach (.uploadDone n) [.uploadDone n] s) ?_
  rfl

theorem tripResult_reach (r : TxResult) (s : State) : Reach s (tripResult r s) := by
  unfold tripResult
  repeat' split
  all_goals first | rfl | exact setUpload_reach _ _ _
                  | exact (setUpload_reach _ _ _).trans (offerUploadDone_reach _ _)

theorem receiptResult_reach (r : TxResult) (s : State) : Reach s (receiptResult r s) := rfl

theorem setAlarm_reach (a : AlarmState) (s : State) : Reach s (setAlarm a s) := by
  unfold setAlarm
  split
  · rfl
  · refine Reach.trans ?_ (raise_reach _ _ _)
    rfl

theorem offerOwn_reach (p : Phase) (s : State) : Reach s (offerOwn p s) := by
  have h := offerEntry_reach (ownEmergency p s) s
  unfold offerOwn
  repeat' split
  all_goals first | rfl | (simp_all; done) | (simp_all; refine Reach.trans h ?_; rfl)

theorem offerCleared_reach (s : State) : Reach s (offerCleared s) := by
  unfold offerCleared
  dsimp only
  split
  · exact offerOwn_reach _ _
  · refine Reach.trans (offerOwn_reach .cleared s) ?_
    rfl

theorem alarmQuiet_reach (s : State) : Reach s (alarmQuiet s) := by
  unfold alarmQuiet
  refine Reach.trans ?_ (setAlarm_reach _ _)
  rfl

theorem clearedSent_reach (s : State) : Reach s (clearedSent s) := by
  unfold clearedSent
  dsimp only
  split
  · refine Reach.trans ?_ (alarmQuiet_reach _)
    rfl
  · rfl

theorem ownResult_reach (o : OwnEntry) (r : TxResult) (s : State) : Reach s (ownResult o r s) := by
  unfold ownResult
  dsimp only
  repeat' split
  all_goals first
    | rfl
    | (refine Reach.trans ?_ (offerCleared_reach _); rfl)
    | (refine Reach.trans ?_ (clearedSent_reach _); rfl)

theorem updateRelay_reach (id : AlarmId) (f : RelayEntry → RelayEntry) (s : State) :
    Reach s (updateRelay id f s) := rfl

theorem emergencyResult_reach (r : TxResult) (s : State) : Reach s (emergencyResult r s) := by
  unfold emergencyResult
  repeat' split
  all_goals first | rfl | exact ownResult_reach _ _ _

theorem dataResult_reach (r : TxResult) (n : Nat) (s : State) : Reach s (dataResult r n s) := by
  unfold dataResult
  dsimp only
  refine Reach.trans ?_ (raise_reach _ _ _)
  split <;> rfl

theorem report_reach (r : TxResult) (s : State) : Reach s (report r s) := by
  unfold report
  split
  · exact offerResult_reach _ _
  · exact tripResult_reach _ _
  · exact receiptResult_reach _ _
  · exact emergencyResult_reach _ _
  · exact dataResult_reach _ _ _
  · rfl

theorem finishEntry_reach (e : PendEntry) (o : TxOutcome) (b : Bool) (s : State) :
    Reach s (finishEntry e o b s) :=
  Reach.trans (dequeue_reach _ _) (report_reach _ _)

theorem removeUnkeyed_reach (e : PendEntry) (o : TxOutcome) (b : Bool) (s : State) :
    Reach s (removeUnkeyed e o b s) := by
  unfold removeUnkeyed
  refine Reach.trans ?_ (finishEntry_reach _ _ _ _)
  split <;> rfl

theorem removeWhere_reach (p : PendEntry → Bool) (o : TxOutcome) (s : State) : Reach s (removeWhere p o s) :=
  Reach.foldl _ (fun _ _ => removeUnkeyed_reach _ _ _ _) _ _

theorem notPresent_reach (u : Nat) (s : State) : Reach s (notPresent u s) := rfl

theorem retract_reach (u : Nat) (s : State) : Reach s (retract u s) := by
  unfold retract
  repeat' split
  all_goals first | rfl | exact notPresent_reach _ _ | exact removeUnkeyed_reach _ _ _ _

theorem retractBid_reach (r : RetractReason) (id : OfferId) (s : State) : Reach s (retractBid r id s) := by
  unfold retractBid
  split
  · exact Reach.trans (updateOffer_reach _ _ _) (retract_reach _ _)
  · rfl

theorem retractReply_reach (r : RetractReason) (id : OfferId) (s : State) : Reach s (retractReply r id s) := by
  unfold retractReply
  split
  · exact Reach.trans (updateOffer_reach _ _ _) (retract_reach _ _)
  · rfl

/-! ## Link states -/

theorem setLink_reach (l : LinkState) (s : State) : Reach s (setLink l s) := by
  unfold setLink
  split
  · rfl
  · refine Reach.trans ?_ (raise_reach _ _ _)
    rfl

theorem enterRecovering_reach (s : State) : Reach s (enterRecovering s) := by
  unfold enterRecovering
  refine Reach.trans ?_ (setLink_reach _ _)
  rfl

theorem silentQueue_reach (s : State) : Reach s (silentQueue s) :=
  Reach.trans (removeWhere_reach _ _ _) (handBackDeferring_reach _)

theorem alarmAtSilent_reach (s : State) : Reach s (alarmAtSilent s) := by
  unfold alarmAtSilent
  split
  · rfl
  · exact enterRecovering_reach s
  · exact enterRecovering_reach s
  all_goals
    refine Reach.trans (enterRecovering_reach s) (Reach.trans ?_ (setAlarm_reach _ _))
    rfl

theorem enterSilent_reach (s : State) : Reach s (enterSilent s) :=
  ((setLink_reach _ s).trans (silentQueue_reach _)).trans (alarmAtSilent_reach _)

theorem enterPassive_reach (s : State) : Reach s (enterPassive s) :=
  (setLink_reach _ s).trans (removeWhere_reach _ _ _)

theorem evaluateLink_reach (s : State) : Reach s (evaluateLink s) := by
  unfold evaluateLink
  dsimp only
  repeat' split
  all_goals first | rfl | exact enterSilent_reach s | exact enterPassive_reach s | exact setLink_reach _ s

/-! ## The end of an attempt -/

theorem attemptFailed_reach (e : PendEntry) (s : State) : Reach s (attemptFailed e s) := by
  unfold attemptFailed
  dsimp only
  repeat' split
  all_goals first | rfl | exact finishEntry_reach _ _ _ _

theorem attemptDone_reach (e : PendEntry) (o : TxOutcome) (s : State) : Reach s (attemptDone e o s) :=
  finishEntry_reach _ _ _ _

/-! ## Refusals, the alarm's start -/

theorem offerRefuse_reach (id : OfferId) (r : RefuseReason) (s : State) : Reach s (offerRefuse id r s) := by
  have h := offerEntry_reach (replyEntry id (.refuse id r) s) s
  unfold offerRefuse
  split
  · simp_all
    exact Reach.trans h (updateOffer_reach _ _ _)
  · simp_all
  · simp_all

theorem refuseOwn_reach (id : OfferId) (r : RefuseReason) (s : State) : Reach s (refuseOwn id r s) :=
  (offerRefuse_reach _ _ _).trans (updateOffer_reach _ _ _)

theorem alarmOnOffer_reach (s : State) (e : OfferEntry) : Reach s (alarmOnOffer s e) := by
  unfold alarmOnOffer
  split
  all_goals first | rfl | exact retractBid_reach _ _ _ | exact updateOffer_reach _ _ _ | exact refuseOwn_reach _ _ _

theorem alarmLeavesQuiet_reach (s : State) : Reach s (alarmLeavesQuiet s) := by
  unfold alarmLeavesQuiet
  have h := Reach.foldl alarmOnOffer alarmOnOffer_reach s.offers.table s
  refine Reach.trans (Reach.trans h ?_) (removeWhere_reach _ _ _)
  rfl

theorem alarmStarts_reach (s : State) : Reach s (alarmStarts s) := by
  unfold alarmStarts
  dsimp only
  have h : ∀ a, Reach s (offerOwn .open (alarmLeavesQuiet (setAlarm a s))) := fun a =>
    ((setAlarm_reach a s).trans (alarmLeavesQuiet_reach _)).trans (offerOwn_reach _ _)
  cases s.link.state.mute
  · refine Reach.trans (h .open) ?_
    rfl
  · exact h .held

theorem offerAlarmOpen_reach (s : State) : Reach s (offerAlarmOpen s) := by
  unfold offerAlarmOpen
  split
  · rename_i r _
    have h := offerGroup_reach .alarmOpen [.alarmOpen r] s
    split <;> simp_all
    all_goals
      refine Reach.trans h ?_
      rfl
  · rfl

theorem reofferAlarmOpen_reach (s : State) : Reach s (reofferAlarmOpen s) := by
  unfold reofferAlarmOpen
  split
  · exact offerAlarmOpen_reach s
  · rfl

end Sys2Proof.Machine
end

