-- ==== Sys2Proof/Laws/Queue.lean ====
section
/-! SUPPORT. The pending queue and the write queue, said once: when an offer is refused, when it joins, and that it joins
without a presentation while the link controller is busy or the channel is. What a listed trip's own record is. -/

namespace Sys2Proof.Machine

/-- The link controller takes nothing on the event of a join: it is in an exchange, or it is IDLE and the channel is busy. -/
def Quiescent (s : State) : Prop :=
  s.link.side = .onAir ∨ s.link.side = .ackWait ∨ s.link.side = .lacking
    ∨ (s.link.side = .idle ∧ channelFree s = false)

/-- An entry that joins a quiescent part: WAITING at the end of the queue, nothing else (R41). -/
theorem joinEntry_quiescent (e : PendEntry) {s : State} (h : Quiescent s) :
    joinEntry e s = { s with
      nextUid := s.nextUid + 1
      tx.queue := s.tx.queue ++ [{ e with uid := s.nextUid, state := .waiting, attempts := 0, seq := none }] } := by
  unfold joinEntry
  dsimp only
  rcases h with h | h | h | ⟨h, hc⟩
  rotate_left 3
  · rw [if_pos h, if_neg]
    have : channelFree { s with
        nextUid := s.nextUid + 1
        tx.queue := s.tx.queue ++ [{ e with uid := s.nextUid, state := .waiting, attempts := 0, seq := none }] } =
        channelFree s := rfl
    rw [this, hc]
    exact Bool.false_ne_true
  all_goals
    simp only [h, displace]
    repeat' split
    all_goals simp_all

/-- The classes that share the 18 places are refused FULL at 20 entries, or at 18 of their own (R41). -/
theorem offerEntry_full (e : PendEntry) {s : State}
    (h : 20 ≤ s.tx.queue.length
      ∨ (e.cls ≠ .emergencyOrigin ∧ e.cls ≠ .emergencyRelay ∧ 18 ≤ ordinaryCount s.tx.queue)) :
    offerEntry e s = (s, .full) := by
  have : refusedFull s.tx.queue e.cls = true := by
    unfold refusedFull Config.pendingCapacity Config.pendingOrdinary
    rcases h with h | ⟨a, b, c⟩ <;> simp_all
  simp [offerEntry, this]

/-- An offer that meets neither reason joins (R41). -/
theorem offerEntry_joins (e : PendEntry) {s : State} (h : refusedFull s.tx.queue e.cls = false)
    (hl : refusedLink s.link.state e.cls = false) : offerEntry e s = (joinEntry e s, .joined s.nextUid) := by
  simp [offerEntry, h, hl]

theorem refusedFull_eq_false {q : List PendEntry} {c : TxClass} (h : q.length < 20) (ho : ordinaryCount q < 18) :
    refusedFull q c = false := by
  unfold refusedFull Config.pendingCapacity Config.pendingOrdinary
  simp
  omega

/-! ## The write queue (R132) -/

theorem offerGroup_fault (k : GroupKind) (l : List RecordBody) {s : State} (h : (rotation s).length < 3) :
    offerGroup k l s = (s, .sectorFault) := by
  simp [offerGroup, h]

/-- A group that replaces no waiting checkpoint is refused when the queue holds six. -/
theorem offerGroup_full (k : GroupKind) (l : List RecordBody) {s : State} (h : 3 ≤ (rotation s).length)
    (hc : s.store.queue.any (Group.isWaitingCheckpointOf k) = false) (hq : 6 ≤ s.store.queue.length) :
    offerGroup k l s = (s, .full) := by
  unfold offerGroup Config.writeCapacity
  rw [if_neg (by omega), if_neg (by simp [hc]), if_pos hq]

theorem offerGroup_joins (k : GroupKind) (l : List RecordBody) {s : State} (h : 3 ≤ (rotation s).length)
    (hc : s.store.queue.any (Group.isWaitingCheckpointOf k) = false) (hq : s.store.queue.length < 6) :
    offerGroup k l s = (kickStore { s with store.queue := s.store.queue ++ [⟨k, l, false⟩] }, .joined) := by
  unfold offerGroup Config.writeCapacity
  rw [if_neg (by omega), if_neg (by simp [hc]), if_neg (by omega)]

/-- Only a checkpoint replaces a waiting group (R133). -/
theorem no_waiting_checkpoint {k : GroupKind} (h : ∀ n, k ≠ .checkpoint n) (q : List Group) :
    q.any (Group.isWaitingCheckpointOf k) = false := by
  have : ∀ g, Group.isWaitingCheckpointOf k g = false := by
    intro g
    unfold Group.isWaitingCheckpointOf
    cases k <;> simp_all
  simp [this]

/-- A store at work starts nothing on the event of a join. -/
theorem kickStore_busy {s : State} (h : s.store.activity ≠ .idle) : kickStore s = s := by simp [kickStore, h]

/-- Below the end of the write numbers a record takes the number after the one before it (R130). -/
theorem writeNoAfter_eq (free first : Nat) : ∀ i : Nat, first + i ≤ 4294967295 → writeNoAfter free first i = first + i
  | 0, _ => rfl
  | i + 1, h => by
    rw [writeNoAfter, writeNoAfter_eq free first i (by omega), oneAbove, if_pos (by omega)]
    omega

/-- What joins the write queue changes the store, the notice list and the free values alone. -/
theorem startHead_keeps (s : State) :
    (startHead s).link = s.link ∧ (startHead s).rx = s.rx ∧ (startHead s).tx = s.tx
      ∧ (startHead s).offers = s.offers ∧ (startHead s).fare = s.fare ∧ (startHead s).trips = s.trips
      ∧ (startHead s).msg = s.msg ∧ (startHead s).emerg = s.emerg
      ∧ (startHead s).nextUid = s.nextUid ∧ (startHead s).elapsed = s.elapsed
      ∧ (startHead s).pending = s.pending := by
  unfold startHead beginSwap beginErase haltStore beginHeader beginRecord
  dsimp only
  repeat' split
  all_goals simp

/-! ## The records of the upload list (R121, R135) -/

/-- A listed trip's own record is one of the records, and carries the trip's contents. -/
theorem listedRecord_spec {rs : List Record} {t : TripRecord} {r : Record} (h : listedRecord rs t = some r) :
    r ∈ rs ∧ r.trip? = some { t with upload := .unsent } ∧ r.carry ≠ .historyCopy := by
  have hm := List.mem_filter.1 (List.mem_of_getLast? h)
  simpa [Record.standsFor] using hm

/-- A listed trip's own record is no HISTORY. -/
theorem isHistory_listedRecord {listed : List TripRecord} {rs : List Record} {t : TripRecord} {r : Record}
    (ht : t ∈ listed) (h : listedRecord rs t = some r) : isHistory listed rs r = false := by
  obtain ⟨-, hb, -⟩ := listedRecord_spec h
  unfold Record.trip? at hb
  unfold isHistory
  cases hr : r.body <;> simp_all
  exact ⟨t, ht, by simp [h]⟩

end Sys2Proof.Machine
end

