-- ==== Sys2Proof/Laws/Claims.lean ====
section
/-! SUPPORT. The small lemmas of the words the statements are made of: what `OnlyTouches`, `NothingBut` and `JustAnswered` need,
how a request in RUNNING is answered, and when an evaluation of the link changes nothing. -/

namespace Sys2Proof.Claims

open Sys2Proof.Machine

/-! ## Frames -/

theorem onlyTouches_settle {may : List Block} {s t : State} (h : OnlyTouches may s t) : OnlyTouches may s (settle t) := by
  refine ⟨by simpa using h.1, fun b => ?_⟩
  rcases h.2 b with hb | hb
  · exact Or.inl hb
  · right
    cases b <;> simp_all [Kept, settle_emerg, settle_msg]

theorem onlyTouches_refl (may : List Block) (s : State) : OnlyTouches may s s :=
  ⟨rfl, fun b => Or.inr (by cases b <;> rfl)⟩

theorem onlyTouches_mono {may more : List Block} {s t : State} (h : OnlyTouches may s t) (hm : ∀ b ∈ may, b ∈ more) :
    OnlyTouches more s t :=
  ⟨h.1, fun b => (h.2 b).imp (hm b) id⟩

theorem touches_link (s : State) (l : Link) : OnlyTouches [.link] s (settle { s with link := l }) :=
  onlyTouches_settle ⟨rfl, fun b => by cases b <;> simp [Kept]⟩

theorem touches_port (s : State) (p : Port) : OnlyTouches [.port] s { s with port := p } :=
  ⟨rfl, fun b => by cases b <;> simp [Kept]⟩

theorem nothingBut_settle {st : Status} {r : Reply} {s t : State} (h : NothingBut st r s t) :
    NothingBut st r s (settle t) :=
  ⟨by simpa [JustAnswered] using h.1, onlyTouches_settle h.2⟩

/-! ## Requests -/

/-- A request in RUNNING is counted, judged by its owner and answered. -/
theorem settle_judge_up (t : TakenIn) (o : State → State × Status × Reply) {s : State} (h : Up s) :
    settle (judge t o s) =
      settle (respond (o (counted s)).2.1 (wrapInc 255 s.port.requestCount) (o (counted s)).2.2 (o (counted s)).1) := by
  rw [judge_running t o h.2 h.1]

/-- An owner that leaves the state as it was gives the count and the answer alone. -/
theorem nothingBut_respond (s : State) (st : Status) (r : Reply) :
    NothingBut st r s (settle (respond st (wrapInc 255 s.port.requestCount) r (counted s))) := by
  refine nothingBut_settle ⟨by simp [JustAnswered], by simp, fun b => ?_⟩
  cases b <;> simp [Kept]

/-- An owner that raises one notice gives the notice, the count and the answer. -/
theorem answeredWithNotice_respond (k : NoticeKind) (j : Subject) (st : Status) (r : Reply) {s u : State}
    (h : u.port = (raise k j (counted s)).port) :
    AnsweredWithNotice k j st r s (settle (respond st (wrapInc 255 s.port.requestCount) r u)) := by
  simp [AnsweredWithNotice, JustAnswered, h, raise_counted_port]

/-- A request's owner leaves the part in RUNNING as `Up` says. -/
theorem running_of_up {s : State} (h : Up s) : s.running = true := by simp [State.running, h.1]

/-! ## Tables -/

theorem findOffer_of_listed {e : OfferEntry} {s : State} (h : Listed e s) : findOffer e.id s = some e := by
  obtain ⟨hm, hu⟩ := h
  unfold findOffer
  cases hf : s.offers.table.find? (fun a => a.id == e.id) with
  | none =>
    rw [List.find?_eq_none] at hf
    exact absurd (beq_self_eq_true e.id) (hf e hm)
  | some a =>
    have ha := List.find?_some hf
    rw [hu a (List.mem_of_find?_eq_some hf) (by simpa using ha)]

theorem findMessage_of_queued {m : Message} {s : State} (h : Queued m s) : findMessage m.pair s = some m := by
  obtain ⟨hm, hu⟩ := h
  unfold findMessage
  cases hf : s.msg.queue.find? (fun a => a.pair == m.pair) with
  | none =>
    rw [List.find?_eq_none] at hf
    exact absurd (beq_self_eq_true m.pair) (hf m hm)
  | some a =>
    have ha := List.find?_some hf
    rw [hu a (List.mem_of_find?_eq_some hf) (by simpa using ha)]

/-! ## The channel -/

theorem channelFree_iff (s : State) : channelFree s = true ↔ FreeSlots s := by
  simp [channelFree, FreeSlots, NoneOnAir]
  constructor <;> (intro h; simp_all)

/-- The link state that the counts name, SILENT and RECOVERING stand: an evaluation changes nothing (R18). -/
theorem evaluateLink_steady {s : State} (h : Steady s.link.sfc s.link.hfc s.link.state) : evaluateLink s = s := by
  unfold evaluateLink
  rcases h with h | h | h
  · simp [h, LinkState.mute]
  · simp [h, LinkState.mute]
  · simp [← h]

theorem keyedFor_keyEntry (e : PendEntry) (s : State) : KeyedFor e s (settle (keyEntry e s)) := by
  refine ⟨?_, ?_, onlyTouches_settle ⟨by simp [keyEntry], fun b => ?_⟩⟩
  · simp [keyEntry, asKeyed, giveSequence, State.station, PendEntry.frame]
  · simp [keyEntry, asKeyed, giveSequence, updateWhere]
  · cases b <;> simp [Kept, keyEntry]

/-! ## What is presented (R44) -/

theorem candidate_iff (e : PendEntry) : e.candidate = true ↔ MayBeChosen e := by
  unfold PendEntry.candidate MayBeChosen
  by_cases h : e.cls = .bid <;> simp [h]

theorem rank_eq_classPlace (c : TxClass) : c.rank = classPlace c := by cases c <;> rfl

/-- The scan that `choose` makes keeps a candidate that no later one is above. -/
theorem foldl_keeps (l : List PendEntry) (e : PendEntry) (h : ∀ a ∈ l, e.cls.rank ≤ a.cls.rank) :
    l.foldl (fun best a => match best with
      | none => some a
      | some b => if a.cls.rank < b.cls.rank then some a else some b) (some e) = some e := by
  induction l with
  | nil => rfl
  | cons a l ih =>
    have ha : ¬ a.cls.rank < e.cls.rank := by have := h a (by simp); omega
    simp only [List.foldl_cons, ha, if_false]
    exact ih fun b hb => h b (by simp [hb])

/-- What the scan has found in a list that stands below `e`, `e` replaces. -/
theorem foldl_below (l : List PendEntry) (e : PendEntry) (best : Option PendEntry)
    (hb : ∀ b, best = some b → e.cls.rank < b.cls.rank) (h : ∀ a ∈ l, e.cls.rank < a.cls.rank) :
    ∀ b, l.foldl (fun best a => match best with
      | none => some a
      | some b => if a.cls.rank < b.cls.rank then some a else some b) best = some b → e.cls.rank < b.cls.rank := by
  induction l generalizing best with
  | nil => exact hb
  | cons a l ih =>
    refine ih _ ?_ fun b hb => h b (by simp [hb])
    have ha := h a (by simp)
    intro b
    cases best with
    | none => simp only [Option.some.injEq]; intro h; rw [← h]; exact ha
    | some c =>
      have hc := hb c rfl
      dsimp only
      split <;> simp only [Option.some.injEq] <;> intro h <;> rw [← h] <;> assumption

/-- The entry of the highest class that joined first is the one chosen (R44). -/
theorem choose_of_chosen {q : List PendEntry} {e : PendEntry} (h : ChosenIn q e) : choose q = some e := by
  obtain ⟨before, after, rfl, he, hb, ha⟩ := h
  unfold choose
  simp only [List.filter_append, List.filter_cons, (candidate_iff e).2 he, if_true, List.foldl_append, List.foldl_cons]
  have below := foldl_below (before.filter PendEntry.candidate) e none (by simp) (by
    intro a h
    rw [List.mem_filter, candidate_iff] at h
    simpa [rank_eq_classPlace] using hb a h.1 h.2)
  have above : ∀ a ∈ after.filter PendEntry.candidate, e.cls.rank ≤ a.cls.rank := by
    intro a h
    rw [List.mem_filter, candidate_iff] at h
    simpa [rank_eq_classPlace] using ha a h.1 h.2
  generalize (before.filter PendEntry.candidate).foldl _ none = o at below
  cases o with
  | none => exact foldl_keeps _ _ above
  | some b => simp only [below b rfl, if_true]; exact foldl_keeps _ _ above

/-- A presentation takes the entry with a count in the range of its class (R8, R9, R10). -/
theorem presented_present (e : PendEntry) (boundary : Bool) (s : State) :
    Presented boundary e s.tx.queue s.link (present e boundary s) ∧ OnlyTouches [.link, .tx] s (present e boundary s) := by
  unfold present
  split
  next h =>
    refine ⟨⟨⟨bidWait e.attempts, ?_, by simp [updateEntry]⟩, ?_⟩, by simp [updateEntry], fun b => ?_⟩
    · simp [WaitInRange, waitRange, h, bidWait]
    · simp [updateEntry, updateWhere]
    · cases b <;> simp [Kept, updateEntry]
  next h =>
    refine ⟨⟨⟨drawDeferral s.free s.link.state e.cls e.attempts, ?_, by simp [updateEntry, State.useFree]⟩, ?_⟩,
      by simp [updateEntry, State.useFree], fun b => ?_⟩
    · have := Nat.mod_lt (Config.deferralDraw s.free) (show 0 < deferralWidth e.cls by unfold deferralWidth; omega)
      unfold drawDeferral deferralLow WaitInRange
      generalize Config.deferralDraw _ % _ = r at this
      cases hc : e.cls <;> simp_all [waitRange, deferralRange, deferralWidth] <;> split <;> omega
    · simp [updateEntry, updateWhere, State.useFree]
    · cases b <;> simp [Kept, updateEntry, State.useFree]
/-- A command's meaning is a settled state, so it completes with what holds of it. -/
theorem completes_of {c : Instr} {s t : State} {P : State → Prop} (h : exec c s = .next t) (hp : P t) :
    Completes c s P := ⟨t, h, hp⟩

end Sys2Proof.Claims
end

