-- ==== Sys2Proof/Laws/Relays.lean ====
section
/-! SUPPORT. The relay table, said once: which entry is the oldest, and what a full table leaves for a new pair (R179). -/

namespace Sys2Proof.Machine

theorem heardBefore_iff {a b : RelayEntry} :
    a.heardBefore b = true ↔ a.lastHeard < b.lastHeard ∨ (a.lastHeard = b.lastHeard ∧ a.hearing < b.hearing) := by
  simp [RelayEntry.heardBefore]

theorem oldestRelay_mem {l : List RelayEntry} {m : RelayEntry} (h : oldestRelay l = some m) : m ∈ l := by
  induction l generalizing m with
  | nil => simp [oldestRelay] at h
  | cons e l ih =>
    unfold oldestRelay at h
    split at h
    · split at h <;> cases h <;> simp_all
    · cases h; simp

/-- The entry heard before every other one of the table is the oldest (R179). -/
theorem oldestRelay_of_heardBefore {r : RelayEntry} {l : List RelayEntry} (hr : r ∈ l)
    (h : ∀ a ∈ l, a ≠ r → r.heardBefore a = true) : oldestRelay l = some r := by
  induction l with
  | nil => simp at hr
  | cons e l ih =>
    unfold oldestRelay
    have hl : ∀ a ∈ l, a ≠ r → r.heardBefore a = true := fun a ha => h a (.tail _ ha)
    by_cases hm : r ∈ l
    · rw [ih hm hl]
      by_cases he : e = r
      · subst he; simp
      · simp [h e (.head _) he]
    · obtain rfl : r = e := by simpa [hm] using hr
      cases ho : oldestRelay l with
      | none => rfl
      | some m =>
        have hmem := oldestRelay_mem ho
        have hb := heardBefore_iff.1 (hl m hmem fun c => hm (c ▸ hmem))
        have : m.heardBefore r = false := by
          rw [← Bool.not_eq_true, heardBefore_iff]; omega
        simp [this]
/-- A full table without its oldest entry `r`, when that one may give way (R179). -/
theorem relayRoom_full {r : RelayEntry} {l : List RelayEntry} {now : Nat} (hl : 16 ≤ l.length) (ho : oldestRelay l = some r) :
    relayRoom now l =
      if 30 < now - r.lastHeard ∧ r.relaying = false then some (l.filter fun a => a.id != r.id) else none := by
  simp [relayRoom, ho, Config.relayCapacity, Nat.not_lt.2 hl]

theorem relaying_eq_false {r : RelayEntry} :
    r.relaying = false ↔ r.pending = none ∧ (r.ackRelay = .no ∨ r.ackRelay = .done) := by
  cases hp : r.pending <;> cases ha : r.ackRelay <;> simp [RelayEntry.relaying, hp, ha]

end Sys2Proof.Machine
end

