-- ==== Sys2Proof/Laws/Sectors.lean ====
section
/-! SUPPORT. The slots of a sector, said once: what a record cut short leaves missing behind whole records, that nothing is
missing once it is passed over (R129, R140), and what the ACTIVE sector depends on (R129). -/

namespace Sys2Proof.Machine

/-- The fuel of missingSlots is the number of slots; more changes nothing. -/
theorem missingSlots_fuel (n : Nat) : ∀ (m : Nat) (l : List Slot), l.length ≤ n → l.length ≤ m →
    missingSlots n l = missingSlots m l := by
  induction n with
  | zero => intro m l hn _; cases List.length_eq_zero_iff.mp (Nat.le_zero.mp hn); cases m <;> simp [missingSlots]
  | succ n ih =>
    intro m l hn hm
    cases l with
    | nil => cases m <;> simp [missingSlots]
    | cons x rest =>
      obtain ⟨m, rfl⟩ : ∃ k, m = k + 1 := ⟨m - 1, by simp at hm; omega⟩
      simp only [List.length_cons, Nat.add_le_add_iff_right] at hn hm
      cases x with
      | head r =>
        have hd : (rest.drop (r.slots - 1)).length ≤ rest.length := by simp
        simp only [missingSlots, ih m _ (hd.trans hn) (hd.trans hm)]
      | tail | blank | unreadable => simp only [missingSlots, ih m _ hn hm]

/-- Behind whole records the missing slots are those of what follows. -/
theorem missingSlots_append (n : Nat) : ∀ (used l : List Slot), used.length ≤ n → missingSlots n used = 0 →
    missingSlots (used ++ l).length (used ++ l) = missingSlots l.length l := by
  induction n with
  | zero => intro used l hn _; cases List.length_eq_zero_iff.mp (Nat.le_zero.mp hn); rfl
  | succ n ih =>
    intro used l hn h
    cases used with
    | nil => rfl
    | cons x rest =>
      simp only [List.length_cons, Nat.add_le_add_iff_right] at hn
      cases x with
      | head r =>
        have hd : (rest.drop (r.slots - 1)).length ≤ rest.length := by simp
        rw [missingSlots] at h
        split at h
        · omega
        · have hle : r.slots - 1 ≤ rest.length := by omega
          have hshort : ¬ (rest ++ l).length < r.slots - 1 := by simp; omega
          rw [List.cons_append, List.length_cons, missingSlots, if_neg hshort, List.drop_append_of_le_length hle,
            ← ih (rest.drop (r.slots - 1)) l (hd.trans hn) h]
          exact missingSlots_fuel _ _ _ (by simp) le_rfl
      | tail | blank | unreadable => simpa [missingSlots] using ih rest l hn (by simpa [missingSlots] using h)

/-- A record cut after `k + 1` slots misses the rest of its length (R129, R140). -/
theorem missingSlots_cut {used : List Slot} {r : Record} {k : Nat} (h : missingSlots used.length used = 0)
    (hk : k + 1 < r.slots) :
    let slots := used ++ Slot.head r :: List.replicate k Slot.tail
    missingSlots slots.length slots = r.slots - (k + 1) := by
  intro slots
  simp only [slots, missingSlots_append _ _ _ le_rfl h]
  rw [List.length_cons, missingSlots, if_pos (by simp; omega), List.length_replicate]
  omega

/-- A record cut after `k + 1` slots and passed over misses nothing (R129, R140). -/
theorem missingSlots_passedOver {used : List Slot} {r : Record} {k b : Nat} (h : missingSlots used.length used = 0)
    (hk : k + 1 + b = r.slots) :
    let slots := (used ++ Slot.head r :: List.replicate k Slot.tail) ++ List.replicate b Slot.blank
    missingSlots slots.length slots = 0 := by
  intro slots
  simp only [slots, List.append_assoc, List.cons_append, missingSlots_append _ _ _ le_rfl h]
  have hl : (List.replicate k Slot.tail ++ List.replicate b Slot.blank).length = r.slots - 1 := by simp; omega
  rw [List.length_cons, missingSlots, if_neg (by omega), List.drop_eq_nil_of_le (by omega)]
  cases (List.replicate k Slot.tail ++ List.replicate b Slot.blank).length <;> rfl

/-- Which sector is ACTIVE is said by the headers and the fault marks alone (R129, R141). -/
theorem activeSector_congr (s t : State) (hl : s.store.sectors.length = t.store.sectors.length)
    (h : ∀ n, (sectorOf s n).header = (sectorOf t n).header ∧ (sectorOf s n).fault = (sectorOf t n).fault) :
    activeSector s = activeSector t := by
  simp only [activeSector, sectorsWith, Machine.rotation, headerOf, hl, fun n => (h n).1, fun n => (h n).2]

end Sys2Proof.Machine
end

