-- ==== Sys2Proof/Tests/Slice0.lean ====
section
/-! SUPPORT. Tests: the checks of WellFormed, words written out from chapter 11, one step of a command on a small state, and
for every statement with hypotheses concrete values that meet them. -/

namespace Sys2Proof.Tests

open Sys2Proof Sys2Proof.Machine Sys2Proof.Claims

set_option synthInstance.maxSize 10000
set_option Elab.async false

/-! ## Small states -/

def bytes (l : List Nat) : List Byte := l.map byteOf

/-- CONFIGURE with every field in range. -/
def goodConfig : ConfigRequest :=
  { station := 100, fleet := 5, homeBase := 7, capability := 7, pulseConstant := 1000,
    tariffs := [⟨250, 20, 100, 300, 1⟩], extras := [⟨1, 150⟩], beaconTick := 10, cycleTable := List.replicate 16 1,
    priorityMode := 1, ordinaryMode := 2, acceptance := [⟨3, 1, 4000, 2⟩], defaultAction := 2, awardTimeout := 8,
    acceptTimeout := 15, historyCarry := 1, noticeEnables := List.replicate 16 1, switchHold := 20, marker := 0x2A }

/-- Four sectors in rotation, the first ACTIVE, the store idle. -/
def idleStore : Store :=
  { Store.reset with
    sectors := [⟨.active 1, [], false, false⟩] ++ List.replicate 3 ⟨.erased, [], false, false⟩
    activity := .idle, erasing := none, inProgress := false, scan := none, startUp := .formatted }

/-- A configured part in RUNNING: a shift open, the store idle, the channel free. -/
def up : State :=
  { State.reset with
    link := { Link.reset with slotClock := true, station := some 100, fleet := some 5 }
    rx := { Rx.reset with defaultAction := .toOrdinary, zones := [9] }
    tx := { Tx.reset with cycleTable := List.replicate 16 .full, tickTimer := some 10 }
    offers := { Offers.reset with available := true, cell := some ⟨10, 20⟩, capability := [.standard] }
    fare := { Fare.reset with tariffs := goodConfig.tariffs, pulseConstant := some 1000, catalogue := goodConfig.extras,
                              clockRunning := true }
    trips := { Trips.reset with shift := ⟨1, true, some 0, none, .zero⟩, homeBase := some 7 }
    store := idleStore
    port := { Port.reset with part := .running, handedOver := true } }

/-- `up` while a frame of another station is heard: nothing is presented. -/
def busy : State := { up with link := { up.link with carrier := true } }

/-- The store is writing an earlier group. -/
def writing (s : State) : State :=
  { s with store := { s.store with activity := .writing, queue := [⟨.shiftOpen, [.shift up.trips.shift 0], true⟩] } }

/-- Two sectors have left rotation. -/
def faulted (s : State) : State :=
  { s with store := { s.store with sectors :=
      [⟨.active 1, [], false, false⟩, ⟨.erased, [], false, false⟩] ++ List.replicate 2 ⟨.erased, [], true, false⟩ } }

/-- A write queue of six. -/
def fullStore (s : State) : State :=
  { s with store := { s.store with activity := .writing, queue := List.replicate 6 ⟨.shiftOpen, [], true⟩ } }

def scanning : State := { up with port := { up.port with part := .scanning } }

def unconfigured : State := { up with port := { up.port with part := .unconfigured } }

def dormant : State := { up with port := { up.port with part := .dormant } }

def noFlagsSet : TripFlags := ⟨false, false, false, false⟩

def aTrip : Trip :=
  { number := 1, jobId := none, hireTariff := 1, tariff := 1, pendingTariff := none, tariffList := [1], startTime := 0,
    endTime := none, hiredDistance := 0, waiting := 0, earned := 0, charged := 0, freeLeft := 1, freeUsed := 0, fare := 250,
    extras := [], flags := noFlagsSet }

/-- A state with a second tariff configured. -/
def twoTariffs (s : State) : State :=
  { s with fare := { s.fare with tariffs := s.fare.tariffs ++ [⟨250, 20, 120, 300, 1⟩] } }

def hired : State :=
  { up with fare := { up.fare with meter := .hired, trip := some aTrip }, trips := { up.trips with lastTrip := 1 } }

def stopped : State := { hired with fare := { hired.fare with meter := .stopped } }

def anEntry : PendEntry :=
  { uid := 0, owner := .terminalPort, ref := .none, cls := .normal, payload := .data [1#8], dest := 200, fleet := 5, hop := 0,
    relayed := false, seq := none, attempts := 0, state := .waiting, bidWindow := none, eligible := false,
    windowEnded := false, tag := some 7 }

/-- An EMERGENCY of station 200 in the queue. -/
def aRelay : PendEntry :=
  { anEntry with owner := .emergencyController, ref := .relay ⟨200, 4⟩, cls := .emergencyRelay, dest := 0xFFFF,
                 payload := .emergency ⟨200, 4⟩ 1 .open ⟨10, 20⟩, fleet := 0, hop := 2, relayed := true, tag := none }

def sentRelay : PendEntry := { aRelay with state := .onAir }

def withQueue (l : List PendEntry) (s : State) : State := { s with tx := { s.tx with queue := l }, nextUid := 100 }

def jobId : OfferId := ⟨7, 40⟩

def anOffer : OfferEntry :=
  { blankOffer jobId 0 with zone := some 9, pickup := some ⟨10, 20⟩, need := some .standard, window := some 8 }

def withOffer (e : OfferEntry) (held : Bool) (s : State) : State :=
  { s with offers := { s.offers with table := [e], heldJob := if held then some e.id else none } }

def aMessage : Message :=
  { pair := ⟨7, 3⟩, kind := .text, fleet := 5, text := [0x41#8], replies := [], lifetime := some 60, arrival := 0,
    state := .new, replyChosen := none, receipt := none }

/-- A message with its last second to live. -/
def lastSecond : Message := { aMessage with lifetime := some 1 }

def withMessages (l : List Message) (s : State) : State := { s with msg := { s.msg with queue := l } }

def alarm (a : AlarmState) (s : State) : State :=
  { s with emerg := { s.emerg with alarm := a, number := some 4, lastNumber := 4, source := some .host, nextRepeat := 1,
                                   openRecord := .written, repeatTimer := some 2 } }

/-- The next state a command answers, tested. -/
def gives (c : Instr) (s : State) (p : State → Bool) : Bool :=
  match exec c s with
  | .next t => p t
  | .fault _ | .refused _ => false

/-! ## WellFormed refuses what cannot be spelled -/

def aFrame : RxFrame :=
  { fleet := 5, source := 200, dest := 100, seq := 1, hop := 0, needsLack := false, relayed := false, payload := [] }

theorem test_wellFormed_accepts :
    (Instr.configure goodConfig).wellFormed = true ∧ (Instr.beacon aFrame).wellFormed = true
      ∧ (Instr.sendData 65535 255 (List.replicate 255 0#8)).wellFormed = true
      ∧ (Instr.setPosition ⟨⟨65535, 65535⟩, 255, [255], 4294967295⟩).wellFormed = true := by decide +kernel

theorem test_wellFormed_refuses_frames :
    { aFrame with fleet := 256 }.wellFormed = false ∧ { aFrame with source := 65536 }.wellFormed = false
      ∧ { aFrame with dest := 65536 }.wellFormed = false ∧ { aFrame with seq := 256 }.wellFormed = false
      ∧ { aFrame with hop := 4 }.wellFormed = false
      ∧ { aFrame with payload := List.replicate 101 0#8 }.wellFormed = false
      ∧ ([Instr.lack, .offer, .bid, .award, .withdraw, .message, .emergency, .emergencyAck, .beacon, .terminalData,
          .unownedFrame .accept].all fun c => !(c { aFrame with hop := 4 }).wellFormed) = true := by decide +kernel

theorem test_wellFormed_refuses_names :
    (OfferId.mk 65536 0).wellFormed = false ∧ (OfferId.mk 0 65536).wellFormed = false
      ∧ (MsgPair.mk 65536 0).wellFormed = false ∧ (MsgPair.mk 0 65536).wellFormed = false
      ∧ (AlarmId.mk 65536 0).wellFormed = false ∧ (AlarmId.mk 0 256).wellFormed = false
      ∧ ([Instr.bidSlotArrives, .bidWindowEnd, .awardTimerExpiry, .acceptTimerExpiry, .acceptJob, .refuseJob].all
          fun c => !(c ⟨65536, 0⟩).wellFormed) = true
      ∧ (Instr.messageExpiry ⟨65536, 0⟩).wellFormed = false ∧ (Instr.msgRead ⟨0, 65536⟩).wellFormed = false
      ∧ (Instr.msgReply ⟨0, 65536⟩ 0).wellFormed = false ∧ (Instr.msgReply ⟨0, 0⟩ 256).wellFormed = false
      ∧ (Instr.relayStale ⟨0, 256⟩ .ack).wellFormed = false
      ∧ (Instr.relayEntryAgedOut ⟨65536, 0⟩).wellFormed = false := by decide +kernel

theorem test_wellFormed_refuses_numbers :
    ([Instr.setAvailable, .cancelSend, .readReceived, .meterHire, .meterTariff, .meterExtra, .displaySelect].all
        fun c => !(c 256).wellFormed) = true
      ∧ (Instr.readTrip 65536).wellFormed = false ∧ (Instr.sendData 65536 0 []).wellFormed = false
      ∧ (Instr.sendData 0 256 []).wellFormed = false
      ∧ (Instr.sendData 0 0 (List.replicate 256 0#8)).wellFormed = false := by decide +kernel

theorem test_wellFormed_refuses_display :
    (Cursor.mk 256 0 0).wellFormed = false ∧ (Cursor.mk 0 256 0).wellFormed = false
      ∧ (Cursor.mk 0 0 256).wellFormed = false
      ∧ (Instr.displayWrite (some ⟨256, 0, 0⟩) [] none 0).wellFormed = false
      ∧ (Instr.displayWrite none (List.replicate 256 0#8) none 0).wellFormed = false
      ∧ (Instr.displayWrite none [] (some 256) 0).wellFormed = false
      ∧ (Instr.displayWrite none [] none 64).wellFormed = false
      ∧ (Instr.displayRead (some ⟨0, 0, 256⟩) 0 0).wellFormed = false
      ∧ (Instr.displayRead none 256 0).wellFormed = false ∧ (Instr.displayRead none 0 128).wellFormed = false := by decide +kernel

theorem test_wellFormed_refuses_position :
    (Instr.setPosition ⟨⟨65536, 0⟩, 0, [], 0⟩).wellFormed = false
      ∧ (Instr.setPosition ⟨⟨0, 65536⟩, 0, [], 0⟩).wellFormed = false
      ∧ (Instr.setPosition ⟨⟨0, 0⟩, 256, [], 0⟩).wellFormed = false
      ∧ (Instr.setPosition ⟨⟨0, 0⟩, 0, List.replicate 256 0, 0⟩).wellFormed = false
      ∧ (Instr.setPosition ⟨⟨0, 0⟩, 0, [256], 0⟩).wellFormed = false
      ∧ (Instr.setPosition ⟨⟨0, 0⟩, 0, [], 4294967296⟩).wellFormed = false := by decide +kernel

theorem test_wellFormed_refuses_config :
    ([{ goodConfig with station := 65536 }, { goodConfig with fleet := 256 }, { goodConfig with homeBase := 65536 },
      { goodConfig with capability := 256 }, { goodConfig with pulseConstant := 65536 },
      { goodConfig with tariffs := List.replicate 256 ⟨0, 0, 0, 0, 0⟩ },
      { goodConfig with tariffs := [⟨16777216, 0, 0, 0, 0⟩] }, { goodConfig with tariffs := [⟨0, 16777216, 0, 0, 0⟩] },
      { goodConfig with tariffs := [⟨0, 0, 65536, 0, 0⟩] }, { goodConfig with tariffs := [⟨0, 0, 0, 65536, 0⟩] },
      { goodConfig with tariffs := [⟨0, 0, 0, 0, 256⟩] },
      { goodConfig with extras := List.replicate 256 ⟨0, 0⟩ }, { goodConfig with extras := [⟨256, 0⟩] },
      { goodConfig with extras := [⟨0, 16777216⟩] }, { goodConfig with beaconTick := 256 },
      { goodConfig with cycleTable := [] }, { goodConfig with cycleTable := List.replicate 16 256 },
      { goodConfig with priorityMode := 256 }, { goodConfig with ordinaryMode := 256 },
      { goodConfig with acceptance := List.replicate 256 ⟨0, 0, 0, 0⟩ },
      { goodConfig with acceptance := [⟨256, 0, 0, 0⟩] }, { goodConfig with acceptance := [⟨0, 65536, 0, 0⟩] },
      { goodConfig with acceptance := [⟨0, 0, 65536, 0⟩] }, { goodConfig with acceptance := [⟨0, 0, 0, 256⟩] },
      { goodConfig with defaultAction := 256 }, { goodConfig with awardTimeout := 256 },
      { goodConfig with acceptTimeout := 256 }, { goodConfig with historyCarry := 256 },
      { goodConfig with noticeEnables := [] }, { goodConfig with noticeEnables := List.replicate 16 256 },
      { goodConfig with switchHold := 256 }, { goodConfig with marker := 256 }].all
      fun c => !(Instr.configure c).wellFormed) = true := by decide +kernel

/-! ## Words written out from chapter 11 -/

/-- The check's value over the nine digits 1 to 9, which the manual gives (R201). -/
theorem test_crc_of_digits : crc (bytes [0x31, 0x32, 0x33, 0x34, 0x35, 0x36, 0x37, 0x38, 0x39]) = 0x29B1 := by decide +kernel

/-- A LACK from station 200 to station 100: header bytes by R201, its payload the sequence it acknowledges (R6). -/
def lackBody : List Nat := [0xC6, 14, 5, 0, 200, 0, 100, 17, 0, 1, 17]

theorem test_lack_frame_is_read :
    receiveBytes (bytes lackBody ++ toBytes 2 (crc (bytes lackBody))) =
      .pass .lack { fleet := 5, source := 200, dest := 100, seq := 17, hop := 0, needsLack := false, relayed := false,
                    payload := [17#8] } := by decide +kernel

/-- Byte 8 of an EMERGENCY with hop count 3 and the relayed flag: 0xD0; noise before the start is passed over (R201). -/
theorem test_flag_byte_is_read :
    let body := bytes [0xC6, 11, 0, 0, 200, 0xFF, 0xFF, 2, 0xD0, 10, 0, 200, 4, 0, 1, 1, 0, 10, 0, 20]
    receiveBytes (bytes [0x00, 0x55] ++ body ++ toBytes 2 (crc body)) =
        .pass .emergency { fleet := 0, source := 200, dest := 0xFFFF, seq := 2, hop := 3, needsLack := false,
                           relayed := true, payload := body.drop 10 }
      ∧ parseEmergency (body.drop 10) = some ⟨⟨200, 4⟩, 1, .open, ⟨10, 20⟩⟩ := by decide +kernel

theorem test_bad_carriers :
    receiveBytes [] = .noFrame ∧ receiveBytes (bytes [1, 2, 3]) = .noFrame
      ∧ receiveBytes (bytes (lackBody.take 9)) = .cutOff ∧ receiveBytes (bytes lackBody) = .cutOff
      ∧ receiveBytes (bytes lackBody ++ [0#8, 0#8]) = .check := by decide +kernel

/-- An OFFER's payload: number 40, zone 9, cell, STANDARD, window 8, both optional fields (R202). -/
theorem test_offer_payload :
    parseOffer (bytes [0, 40, 9, 0, 10, 0, 20, 1, 8, 3, 0, 3, 0xE8, 2, 0x41, 0x42]) =
        some ⟨40, 9, ⟨10, 20⟩, .standard, 8, some 1000, some [0x41#8, 0x42#8]⟩
      ∧ parseOffer (bytes [0, 40, 9, 0, 10, 0, 20, 1, 7, 0]) = none
      ∧ parseOffer (bytes [0, 40, 9, 0, 10, 0, 20, 1, 8, 4]) = none := by decide +kernel

/-- A BID's cell is packed in three bytes, x first (R202): x = 0x123, y = 0x456. -/
theorem test_bid_payload :
    parseBid (bytes [0, 7, 0, 40, 200, 0x12, 0x34, 0x56]) = some ⟨⟨7, 40⟩, 200, ⟨0x123, 0x456⟩⟩ := by decide +kernel

theorem test_other_payloads :
    parseAward (bytes [0, 7, 0, 40, 0, 100, 1, 1, 0x41]) = some ⟨⟨7, 40⟩, 100, some [0x41#8]⟩
      ∧ parseOfferId (bytes [0, 7, 0, 40]) = some ⟨7, 40⟩
      ∧ parseMessage (bytes [0, 3, 3, 1, 1, 0x41, 2, 1, 0x42, 1, 0x43]) =
          some ⟨3, .query, 1, [0x41#8], [[0x42#8], [0x43#8]]⟩
      ∧ parseEmergencyAck (bytes [0, 100, 4]) = some ⟨100, 4⟩
      ∧ parseBeacon (bytes [1, 1, 1, 9, 0, 10, 0, 20]) = some ⟨.vacant, 9, some ⟨10, 20⟩, .active⟩
      ∧ parseBeacon (bytes [2, 1, 1, 9, 0, 10, 0, 20]) = none
      ∧ refuseOk (bytes [0, 7, 0, 40, 4]) = true ∧ receiptOk (bytes [0, 3, 2, 0]) = true
      ∧ receiptOk (bytes [0, 3, 1, 0]) = false := by decide +kernel

/-- GET_STATUS: marker, length 1, code 0x02, check (R203). -/
theorem test_request_frame :
    judgeBytes (bytes [0, 0xA5, 0, 1, 2] ++ toBytes 2 (crc (bytes [0, 1, 2]))) = .request .getStatus
      ∧ judgeBytes (bytes [0xA5, 0, 1, 2, 0, 0]) = .badFrame ∧ judgeBytes (bytes [0xA5, 0, 1, 2]) = .incomplete
      ∧ judgeBytes (bytes [0xA5, 0, 1, 0x23] ++ toBytes 2 (crc (bytes [0, 1, 0x23]))) = .badFrame
      ∧ judgeBytes (bytes [0xA5, 0, 6, 8, 0, 200, 7, 1, 0x41] ++ toBytes 2 (crc (bytes [0, 6, 8, 0, 200, 7, 1, 0x41]))) =
          .request (.sendData 200 7 [0x41#8]) := by decide +kernel

/-- A response: marker 0x5A, length, status, count, fields, check (R203). -/
theorem test_response_frame :
    Response.bytes ⟨.range, 3, .badField 17⟩ =
      bytes [0x5A, 0, 3, 2, 3, 17] ++ toBytes 2 (crc (bytes [0, 3, 2, 3, 17])) := by decide +kernel

/-- Airtime: 12 bytes of header and check take 3 slots, 112 bytes take 24 (R2). -/
theorem test_airtime : airtime 0 = 3 ∧ airtime 100 = 24 := by decide +kernel

/-! ## Values that meet the hypotheses of the statements: requests -/

theorem test_hyps_StepRunsTheFrontCommand :
    { up with pending := [.roofLampPhase] }.pending = .roofLampPhase :: [] ∧ up.pending = [] := by decide +kernel

theorem test_hyps_RequestsAreJudgedInOrder :
    isRequest .restart = true ∧ scanning.port.inReset = false ∧ scanning.port.part = .scanning
      ∧ takenInAll .restart = false ∧ unconfigured.port.inReset = false ∧ unconfigured.port.part = .unconfigured
      ∧ takenUnconfigured .restart = false ∧ dormant.port.inReset = false ∧ dormant.port.part = .dormant
      ∧ up.port.inReset = false := by decide +kernel

theorem test_hyps_ConfigureRefusesTheFirstBadField :
    unconfigured.port.inReset = false ∧ unconfigured.port.part = .unconfigured
      ∧ (configChecks { goodConfig with station := 0 })[0]? = some false
      ∧ (configChecks { goodConfig with station := 4001 })[0]? = some false
      ∧ (configChecks { goodConfig with marker := 0x20 })[16]? = some false
      ∧ (configChecks { goodConfig with marker := 0x20 }).length = 17
      ∧ (∀ m : Nat, m < 16 → (configChecks { goodConfig with marker := 0x20 })[m]? = some true)
      ∧ up.port.part = .running := by decide +kernel

def restoring : State := { unconfigured with emerg := { up.emerg with restore := some ⟨4, 0, ⟨1, 2⟩⟩ } }

theorem test_hyps_ConfigureTakesEffect :
    (∀ b ∈ configChecks goodConfig, b = true) ∧ unconfigured.emerg.restore = none
      ∧ unconfigured.emerg.pendingRaise = false ∧ restoring.port.inReset = false
      ∧ restoring.port.part = .unconfigured ∧ restoring.emerg.restore = some ⟨4, 0, ⟨1, 2⟩⟩
      ∧ restoring.emerg.ownEntry = none ∧ restoring.tx.queue = [] ∧ restoring.offers.table = [] := by decide +kernel

theorem test_hyps_ConfigureMakesThePendingRaise :
    let s := { unconfigured with emerg := { up.emerg with pendingRaise := true } }
    s.port.inReset = false ∧ s.port.part = .unconfigured ∧ s.emerg.restore = none ∧ s.emerg.pendingRaise = true
      ∧ s.emerg.alarm = .quiet ∧ s.emerg.ownEntry = none ∧ s.tx.queue = [] ∧ s.offers.table = [] := by decide +kernel

theorem test_hyps_GetStatus : up.port.inReset = false ∧ up.port.part ≠ .dormant := by decide +kernel

theorem test_hyps_RestartAndDormantLeaveRunning :
    Up hired ∧ ¬ MayStop hired ∧ Up up ∧ MayStop up ∧ up.link.keyed = false ∧ up.tx.queue = []
      ∧ up.link.side ≠ .deferring := by decide +kernel

def silent : State := { up with link := { up.link with state := .silent, sfc := 256 } }

theorem test_hyps_HostInputsAreTaken :
    Up up ∧ (⟨4095, 4095⟩ : Cell).x ≤ 4095 ∧ [0, 255, 9, 9].length ≤ 4 ∧ (∀ z ∈ [0, 255, 9, 9], z ≤ 255)
      ∧ 4095 < (⟨4096, 0⟩ : Cell).x ∧ 4 < [1, 2, 3, 4, 5].length ∧ Up silent ∧ silent.link.state = .silent
      ∧ up.link.state ≠ .silent := by decide +kernel

def oneEntry : State := withQueue [anEntry] up

theorem test_hyps_addresses :
    (∀ d ∈ [1, 4000, 0xF000, 0xF0FF, 0xFFFE, 0xFFFF], Address d)
      ∧ ∀ d ∈ [0, 4001, 0xEFFF, 0xF100, 0xFFFD], ¬ Address d := by decide +kernel

theorem test_hyps_HostDataIsQueuedAndCancelled :
    up.link.station = some 100
      ∧ up.link.station ≠ some 200 ∧ [1#8].length ≤ 64 ∧ 64 < (List.replicate 65 1#8).length
      ∧ 18 ≤ ((withQueue (List.replicate 18 anEntry) up).tx.queue.filter fun e => !e.isEmergency).length
      ∧ 20 ≤ (withQueue (List.replicate 20 { anEntry with cls := .emergencyRelay }) up).tx.queue.length := by
  decide +kernel

theorem test_hyps_HostDataIsQueuedAndCancelled_joins :
    Up busy ∧ busy.tx.queue.length < 20 ∧ (busy.tx.queue.filter fun e => !e.isEmergency).length < 18
      ∧ busy.link.side = .idle ∧ busy.link.carrier = true
      ∧ Up oneEntry ∧ OldestWithTag 7 anEntry oneEntry ∧ findEntry anEntry.uid oneEntry = some anEntry
      ∧ anEntry.state = .waiting ∧ oneEntry.tx.outcomes.length < 16
      ∧ OldestWithTag 7 { anEntry with state := .onAir } (withQueue [{ anEntry with state := .onAir }] up)
      ∧ (∀ e ∈ up.tx.queue, ¬ (e.owner = .terminalPort ∧ e.tag = some 7 ∧ e.state ≠ .retractPending)) := by
  decide +kernel

def aReceived : RxEntry := ⟨200, 100, 5, 1, 0, .notOwed, .data [1#8]⟩

def received : State := { up with rx := { up.rx with priorityQueue := [aReceived], ordinaryQueue := [aReceived] } }

theorem test_hyps_Reads :
    Up up ∧ Up received ∧ received.rx.priorityQueue ≠ [] ∧ up.rx.priorityQueue = [] := by decide +kernel

def aRecord : TripRecord :=
  { number := 1, jobId := none, tariffList := [1], startTime := 0, endTime := 5, hiredDistance := 40, waiting := 0,
    earned := 0, charged := 0, freeUsed := 0, fare := 250, extras := [], flags := noFlagsSet, upload := .unsent }

def withUpload (s : State) : State :=
  { s with trips := { s.trips with uploads := [⟨aRecord, false⟩], lastClosed := some aRecord } }

theorem test_hyps_ReadsChangeNothing :
    Up (withUpload up)
      ∧ (withUpload up).trips.uploads.find? (fun u => u.trip.number == 1) = some ⟨aRecord, false⟩
      ∧ (∀ u ∈ (withUpload up).trips.uploads, u.trip.number ≠ 2)
      ∧ (withUpload up).trips.lastClosed = some aRecord := by decide +kernel

def awarded : OfferEntry := { anOffer with state := .awarded, acceptTimer := some 15 }

def awardedBusy : State := withOffer awarded true busy

def fullQueue (s : State) : State := withQueue (List.replicate 20 { anEntry with cls := .emergencyRelay }) s

theorem test_hyps_JobAnswersAreOffered :
    Up awardedBusy ∧ Listed awarded awardedBusy ∧ awarded.state = .awarded ∧ ReplyJoinsQuietly awardedBusy
      ∧ awardedBusy.offers.heldJob = some awarded.id ∧ 20 ≤ (fullQueue awardedBusy).tx.queue.length
      ∧ Listed awarded (fullQueue awardedBusy)
      ∧ Listed { anOffer with state := .held } (withOffer { anOffer with state := .held } true busy)
      ∧ anOffer.linkedTrip = none ∧ (∀ e ∈ up.offers.table, e.id ≠ jobId)
      ∧ Listed { anOffer with state := .refused, reason := some (.refusal .timeout) }
          (withOffer { anOffer with state := .refused, reason := some (.refusal .timeout) } false up) := by
  decide +kernel

theorem test_hyps_MeterHireFormsOrRefuses :
    Up up ∧ up.fare.meter = .vacant ∧ up.fare.tariffs[1 - 1]? = some ⟨250, 20, 100, 300, 1⟩
      ∧ up.trips.shift.isOpen = true ∧ StoreTakesGroups up ∧ up.offers.table = [] ∧ Up hired
      ∧ hired.fare.meter ≠ .vacant ∧ up.fare.tariffs.length < 2 ∧ 1 ≤ up.fare.tariffs.length
      ∧ { up with trips := Trips.reset }.trips.shift.isOpen = false ∧ Up (faulted up)
      ∧ ¬ StoreTakesGroups (faulted up) := by decide +kernel

theorem test_hyps_MeterRequestsWhileATripIsOpen :
    Up hired ∧ hired.fare.meter = .hired ∧ hired.fare.trip = some aTrip ∧ 1 ≤ hired.fare.tariffs.length
      ∧ hired.fare.tariffs.length < 2 ∧ up.fare.meter ≠ .hired ∧ Up (writing hired)
      ∧ (if 1 = aTrip.tariff then none else some 1) = aTrip.pendingTariff
      ∧ Up (twoTariffs hired) ∧ (twoTariffs hired).fare.meter = .hired ∧ (twoTariffs hired).fare.trip = some aTrip
      ∧ 2 ≤ (twoTariffs hired).fare.tariffs.length ∧ (if 2 = aTrip.tariff then none else some 2) ≠ aTrip.pendingTariff
      ∧ (writing hired).store.activity ≠ .idle ∧ Up stopped
      ∧ hired.fare.catalogue.find? (fun a => a.code == 1) = some ⟨1, 150⟩ ∧ aTrip.extras.length < 8
      ∧ 8 ≤ (List.replicate 8 (Extra.mk 1 150)).length ∧ (∀ a ∈ hired.fare.catalogue, a.code ≠ 2) := by
  decide +kernel

theorem test_hyps_MeterClearFollowsItsGroup :
    Up stopped ∧ stopped.fare.meter = .stopped ∧ stopped.fare.trip = some aTrip ∧ StoreTakesGroups (writing stopped)
      ∧ (writing stopped).store.queue.length < 6 ∧ (writing stopped).store.activity ≠ .idle
      ∧ stopped.trips.uploads.length < 32 ∧ (∀ u ∈ stopped.trips.uploads, u.trip.number ≠ aTrip.number)
      ∧ (∀ e ∈ stopped.offers.table, e.linkedTrip ≠ some aTrip.number)
      ∧ StoreTakesGroups (fullStore stopped) ∧ 6 ≤ (fullStore stopped).store.queue.length
      ∧ ¬ StoreTakesGroups (faulted stopped) ∧ Up hired ∧ hired.fare.meter ≠ .stopped := by decide +kernel

/-- The job of `aTrip`, in the state `st`. -/
def tripJob (st : OfferState) : OfferEntry := { anOffer with state := st, linkedTrip := some 1 }

/-- A stopped trip whose job stands in the state `st`, with the upload list given. -/
def stoppedWith (st : OfferState) (uploads : List UploadEntry) : State :=
  let s := withOffer (tripJob st) st.isJobHeld (writing stopped)
  { s with trips := { s.trips with uploads := uploads } }

/-- An upload list of 32, and one that holds the number of `aTrip`. -/
def fullUploads : List UploadEntry :=
  (List.range 32).map fun i => ⟨{ aRecord with number := 100 + i }, false⟩

theorem test_hyps_MeterClearTreatsTheLinkedJob :
    (∀ st ∈ [OfferState.withdrawn, .lost, .accepting, .held, .heldUnconfirmed], ∀ u ∈ [[], fullUploads, [⟨aRecord, false⟩]],
      let s := stoppedWith st u
      Up s ∧ s.fare.meter = .stopped ∧ s.fare.trip = some aTrip ∧ StoreTakesGroups s ∧ s.store.queue.length < 6
        ∧ s.store.activity ≠ .idle ∧ Listed (tripJob st) s ∧ (tripJob st).linkedTrip = some aTrip.number
        ∧ (∀ e ∈ s.offers.table, e.linkedTrip = some aTrip.number → e = tripJob st)
        ∧ (st.isJobHeld = true → s.offers.heldJob = some (tripJob st).id))
      ∧ 32 ≤ (stoppedWith .held fullUploads).trips.uploads.length
      ∧ (∃ u ∈ (stoppedWith .held [⟨aRecord, false⟩]).trips.uploads, u.trip.number = aTrip.number) := by decide +kernel

theorem test_hyps_ListedAs :
    ListedAs true 1 (stoppedWith .held []) ∧ ListedAs false 1 (stoppedWith .held fullUploads)
      ∧ ListedAs false 1 (stoppedWith .held [⟨aRecord, false⟩]) := by unfold ListedAs; decide +kernel

def closedShift (s : State) : State := { s with trips := { s.trips with shift := .none } }

theorem test_hyps_Shifts :
    Up up ∧ up.trips.shift.isOpen = true ∧ up.fare.meter = .vacant ∧ up.offers.heldJob = none ∧ StoreTakesGroups up
      ∧ up.store.queue.length < 6 ∧ (writing up).store.activity ≠ .idle ∧ Up (closedShift up)
      ∧ (closedShift up).trips.shift.isOpen = false ∧ ¬ StoreTakesGroups (faulted (closedShift up))
      ∧ 6 ≤ (fullStore (closedShift up)).store.queue.length ∧ hired.fare.meter ≠ .vacant
      ∧ hired.trips.shift.isOpen = true ∧ awardedBusy.offers.heldJob ≠ none := by decide +kernel

def query : Message := { aMessage with kind := .query, replies := [[0x42#8]] }

theorem test_hyps_MessagesAreReadAndAnswered :
    (Up (withMessages [aMessage] busy) ∧ Queued aMessage (withMessages [aMessage] busy) ∧ aMessage.state = .new
      ∧ aMessage.kind = .text ∧ Queued query (withMessages [query] busy) ∧ query.kind = .query
      ∧ ReplyJoinsQuietly (withMessages [query] busy) ∧ 0 < query.replies.length ∧ query.replies.length ≤ 1
      ∧ Queued { aMessage with state := .read } (withMessages [{ aMessage with state := .read }] busy)
      ∧ Queued { aMessage with state := .expired } (withMessages [{ aMessage with state := .expired }] busy))
      ∧ (∀ k : ReceiptKind, aMessage.receipt ≠ some (.owed k)) ∧ ∀ k : ReceiptKind, query.receipt ≠ some (.owed k) := by
  refine ⟨by decide +kernel, ?_, ?_⟩ <;> · intro k; cases k <;> decide +kernel

def editing : State := { up with msg := { up.msg with editMode := true, editMark := some ⟨6, 0, 0⟩ } }

theorem test_hyps_DisplayFollowsItsRequests :
    (Up up ∧ DisplayShape up ∧ NamesPlace (some ⟨7, 3, 19⟩) ⟨7, 3, 19⟩ up ∧ NamesPlace none ⟨6, 0, 0⟩ editing
      ∧ NamesPlace none ⟨6, 0, 0⟩ up ∧ 32 ≤ (0x20#8).toNat ∧ (List.replicate 79 0x41#8).length ≤ 79
      ∧ (∀ a ∈ List.replicate 79 (0x41#8), 32 ≤ a.toNat) ∧ Up editing ∧ editing.msg.editMode = true
      ∧ up.msg.editMode = false ∧ 80 < (List.replicate 81 0x41#8).length ∧ (∃ a ∈ [0x1F#8], a.toNat < 32)
      ∧ editing.msg.editMark = some ⟨6, 0, 0⟩)
      ∧ AttrInRange none ∧ AttrInRange (some 1) ∧ AttrInRange (some 3) := by
  refine ⟨by decide +kernel, ?_, ?_, ?_⟩ <;> · intro n h; simp at h <;> omega

theorem test_hyps_AlarmIsRaisedAndCleared :
    Up up ∧ up.emerg.alarm = .quiet ∧ up.tx.queue = [] ∧ up.offers.table = [] ∧ up.fare.trip = none
      ∧ up.emerg.ownEntry = none ∧ up.link.state = .active ∧ StoreTakesGroups up ∧ up.store.queue.length < 6
      ∧ Up (alarm .open up) ∧ (alarm .open up).emerg.alarm = .open ∧ (alarm .open up).emerg.openRecord = .written
      ∧ (alarm .open up).emerg.ownEntry = none ∧ (writing (alarm .open up)).store.activity ≠ .idle
      ∧ 6 ≤ (fullStore (alarm .open up)).store.queue.length ∧ StoreTakesGroups (fullStore (alarm .open up))
      ∧ (alarm .clearing up).emerg.alarm = .clearing
      ∧ { alarm .held up with emerg := { (alarm .held up).emerg with openRecord := .owed } }.emerg.openRecord = .owed := by
  decide +kernel

/-! ## Values that meet the hypotheses of the statements: the channel -/

def deferring (d : Deferral) (e : PendEntry) : State :=
  withQueue [{ e with state := .deferring }] { up with link := { up.link with side := .deferring, deferral := some d } }

theorem test_hyps_DeferralIsCountedAtFreeSlots :
    let s := deferring ⟨4, true⟩ anEntry
    s.link.slotClock = true ∧ s.link.listenIn = none ∧ s.link.state ≠ .recovering ∧ s.link.deferral = some ⟨4, true⟩
      ∧ NoneOnAir s ∧ ¬ NoneOnAir { s with link := { s.link with carrier := true } } := by decide +kernel

def recovering (spans : Nat) : State :=
  { up with link := { up.link with state := .recovering, quietSpans := spans, partialSpan := 5 } }

def listening (n : Nat) : State := { up with link := { up.link with listenIn := some n } }

theorem test_hyps_QuietRecoversTheLinkAndEndsTheListenIn :
    (recovering 79).link.state = .recovering ∧ (recovering 79).link.deferral = none
      ∧ (recovering 79).link.carrier = false ∧ (recovering 79).link.keyed = false
      ∧ (recovering 79).link.partialSpan = 5 ∧ (recovering 78).link.quietSpans < 79
      ∧ { (recovering 0).link with partialSpan := 4 }.partialSpan < 5 ∧ (alarm .held (recovering 79)).emerg.alarm = .held
      ∧ (listening 2).link.listenIn = some 2 ∧ (listening 2).link.slotClock = true ∧ (listening 2).link.deferral = none
      ∧ (listening 2).link.keyed = false ∧ (listening 2).tx.queue = [] ∧ (listening 3).link.carrier = false := by
  decide +kernel

theorem test_hyps_CarrierHandsTheDeferralBack :
    Up (deferring ⟨4, true⟩ anEntry) ∧ (deferring ⟨4, true⟩ anEntry).link.side = .deferring
      ∧ (deferring ⟨4, true⟩ anEntry).link.keyed = false ∧ (deferring ⟨4, true⟩ anEntry).link.carrier = false
      ∧ Up up ∧ up.link.side ≠ .deferring ∧ up.link.keyed = false ∧ up.link.carrier = false := by decide +kernel

theorem test_hyps_CarrierEndMovesTheHearCount :
    HearsOut busy ∧ receiveBytes (bytes lackBody ++ [0#8, 0#8]) = .check
      ∧ receiveBytes (bytes (lackBody.take 9)) = .cutOff ∧ receiveBytes [] = .noFrame
      ∧ Steady busy.link.sfc (min 160 (busy.link.hfc + 1)) busy.link.state
      ∧ Steady busy.link.sfc (min 160 (busy.link.hfc + 2)) busy.link.state
      ∧ receiveBytes (encodeFrame .lack aFrame) = .pass .lack aFrame := by decide +kernel

/-- The counts and the link state they name. -/
def counted (sfc hfc : Nat) (l : LinkState) (s : State) : State :=
  { s with link := { s.link with sfc := sfc, hfc := hfc, state := l } }

def relayed : RelayEntry := { blankRelay ⟨200, 4⟩ 0 with highest := some 1, pending := some ⟨0, 1, none, 0⟩ }

/-- A relay waits beside an entry of the host. -/
def relayWaiting (s : State) : State :=
  withQueue [aRelay, { anEntry with uid := 3 }] { s with emerg := { s.emerg with relays := [relayed] } }

theorem moves_of {sfc hfc : Nat} {l : LinkState} {s : State}
    (h : s.link.state ≠ .silent ∧ s.link.state ≠ .recovering ∧ l = namedLink sfc hfc ∧ l ≠ s.link.state ∧ l ≠ .silent)
    (hq : ∀ e ∈ s.tx.queue, e = aRelay ∨ (e.cls ≠ .emergencyRelay ∧ e.state ≠ .deferring)) : Moves sfc hfc l s := by
  refine ⟨h.1, h.2.1, h.2.2.1, h.2.2.2.1, h.2.2.2.2, fun e he => ?_⟩
  rcases hq e he with rfl | ⟨hc, hs⟩
  · exact ⟨by decide, fun _ => ⟨rfl, ⟨200, 4⟩, rfl⟩⟩
  · exact ⟨hs, fun c => absurd c hc⟩

/-- A bad carrier makes the link WARNED, and PASSIVE while a relay waits. -/
theorem test_hyps_BadCarrierMovesTheLink :
    Moves 0 96 .warned (counted 0 95 .active busy) ∧ Moves 3 128 .passive (counted 3 126 .warned (relayWaiting busy))
      ∧ HearsOut (counted 0 95 .active busy) ∧ HearsOut (counted 3 126 .warned (relayWaiting busy)) :=
  ⟨moves_of (by decide +kernel) (by decide +kernel), moves_of (by decide +kernel) (by decide +kernel), by decide +kernel⟩

theorem test_hyps_LinkMovesTo :
    let s := relayWaiting busy
    (s.tx.queue.map (·.uid)).Nodup ∧ relayed.agedOut = false ∧ s.emerg.relays = [relayed]
      ∧ relayed.pending = some ⟨0, 1, none, 0⟩ ∧ relayed.ackRelay = .no ∧ aRelay ∈ s.tx.queue ∧ aRelay.uid = 0
      ∧ aRelay.cls = .emergencyRelay ∧ aRelay.ref = .relay relayed.id ∧ aRelay.state = .waiting := by decide +kernel

theorem test_hyps_CountRunOutKeysTheEntry :
    let s := deferring ⟨0, true⟩ anEntry
    heldEntry s = some { anEntry with state := .deferring } ∧ s.link.deferral = some ⟨0, true⟩ ∧ anEntry.cls ≠ .bid
      ∧ FreeSlots s ∧ 0 < (⟨1, true⟩ : Deferral).slots
      ∧ ¬ NoneOnAir { s with link := { s.link with gap := some .ack } } := by decide +kernel

def aBid : PendEntry :=
  { anEntry with owner := .offerEngine, ref := .offer jobId, cls := .bid, payload := .bid jobId 10 ⟨10, 20⟩, dest := 7,
                 bidWindow := some (3, 8), tag := none }

def bidding : OfferEntry := { anOffer with state := .bidWait, rank := some 10, bidSlot := some 3, bidFrame := some ⟨0, none⟩ }

def bidState (e : PendEntry) : State := withQueue [e] (withOffer bidding false up)

theorem test_hyps_BidFollowsItsSlotAndWindow :
    Up (bidState aBid) ∧ openBid jobId (bidState aBid) = some aBid ∧ aBid.payload = .bid jobId 10 ⟨10, 20⟩
      ∧ aBid.state = .waiting ∧ aBid.eligible = false ∧ aBid.attempts = 0
      ∧ (∀ e ∈ (bidState aBid).tx.queue, e.uid = aBid.uid → e = aBid)
      ∧ (∀ e ∈ (bidState aBid).tx.queue, e ≠ aBid → e.state ≠ .waiting) ∧ (bidState aBid).link.side = .idle
      ∧ (bidState aBid).link.slotClock = true ∧ (bidState aBid).link.listenIn = none
      ∧ (bidState aBid).link.state ≠ .silent ∧ NoneOnAir (bidState aBid)
      ∧ ¬ NoneOnAir { bidState aBid with link := { up.link with carrier := true } }
      ∧ aBid.owner = .offerEngine ∧ Listed bidding (bidState aBid) ∧ bidding.bidFrame = some ⟨aBid.uid, none⟩
      ∧ (∀ a ∈ (bidState aBid).offers.table,
          (a.bidFrame.any (·.uid == aBid.uid) || a.replyFrame.any (·.uid == aBid.uid)) = true → a = bidding)
      ∧ openBid jobId (bidState { aBid with state := .onAir }) = some { aBid with state := .onAir }
      ∧ heldEntry (deferring ⟨0, true⟩ aBid) = some { aBid with state := .deferring }
      ∧ FreeSlots (deferring ⟨0, true⟩ aBid) ∧ (deferring ⟨0, true⟩ aBid).link.deferral = some ⟨0, true⟩
      ∧ heldEntry (deferring ⟨0, true⟩ { aBid with windowEnded := true }) =
          some { aBid with state := .deferring, windowEnded := true } := by decide +kernel

def onAir (e : PendEntry) : State :=
  withQueue [{ e with state := .onAir }] { up with link := { up.link with side := .onAir, keyed := true } }

theorem test_hyps_KeyedFrameEndsInItsGap :
    Up (onAir anEntry) ∧ (onAir anEntry).link.keyed = true ∧ (onAir anEntry).link.keyFault = false
      ∧ Steady (min 256 ((onAir anEntry).link.sfc + 8)) (onAir anEntry).link.hfc (onAir anEntry).link.state
      ∧ 248 ≤ { (onAir anEntry).link with sfc := 248 }.sfc ∧ (onAir anEntry).emerg.alarm = .quiet
      ∧ (onAir anEntry).link.runOff = none ∧ (onAir anEntry).link.side = .onAir
      ∧ heldEntry (onAir anEntry) = some { anEntry with state := .onAir } ∧ anEntry.needsLack = true
      ∧ { anEntry with dest := 0xFFFF }.needsLack = false ∧ anEntry.unicast = true ∧ anEntry.cls ≠ .bid
      ∧ anEntry.windowEnded = false ∧ anEntry.attempts < 3 := by decide +kernel

/-- A keying fault makes the link WARNED, and PASSIVE while a relay waits; a frame that runs off is not counted. -/
theorem test_hyps_KeyingFaultMovesTheLink :
    Moves 98 0 .warned (counted 90 0 .active (onAir anEntry))
      ∧ Moves 133 2 .passive (counted 125 2 .warned (relayWaiting (onAir anEntry)))
      ∧ Up (relayWaiting (onAir anEntry)) ∧ (relayWaiting (onAir anEntry)).link.keyed = true
      ∧ (relayWaiting (onAir anEntry)).link.keyFault = false ∧ (relayWaiting (onAir anEntry)).link.runOff = none
      ∧ { dormant with link := { (onAir anEntry).link with runOff := some .dormant } }.link.runOff ≠ none
      ∧ { dormant with link := { (onAir anEntry).link with runOff := some .dormant } }.link.keyFault = false :=
  ⟨moves_of (by decide +kernel) (by decide +kernel), moves_of (by decide +kernel) (by decide +kernel), by decide +kernel⟩

def awaiting (e : PendEntry) (lack carrier : Bool) : State :=
  withQueue [{ e with state := .awaitLack }]
    { up with link := { up.link with side := .ackWait, gap := some .ownAck, lackHeard := lack, carrier := carrier,
                                     carrierInAckGap := carrier } }

/-- One fault from SILENT, with an alarm, a relay and the own call waiting. -/
def nearSilent (a : AlarmState) (s : State) : State :=
  let call : PendEntry :=
    { aRelay with uid := 6, ref := .alarm 4, cls := .emergencyOrigin, payload := .emergency ⟨100, 4⟩ 0 .open ⟨10, 20⟩ }
  { alarm a s with
    link := { s.link with sfc := 248, state := .passive }
    tx := { s.tx with queue := s.tx.queue ++ [{ aRelay with uid := 5 }, call] } }

theorem test_hyps_SilenceHoldsTheAlarm :
    ∀ a ∈ [AlarmState.open, .acknowledged, .held, .clearing],
      ∀ s ∈ [nearSilent a (onAir anEntry), nearSilent a (awaiting anEntry false false)],
        Up s ∧ 248 ≤ s.link.sfc ∧ s.link.state ≠ .silent ∧ s.link.state ≠ .recovering ∧ s.emerg.alarm ≠ .quiet
          ∧ (s.tx.queue.map (·.uid)).Nodup ∧ s.link.lackHeard = false ∧ s.link.runOff = none ∧ s.link.keyFault = false
          ∧ s.link.carrier = false ∧ (s.link.keyed = true ∨ s.link.side = .ackWait)
          ∧ ∀ e ∈ s.tx.queue, e.cls ≠ .bid ∧ e.cls ≠ .beacon
            ∧ (e.cls = .emergencyRelay → e.owner = .emergencyController ∧ e.ref = .relay ⟨200, 4⟩) := by decide +kernel

theorem test_hyps_OwnedByTheirBlocks : OwnedByTheirBlocks (nearSilent .open (onAir anEntry)) := by
  intro e he
  simp only [nearSilent, alarm, onAir, withQueue, List.mem_append, List.mem_cons, List.not_mem_nil, or_false] at he
  rcases he with rfl | rfl | rfl <;> refine ⟨by decide, by decide, fun c => ?_⟩
  exacts [absurd c (by decide), ⟨rfl, _, rfl⟩, absurd c (by decide)]

theorem test_hyps_LackDecidesTheAttempt :
    let s := awaiting { anEntry with seq := some 17 } false true
    let e : PendEntry := { anEntry with seq := some 17, state := .awaitLack }
    Up s ∧ s.link.keyed = false ∧ s.link.carrier = true ∧ s.link.carrierInAckGap = true
      ∧ s.link.decisionWaits = false ∧ s.link.side = .ackWait ∧ s.link.gap = some .ownAck ∧ heldEntry s = some e
      ∧ Steady s.link.sfc (s.link.hfc - 1) s.link.state ∧ aFrame.needsLack = false ∧ e.owner = .terminalPort
      ∧ e.cls = .normal ∧ e.windowEnded = false ∧ (∀ a ∈ s.tx.queue, a.uid = e.uid → a = e)
      ∧ s.tx.outcomes.length < 16 ∧ (awaiting anEntry true false).link.lackHeard = true
      ∧ Steady (up.link.sfc - 1) up.link.hfc up.link.state ∧ Steady (min 256 (up.link.sfc + 8)) up.link.hfc up.link.state
      ∧ e.attempts < 3 ∧ heldEntry (awaiting { anEntry with attempts := 3 } false false) =
          some { anEntry with attempts := 3, state := .awaitLack } := by decide +kernel

def broadcasting : State :=
  { withQueue [{ anEntry with dest := 0xFFFF, state := .onAir }] up with
    link := { up.link with side := .onAir, gap := some .ownIdle } }

def inGap (g : Gap) (s : State) : State := { s with link := { s.link with gap := some g } }

theorem test_hyps_GapCloseEndsBroadcastsAndLacks :
    Up broadcasting ∧ broadcasting.link.side = .onAir ∧ broadcasting.link.keyed = false
      ∧ broadcasting.link.gap = some .ownIdle
      ∧ broadcasting.tx.queue = [{ anEntry with dest := 0xFFFF, state := .onAir }]
      ∧ broadcasting.tx.outcomes.length < 16 ∧ (inGap .ack (deferring ⟨4, false⟩ anEntry)).link.gap = some .ack
      ∧ (inGap .ack (deferring ⟨4, false⟩ anEntry)).link.side = .deferring
      ∧ (inGap .unread up).link.gap = some .unread ∧ (inGap .idle up).tx.queue = []
      ∧ (inGap .ack { up with link := { up.link with side := .lacking } }).link.side = .lacking := by decide +kernel

/-! ### Presentations -/

def aReply : PendEntry :=
  { anEntry with
    uid := 4, owner := .messageUnit, cls := .reply, payload := .receipt 3 .read 0, dest := 7, tag := none, attempts := 1 }

/-- A NORMAL entry, a BID whose slot has not arrived, and two REPLY entries. -/
def fourWait : List PendEntry :=
  [{ anEntry with uid := 3, attempts := 2 }, { aBid with uid := 6 }, aReply, { aReply with uid := 5 }]

theorem test_hyps_ChosenIn : ChosenIn fourWait aReply :=
  ⟨fourWait.take 2, fourWait.drop 3, by decide +kernel, by decide +kernel, by decide +kernel, by decide +kernel⟩

theorem test_hyps_WaitingEntryIsPresented :
    (∀ s ∈ [inGap .ack (withQueue fourWait up), inGap .unread (withQueue fourWait up), withQueue fourWait (listening 2),
        inGap .idle (withQueue fourWait { up with link := { up.link with side := .lacking, keyed := true } })],
      Up s ∧ Takes s ∧ s.link.carrier = false ∧ s.link.deferral = none ∧ s.tx.queue = fourWait)
      ∧ OthersGap (inGap .ack up) ∧ OthersGap (inGap .idle up) ∧ OthersGap (inGap .unread up) ∧ up.link.side = .idle
      ∧ up.link.keyed = false ∧ up.link.listenIn = none ∧ (listening 2).link.listenIn = some 2
      ∧ (listening 2).link.gap = none := by decide +kernel

theorem test_hyps_RecoveryPresentsAWaitingEntry :
    let s := withQueue fourWait (recovering 79)
    s.link.state = .recovering ∧ FreeSlots s ∧ s.link.partialSpan = 5 ∧ s.link.quietSpans = 79 ∧ s.link.side = .idle
      ∧ s.link.deferral = none ∧ s.emerg.alarm ≠ .held ∧ s.tx.queue = fourWait := by decide +kernel

/-- One exchange and the entries that wait beside it. -/
def exchange (e : PendEntry) (side : TxSide) (gap : Gap) (lack : Bool) : State :=
  withQueue (e :: fourWait)
    { up with link := { up.link with side := side, gap := some gap, lackHeard := lack, sfc := 3, hfc := 2 } }

def acked : PendEntry := { anEntry with uid := 9, state := .awaitLack, attempts := 2 }

theorem test_hyps_NextEntryIsPresentedAfterAnExchange :
    let sent : PendEntry := { anEntry with uid := 9, dest := 0xFFFF, state := .onAir }
    (∀ s ∈ [exchange sent .onAir .ownIdle false, exchange acked .ackWait .ownAck true, exchange acked .ackWait .ownAck false],
      Up s ∧ Takes s ∧ s.link.listenIn = none ∧ s.link.carrier = false ∧ s.link.keyed = false
        ∧ (s.tx.queue.filter fun a => a.uid != 9) = fourWait ∧ Steady (s.link.sfc - 1) s.link.hfc s.link.state
        ∧ Steady (min 256 (s.link.sfc + 8)) s.link.hfc s.link.state)
      ∧ heldEntry (exchange sent .onAir .ownIdle false) = some sent
      ∧ heldEntry (exchange acked .ackWait .ownAck true) = some acked ∧ acked.owner = .terminalPort
      ∧ acked.state = .awaitLack ∧ acked.windowEnded = false ∧ acked.attempts < 3 := by decide +kernel

/-- After an attempt without its LACK the entry itself may be the chosen one. -/
theorem test_hyps_ChosenIn_again :
    let again : PendEntry := { acked with attempts := 3, state := .waiting }
    ChosenIn [again, { aBid with uid := 6 }] again :=
  ⟨[], [{ aBid with uid := 6 }], rfl, by decide +kernel, by decide +kernel, by decide +kernel⟩

def aBeacon : PendEntry :=
  { anEntry with
    uid := 2, owner := .beaconCycle, cls := .beacon, payload := .beacon true none, tag := none, dest := 0xFFFF }

def holding (e : PendEntry) : State :=
  withQueue [{ aBid with uid := 6 }, { e with state := .deferring }]
    { up with link := { up.link with side := .deferring, deferral := some ⟨5, true⟩ } }

theorem test_hyps_SendDataIsPresented :
    (∀ s ∈ [withQueue [{ aBid with uid := 6 }] up, holding aBeacon, holding { anEntry with uid := 3 }],
      Up s ∧ s.link.station ≠ some 200 ∧ s.tx.queue.length < 20 ∧ (s.tx.queue.filter fun e => !e.isEmergency).length < 18
        ∧ Takes s ∧ s.link.listenIn = none)
      ∧ Address 200 ∧ (List.replicate 64 1#8).length ≤ 64 ∧ up.link.side = .idle
      ∧ NoneOnAir (withQueue [{ aBid with uid := 6 }] up) ∧ (holding aBeacon).link.side = .deferring
      ∧ heldEntry (holding aBeacon) = some { aBeacon with state := .deferring }
      ∧ heldEntry (holding { anEntry with uid := 3 }) = some { anEntry with uid := 3, state := .deferring }
      ∧ (∀ a ∈ (holding { anEntry with uid := 3 }).tx.queue,
          MayBeChosen a → classPlace anEntry.cls ≤ classPlace a.cls) := by decide +kernel

theorem test_hyps_ChosenIn_sent :
    ChosenIn ([{ aBid with uid := 6 }] ++ [sentEntry 200 255 [1#8] (withQueue [{ aBid with uid := 6 }] up)])
        (sentEntry 200 255 [1#8] (withQueue [{ aBid with uid := 6 }] up))
      ∧ ChosenIn (handedBack ((holding aBeacon).tx.queue ++ [sentEntry 200 255 [1#8] (holding aBeacon)]))
          (sentEntry 200 255 [1#8] (holding aBeacon)) :=
  ⟨⟨[{ aBid with uid := 6 }], [], rfl, by decide +kernel, by decide +kernel, by decide +kernel⟩,
    ⟨[{ aBid with uid := 6 }, { aBeacon with state := .waiting }], [], by decide +kernel, by decide +kernel,
      by decide +kernel, by decide +kernel⟩⟩

/-! ### What an exchange's end gives the owner -/

def ending (e : PendEntry) (lack : Bool) (s : State) : State :=
  { s with
    nextUid := 100, tx := { s.tx with queue := [e] }
    link := { s.link with side := .ackWait, gap := some .ownAck, lackHeard := lack, sfc := 5, hfc := 2 } }

/-- The entry at its fourth attempt. -/
def lastTry (e : PendEntry) : PendEntry := { e with attempts := 3, state := .awaitLack }

def bidFor (r : Option RetractReason) (st : OfferState) : OfferEntry :=
  { bidding with bidFrame := some ⟨0, r⟩, state := st }

theorem test_hyps_BidResultMovesTheOffer :
    ∀ lack ∈ [true, false], ∀ o ∈ [bidFor none .bidWait, bidFor (some .suppression) .bidWait, bidFor (some .meter) .bidWait,
        bidFor (some .alarm) .bidWait, bidFor (some .award) .awarded, bidFor (some .award) .lost,
        bidFor (some .withdraw) .withdrawn],
      ExchangeEnds (lastTry aBid) lack (ending (lastTry aBid) lack (withOffer o false up))
        ∧ (lastTry aBid).owner = .offerEngine ∧ Listed o (ending (lastTry aBid) lack (withOffer o false up))
        ∧ OwnsFrame o 0 (ending (lastTry aBid) lack (withOffer o false up)) := by decide +kernel

def anAnswer (p : TxPayload) : PendEntry :=
  { anEntry with uid := 7, owner := .offerEngine, ref := .offer jobId, cls := .reply, payload := p, dest := 7, tag := none }

def answering (st : OfferState) : OfferEntry := { anOffer with state := st, replyFrame := some ⟨7, none⟩ }

theorem test_hyps_ReplyResultMovesTheOffer :
    ∀ lack ∈ [true, false],
      ∀ c ∈ [(answering .accepting, TxPayload.accept jobId), (answering .refused, .refuse jobId .busy)],
        let e := lastTry (anAnswer c.2)
        let s := ending e lack (withOffer c.1 true up)
        ExchangeEnds e lack s ∧ e.owner = .offerEngine ∧ Listed c.1 s ∧ c.1.bidFrame = none
          ∧ c.1.replyFrame = some ⟨7, none⟩ ∧ OwnsFrame c.1 7 s := by decide +kernel

def aReport : PendEntry :=
  { anEntry with uid := 7, owner := .tripRecorder, ref := .trip 1, payload := .data [], dest := 7, tag := none }

theorem test_hyps_TripReportAndReceiptResults :
    (∀ s ∈ [writing (withUpload up), fullStore (withUpload up), faulted (withUpload up)], ∀ lack ∈ [true, false],
      ExchangeEnds (lastTry aReport) lack (ending (lastTry aReport) lack s))
      ∧ StoreTakesGroups (writing (withUpload up)) ∧ (writing (withUpload up)).store.queue.length < 6
      ∧ (writing (withUpload up)).store.activity ≠ .idle ∧ 6 ≤ (fullStore (withUpload up)).store.queue.length
      ∧ ¬ StoreTakesGroups (faulted (withUpload up)) ∧ aReport.owner = .tripRecorder ∧ aReport.ref = .trip 1
      ∧ aReply.owner = .messageUnit
      ∧ ∀ lack ∈ [true, false], ExchangeEnds { aReply with state := .retractPending } lack
          (ending { aReply with state := .retractPending } lack
            (withMessages [{ aMessage with receipt := some (.queued 4) }] up)) := by decide +kernel

def broadcasts (e : PendEntry) (s : State) : State :=
  { s with
    nextUid := 100, tx := { s.tx with queue := [e] }
    link := { s.link with side := .onAir, gap := some .ownIdle } }

def ownCall : PendEntry :=
  { anEntry with
    uid := 4, owner := .emergencyController, ref := .alarm 4, cls := .emergencyOrigin,
    payload := .emergency ⟨100, 4⟩ 0 .open ⟨10, 20⟩, dest := 0xFFFF, fleet := 0, hop := 3, tag := none, state := .onAir }

def calling (a : AlarmState) (p : Phase) (sent : Nat) : State :=
  broadcasts ownCall
    { alarm a up with emerg := { (alarm a up).emerg with ownEntry := some ⟨p, 4⟩, clearedSent := sent } }

theorem test_hyps_OwnCallSentMovesTheAlarm :
    (∀ s ∈ [calling .open .open 0, calling .clearing .cleared 1, calling .clearing .cleared 2, calling .clearing .open 0],
      BroadcastEnds ownCall s ∧ s.emerg.ownEntry.map (·.uid) = some ownCall.uid ∧ s.tx.queue = [ownCall])
      ∧ (calling .open .open 0).emerg.alarm ≠ .clearing ∧ (calling .clearing .cleared 1).emerg.alarm = .clearing
      ∧ (calling .clearing .cleared 1).emerg.clearedSent < 2 ∧ (calling .clearing .cleared 2).emerg.clearedSent = 2
      ∧ (calling .clearing .open 0).emerg.ownEntry = some ⟨.open, 4⟩ ∧ ownCall.owner = .emergencyController
      ∧ ownCall.ref = .alarm 4 := by decide +kernel

theorem test_hyps_RelaySentMovesItsEntry :
    ∀ r ∈ [{ blankRelay ⟨200, 4⟩ 0 with pending := some ⟨0, 1, none, 0⟩ },
        { blankRelay ⟨200, 4⟩ 0 with ackRelay := .pending 0 3 },
        { blankRelay ⟨200, 4⟩ 0 with pending := some ⟨0, 1, none, 0⟩, agedOut := true }],
      let s := broadcasts sentRelay { up with emerg := { up.emerg with relays := [blankRelay ⟨201, 4⟩ 0, r] } }
      BroadcastEnds sentRelay s ∧ sentRelay.ref = .relay r.id ∧ r ∈ s.emerg.relays
        ∧ (∀ a ∈ s.emerg.relays, a.id = r.id → a = r) ∧ (∀ a ∈ s.emerg.relays, a.id ≠ r.id → a.agedOut = false) := by
  decide +kernel

/-! ### Requests while entries wait, while a frame is on the air, and with offers listed -/

def onTheAir (e : PendEntry) (s : State) : State :=
  withQueue [e] { s with link := { s.link with side := .onAir, keyed := true, txFrame := [1#8], txSlots := 5 } }

def inAckGap (e : PendEntry) (s : State) : State :=
  withQueue [e] { s with link := { s.link with side := .ackWait, gap := some .ownAck, lackHeard := true } }

theorem test_hyps_EnterDormantSortsTheQueue :
    (∀ s ∈ [withQueue [{ anEntry with uid := 3 }, aBeacon, { anEntry with uid := 5, state := .deferring }]
          { up with link := { up.link with side := .deferring, deferral := some ⟨3, true⟩ } },
        bidState aBid,
        withQueue [sentRelay].dropLast { up with emerg := { up.emerg with relays := [blankRelay ⟨200, 4⟩ 0] } },
        withQueue [{ sentRelay with state := .waiting }] { up with
          emerg := { up.emerg with relays := [{ blankRelay ⟨200, 4⟩ 0 with pending := some ⟨0, 4, some 3, 0⟩ }] } }],
      Up s ∧ MayStop s ∧ s.link.keyed = false ∧ (s.link.side = .idle ∨ s.link.side = .deferring) ∧ NamedOnce s
        ∧ (∀ e ∈ s.tx.queue, e.state = .waiting ∨ (e.state = .deferring ∧ s.link.side = .deferring))
        ∧ (s.tx.queue.filter fun e => e.state == .deferring).length ≤ 1)
      ∧ Listed bidding (bidState aBid) ∧ bidding.bidFrame = some ⟨0, none⟩ ∧ bidding.state = .bidWait
      ∧ OwnsFrame bidding 0 (bidState aBid) ∧ sentRelay.ref = .relay ⟨200, 4⟩ := by decide +kernel

theorem test_hyps_EnterDormantEndsTheExchange :
    (∀ s ∈ [onTheAir { anEntry with state := .onAir } up, inAckGap { anEntry with state := .awaitLack } up,
        onTheAir { aBid with state := .onAir } (withOffer bidding false up),
        inAckGap { aBid with state := .awaitLack } (withOffer bidding false up)],
      Up s ∧ MayStop s ∧ s.tx.queue.length = 1 ∧ (s.link.side = .onAir ∨ s.link.side = .ackWait)
        ∧ (s.link.keyed = true ↔ s.link.side = .onAir))
      ∧ anEntry.unicast = true ∧ anEntry.cls ≠ .bid ∧ aBid.owner = .offerEngine
      ∧ Listed bidding (withOffer bidding false up) ∧ OwnsFrame bidding 0 (withOffer bidding false up) := by decide +kernel

theorem test_hyps_FramesRunOff :
    let s := onTheAir { anEntry with state := .onAir } up
    let stopped := fun r : RunOff => { s with link := { s.link with runOff := some r } }
    (Up s ∧ MayStop s ∧ s.link.keyed = true ∧ s.link.side = .onAir
      ∧ (∀ a ∈ [{ anEntry with uid := 3 }, aBeacon], a.state = .waiting))
      ∧ (stopped .restart).link.runOff = some .restart ∧ (stopped .dormant).link.runOff = some .dormant
      ∧ (stopped .dormant).link.keyed = true ∧ (stopped .dormant).tx.queue = [{ anEntry with state := .onAir }]
      ∧ anEntry.unicast = true ∧ { anEntry with dest := 0xFFFF }.unicast = false ∧ s.link.keyFault = false
      ∧ { (stopped .dormant).link with keyFault := true }.keyFault = true
      ∧ s.tx.outcomes.length < 16 ∧ anEntry.owner = .terminalPort := by decide +kernel

/-- A frame that RESTART left on the air, with an entry that has joined since. -/
theorem test_hyps_RestartedFrameGoesWithoutAResult :
    ∀ e ∈ [anEntry, aBid, { anEntry with dest := 0xFFFF }],
      let s := onTheAir { e with state := .onAir } up
      let s := { s with link := { s.link with runOff := some .restart }
                        tx := { s.tx with queue := [{ e with state := .onAir }, { anEntry with uid := 3 }] } }
      Up s ∧ MayStop s ∧ s.link.keyed = true ∧ s.link.runOff = some .restart ∧ s.link.side = .onAir ∧ 3 ≠ e.uid
        ∧ leavesInDormant anEntry.cls = false ∧ anEntry.state = .waiting := by decide +kernel

def offerIn (n : Nat) (st : OfferState) : OfferEntry :=
  { anOffer with id := ⟨7, n⟩, state := st, awardTimer := some 3, acceptTimer := some 4 }

/-- Offers in the states that send nothing; the second is the job held. -/
def listing (s : State) : State :=
  { s with offers := { s.offers with
      table := [offerIn 1 .bidSent, offerIn 2 .held, offerIn 3 .lost, offerIn 4 .suppressed], heldJob := some ⟨7, 2⟩ } }

theorem test_hyps_MeterHireTreatsTheOffers :
    MayHire 1 (listing up) ∧ EachOfferOnce (listing up) ∧ OneJobHeld (listing up)
      ∧ (∀ o ∈ (listing up).offers.table, SendsNothing o) ∧ MayHire 2 (twoTariffs up)
      ∧ nextTrip up = 1 ∧ nextTrip { up with trips := { up.trips with lastTrip := 65535 } } = 1 := by decide +kernel

def oneOffer (o : OfferEntry) (b : PendEntry) (s : State) : State :=
  withQueue [{ anEntry with uid := 3 }, b] (withOffer o (o.state == .awarded) s)

theorem test_hyps_MeterHireTakesBack :
    (∀ st ∈ [EntryState.waiting, .deferring, .onAir, .awaitLack],
      MayHire 1 (oneOffer bidding { aBid with state := st } busy)
        ∧ HasBid bidding { aBid with state := st } (oneOffer bidding { aBid with state := st } busy))
      ∧ MayHire 1 (withOffer (offerIn 1 .awarded) true busy)
      ∧ (withOffer (offerIn 1 .awarded) true busy).offers.heldJob = some ⟨7, 1⟩
      ∧ ReplyJoinsQuietly (withOffer (offerIn 1 .awarded) true busy)
      ∧ MayHire 1 (fullQueue (withOffer (offerIn 1 .awarded) true busy))
      ∧ 20 ≤ (fullQueue (withOffer (offerIn 1 .awarded) true busy)).tx.queue.length := by decide +kernel

theorem test_hyps_RaiseAlarmTreatsTheNeighbours :
    (∀ s ∈ [withQueue [{ anEntry with uid := 3 }, aBeacon] (listing { hired with link := busy.link }),
        withQueue [{ anEntry with uid := 3 }, { aBeacon with state := .onAir }] (listing (onTheAir aBeacon hired))],
      Up s ∧ s.emerg.alarm = .quiet ∧ s.emerg.ownEntry = none ∧ s.link.state = .active ∧ s.tx.queue.length < 20
        ∧ NamedOnce s ∧ EachOfferOnce s ∧ OneJobHeld s ∧ (∀ o ∈ s.offers.table, SendsNothing o)
        ∧ (∀ e ∈ s.tx.queue, e.cls = .beacon → e.owner = .beaconCycle))
      ∧ (∀ s ∈ [oneOffer bidding aBid busy, oneOffer bidding { aBid with state := .onAir } busy,
          oneOffer (offerIn 1 .awarded) { anEntry with uid := 1 } up],
        Up s ∧ s.emerg.alarm = .quiet ∧ s.tx.queue.length < 19 ∧ NamedOnce s ∧ (∀ e ∈ s.tx.queue, e.cls ≠ .beacon)
          ∧ (s.tx.queue.filter fun e => !e.isEmergency).length < 18)
      ∧ HasBid bidding aBid (oneOffer bidding aBid busy)
      ∧ (oneOffer (offerIn 1 .awarded) { anEntry with uid := 1 } up).offers.heldJob = some ⟨7, 1⟩ := by decide +kernel

/-! ## Values that meet the hypotheses of the statements: frames -/

/-- A frame from base station 7 to this station. -/
def fromBase (payload : List Nat) : RxFrame := { aFrame with source := 7, payload := bytes payload }

def toAll (f : RxFrame) : RxFrame := { f with dest := 0xFFFF }

theorem test_hyps_FramesAreCountedScreenedAndChecked :
    Up up ∧ up.link.keyed = false ∧ up.link.decisionWaits = false ∧ Hears busy
      ∧ ¬ PassesScreens .beacon { aFrame with source := 100 } busy
      ∧ ¬ PassesScreens .beacon { aFrame with fleet := 6 } busy
      ∧ ¬ PassesScreens .beacon { aFrame with dest := 0xF008 } busy
      ∧ PassesScreens .beacon { aFrame with dest := 0xF009 } busy ∧ PassesScreens .accept aFrame busy := by
  decide +kernel

/-- A frame that a screen stops makes the link ACTIVE again, and WARNED again. -/
theorem test_hyps_FrameMovesTheLink :
    Moves 3 95 .active (counted 3 96 .warned (relayWaiting busy)) ∧ Moves 3 127 .warned (counted 3 128 .passive busy)
      ∧ HearsOut (counted 3 96 .warned (relayWaiting busy)) ∧ HearsOut (counted 3 128 .passive busy)
      ∧ ¬ PassesScreens .beacon { aFrame with fleet := 6 } (counted 3 128 .passive busy) :=
  ⟨moves_of (by decide +kernel) (by decide +kernel), moves_of (by decide +kernel) (by decide +kernel), by decide +kernel⟩

theorem test_hyps_FrameFields :
    ¬ HeaderInRange .accept { aFrame with source := 4001 } ∧ ¬ HeaderInRange .accept { aFrame with hop := 1 }
      ∧ HeaderInRange .accept { aFrame with source := 4000 } ∧ payloadOk .accept aFrame.payload = false
      ∧ payloadOk .accept (bytes [0, 7, 0, 40]) = true := by decide +kernel

def offerPayload : List Nat := [0, 40, 9, 0, 10, 0, 20, 1, 8, 0]

def offerFields : OfferFields := ⟨40, 9, ⟨10, 20⟩, .standard, 8, none, none⟩

/-- The offer, and the states in which each condition of R64 is the first to fail. -/
def unfit : List (OfferReason × OfferFields × State) :=
  let on := fun f : Offers → Offers => { busy with offers := f busy.offers }
  [(.meter, offerFields, { busy with fare := { busy.fare with meter := .hired } }),
    (.availability, offerFields, on fun o => { o with available := false }), (.alarm, offerFields, alarm .open busy),
    (.link, offerFields, { busy with link := { busy.link with state := .silent } }),
    (.link, offerFields, { busy with link := { busy.link with state := .recovering } }),
    (.jobHeld, offerFields, on fun o => { o with heldJob := some ⟨7, 1⟩ }),
    (.vehicle, { offerFields with need := .accessible }, busy), (.position, offerFields, on fun o => { o with cell := none }),
    (.position, offerFields, on fun o => { o with positionAge := 31 })]

theorem test_hyps_OfferIsListedAndBidFor :
    parseOffer (fromBase offerPayload).payload = some offerFields
      ∧ (∃ e ∈ awardedBusy.offers.table, e.id = ⟨7, 40⟩) ∧ (∀ e ∈ busy.offers.table, e.id ≠ ⟨7, 40⟩)
      ∧ (∀ u ∈ unfit, whyNot u.2.1 u.2.2 = some u.1 ∧ Accepted .offer (fromBase offerPayload) u.2.2)
      ∧ Accepted .offer (fromBase offerPayload) busy ∧ whyNot offerFields busy = none
      ∧ { busy.offers with positionAge := 30 }.positionAge = 30 ∧ ReplyJoinsQuietly busy ∧ QueueRefuses (fullQueue busy)
      ∧ whyNot offerFields (fullQueue busy) = none ∧ busy.offers.cell = some ⟨10, 20⟩
      ∧ (∀ e ∈ List.replicate 8 { anOffer with id := ⟨7, 1⟩, state := .held }, e.id ≠ ⟨7, 40⟩ ∧ e.state ∉ finalStates) := by
  decide +kernel

def bidPayload (rank : Nat) : List Nat := [0, 7, 0, 40, rank, 0, 0, 0]

def bidBusy : State := { bidState aBid with link := busy.link }

theorem test_hyps_BetterBidSuppressesTheOwn :
    Accepted .bid { aFrame with payload := bytes (bidPayload 9) } bidBusy
      ∧ parseBid (bytes (bidPayload 9)) = some ⟨jobId, 9, ⟨0, 0⟩⟩ ∧ Listed bidding bidBusy ∧ bidding.id = jobId
      ∧ bidding.state = .bidWait ∧ bidding.rank = some 10 ∧ bidding.bidFrame = some ⟨0, none⟩
      ∧ bidding.replyFrame = none ∧ OwnsFrame bidding 0 bidBusy ∧ findEntry 0 bidBusy = some aBid ∧ aBid.uid = 0
      ∧ aBid.owner = .offerEngine ∧ aBid.state = .waiting ∧ 9 < 10 ∧ 99 < bidBusy.link.station.getD 0
      ∧ bidBusy.link.station.getD 0 ≤ aFrame.source := by decide +kernel

def bidSent : OfferEntry := { anOffer with state := .bidSent, awardTimer := some 8 }

theorem test_hyps_AwardAndWithdrawDecideTheOffer :
    Accepted .award (fromBase [0, 7, 0, 40, 0, 100, 0]) (withOffer bidSent false busy)
      ∧ parseAward (bytes [0, 7, 0, 40, 0, 100, 0]) = some ⟨jobId, 100, none⟩
      ∧ Listed bidSent (withOffer bidSent false busy) ∧ bidSent.id = jobId ∧ bidSent.state = .bidSent
      ∧ (withOffer bidSent false busy).offers.heldJob = none ∧ busy.link.station = some 100
      ∧ parseAward (bytes [0, 7, 0, 40, 0, 200, 0]) = some ⟨jobId, 200, none⟩ ∧ busy.link.station ≠ some 200
      ∧ bidSent.bidFrame = none ∧ bidSent.replyFrame = none := by decide +kernel

/-- An AWARD of `jobId` to this station, and one to station 200. -/
def ourAward : RxFrame := fromBase [0, 7, 0, 40, 0, 100, 0]

def othersAward : RxFrame := fromBase [0, 7, 0, 40, 0, 200, 0]

def ourFields : AwardFields := ⟨jobId, 100, none⟩

def onTrip (s : State) : State := { s with fare := { s.fare with meter := .hired } }

/-- A table of 8 whose second entry alone is in a final state. -/
def finalSecond (second : OfferState) : List OfferEntry :=
  [{ anOffer with id := ⟨7, 1⟩, state := .held }, { anOffer with id := ⟨7, 2⟩, state := second }]
    ++ List.replicate 6 { anOffer with id := ⟨7, 3⟩, state := .held }

def withTable (l : List OfferEntry) (s : State) : State := { s with offers := { s.offers with table := l } }

def heldOffer (n : Nat) : OfferEntry := { anOffer with id := ⟨7, n⟩, state := .held }

/-- A table with room, and a full one whose one final entry gives way. -/
theorem test_hyps_RoomIn :
    (∀ s : State, s = busy ∨ s = onTrip busy → RoomIn [] s)
      ∧ RoomIn (heldOffer 1 :: List.replicate 6 (heldOffer 3)) (withTable (finalSecond .lost) busy) := by
  refine ⟨?_, .inr ⟨[heldOffer 1], List.replicate 6 (heldOffer 3), { anOffer with id := ⟨7, 2⟩, state := .lost }, rfl, ?_⟩⟩
  · rintro s (rfl | rfl) <;> exact .inl (by decide +kernel)
  · decide +kernel

theorem test_hyps_BidWaits : ∀ s : State, s = bidBusy ∨ s = onTrip bidBusy → BidWaits bidding aBid s := by
  have shape : ∀ s, s = bidBusy ∨ s = onTrip bidBusy → OwnsFrame bidding 0 s ∧ findEntry 0 s = some aBid := by
    rintro s (rfl | rfl) <;> decide +kernel
  exact fun s hs => ⟨rfl, ⟨none, rfl⟩, rfl, (shape s hs).1, (shape s hs).2, rfl, rfl⟩

def assigned (o : OfferEntry) (holds : Option OfferId) (s : State) : State :=
  let t := withOffer o false s
  { t with offers := { t.offers with heldJob := holds } }

theorem test_hyps_DirectAssignmentIsTaken :
    let lost := assigned { anOffer with state := .lost } none busy
    (∀ s ∈ [busy, lost, bidBusy], AwardsUs ourAward ourFields s)
      ∧ (∀ e ∈ busy.offers.table, e.id ≠ jobId) ∧ refusalOf none busy = none
      ∧ Listed { anOffer with state := .lost } lost ∧ OfferState.lost ∈ finalStates ∧ refusalOf anOffer.need lost = none
      ∧ Listed bidding bidBusy ∧ refusalOf bidding.need bidBusy = none := by decide +kernel

theorem test_hyps_DirectAssignmentIsRefused :
    let other := assigned { anOffer with state := .bidSent, awardTimer := some 8 } (some ⟨7, 1⟩) busy
    (∀ s ∈ [onTrip busy, other], AwardsUs ourAward ourFields s ∧ ReplyJoinsQuietly s ∧ s.offers.heldJob ≠ some jobId)
      ∧ refusalOf none (onTrip busy) = some .busy ∧ refusalOf none (alarm .open busy) = some .unavailable
      ∧ refusalOf (some .accessible) busy = some .unavailable
      ∧ Listed { anOffer with state := .bidSent, awardTimer := some 8 } other
      ∧ other.offers.heldJob ≠ none ∧ refusalOf anOffer.need other = some .busy
      ∧ 20 ≤ (fullQueue other).tx.queue.length ∧ Listed bidding (onTrip bidBusy)
      ∧ refusalOf bidding.need (onTrip bidBusy) = some .busy
      ∧ (onTrip bidBusy).offers.heldJob ≠ some jobId ∧ aBid.uid ≠ (onTrip bidBusy).nextUid
      ∧ ReplyJoinsQuietly (onTrip bidBusy)
      ∧ (∀ e ∈ finalSecond .held, e.id ≠ jobId ∧ e.state ∉ finalStates) ∧ 8 ≤ (finalSecond .held).length := by decide +kernel

/-- An ACCEPT waits in the queue for its entry. -/
def anAccept : PendEntry := { aBid with cls := .reply, payload := .accept jobId, bidWindow := none }

def acceptingJob : OfferEntry := { anOffer with state := .accepting, replyFrame := some ⟨0, none⟩ }

def acceptBusy : State := withQueue [anAccept] (withOffer acceptingJob true busy)

/-- A frame is heard in the own ack gap, which has closed; the attempt's decision waits for the frame's end. -/
def deciding (e : OfferEntry) (b : PendEntry) : State :=
  let s := withQueue [{ b with state := .awaitLack }] (withOffer e e.state.isJobHeld busy)
  { s with link := { s.link with side := .ackWait, carrierInAckGap := true, decisionWaits := true } }

/-- The AWARD to another station and the WITHDRAW, each taking the offer away. -/
theorem test_hyps_TakesAway :
    ∀ s ∈ [bidBusy, acceptBusy, deciding bidding aBid, deciding acceptingJob anAccept],
      TakesAway .award othersAward jobId .lost s
        ∧ TakesAway .withdraw (toAll (fromBase [0, 7, 0, 40])) jobId .withdrawn s := by
  refine fun s hs => ⟨.inl ⟨rfl, rfl, ?_, ⟨jobId, 200, none⟩, ?_, rfl, ?_⟩, .inr ⟨rfl, rfl, ?_⟩⟩
  all_goals first | decide +kernel | (revert s; decide +kernel)

theorem test_hyps_QueuedFramesAreTakenBack :
    Accepted .award othersAward bidBusy ∧ Accepted .withdraw (toAll (fromBase [0, 7, 0, 40])) acceptBusy
      ∧ Listed bidding bidBusy ∧ bidding.state ∉ finalStates ∧ OwnsFrame bidding 0 bidBusy ∧ findEntry 0 bidBusy = some aBid
      ∧ Listed acceptingJob acceptBusy ∧ acceptingJob.state ∉ finalStates ∧ OwnsFrame acceptingJob 0 acceptBusy
      ∧ findEntry 0 acceptBusy = some anAccept ∧ aBid.state = .waiting ∧ anAccept.owner = .offerEngine
      ∧ HeardWhileDeciding .award othersAward { aBid with state := .awaitLack } (deciding bidding aBid)
      ∧ HeardWhileDeciding .award othersAward { anAccept with state := .awaitLack } (deciding acceptingJob anAccept)
      ∧ (∀ e ∈ busy.offers.table, e.id = jobId → e.state ∈ finalStates) := by decide +kernel

theorem test_hyps_RepeatedAwardReplacesTheText :
    AwardsUs ourAward ourFields awardedBusy ∧ Listed awarded awardedBusy ∧ awarded.state = .awarded
      ∧ awardedBusy.offers.heldJob = some awarded.id ∧ awarded.awardTimer = none := by decide +kernel

theorem test_hyps_Withdraw :
    Accepted .withdraw (toAll (fromBase [0, 7, 0, 40])) awardedBusy
      ∧ parseOfferId (bytes [0, 7, 0, 40]) = some jobId ∧ Listed awarded awardedBusy
      ∧ awardedBusy.offers.heldJob = some jobId ∧ (∀ e ∈ busy.offers.table, e.id ≠ jobId) := by decide +kernel

/-- MESSAGE 3, a TEXT of one character with a lifetime of a minute, asking for a LACK. -/
def messageFrame : RxFrame := { fromBase [0, 3, 1, 1, 1, 0x41] with needsLack := true }

theorem test_hyps_MessageIsStoredOnce :
    Accepted .message messageFrame busy ∧ parseMessage messageFrame.payload = some ⟨3, .text, 1, [0x41#8], []⟩
      ∧ LackCanFollow messageFrame busy ∧ (∀ m ∈ busy.msg.queue, m.pair ≠ ⟨7, 3⟩) ∧ ⟨7, 3⟩ ∉ busy.msg.recent
      ∧ busy.msg.queue.length < 12 ∧ busy.msg.shown = 0
      ∧ ⟨7, 3⟩ ∈ { busy.msg with recent := [⟨7, 3⟩] }.recent
      ∧ (∀ m ∈ List.replicate 12 { aMessage with pair := ⟨7, 9⟩ }, m.pair ≠ ⟨7, 3⟩ ∧ m.state = .new)
      ∧ 12 ≤ (List.replicate 12 { aMessage with pair := ⟨7, 9⟩ }).length := by decide +kernel

/-- EMERGENCY of station 200, alarm 4, repeat 1, OPEN, with 3 hops left. -/
def emergencyFrame : RxFrame :=
  { aFrame with dest := 0xFFFF, fleet := 0, hop := 3, payload := bytes [0, 200, 4, 0, 1, 1, 0, 10, 0, 20] }

def ackFrame (origin : Nat) : RxFrame :=
  { aFrame with source := 7, dest := 0xFFFF, fleet := 0, hop := 3, payload := bytes [0, origin, 4] }

theorem test_hyps_EmergencyFramesAreRelayedAndAcknowledged :
    Accepted .emergency emergencyFrame busy
      ∧ parseEmergency emergencyFrame.payload = some ⟨⟨200, 4⟩, 1, .open, ⟨10, 20⟩⟩
      ∧ 200 ≠ busy.link.station.getD 0 ∧ 100 = busy.link.station.getD 0 ∧ (∀ e ∈ busy.emerg.relays, e.id ≠ ⟨200, 4⟩)
      ∧ busy.emerg.relays.length < 16 ∧ 0 < emergencyFrame.hop ∧ busy.link.state = .active
      ∧ busy.tx.queue.length < 20 ∧ busy.link.side = .idle
      ∧ Accepted .emergencyAck (ackFrame 100) (alarm .open busy)
      ∧ parseEmergencyAck (ackFrame 100).payload = some ⟨100, 4⟩ ∧ (alarm .open busy).link.station = some 100
      ∧ (alarm .open busy).emerg.number = some 4 ∧ (alarm .open busy).emerg.alarm = .open
      ∧ busy.emerg.number ≠ some 4 ∧ Accepted .emergencyAck (ackFrame 200) busy := by decide +kernel

def dataFrame : RxFrame := { fromBase [1, 2] with needsLack := true }

def beaconPayload : List Nat := [2, 1, 1, 9]

def accepting (a : Action) : State :=
  { busy with rx := { busy.rx with acceptance := [⟨true, false, 200, 200, a⟩] } }

theorem test_hyps_HostFramesFillTheReceiveQueues :
    Accepted .terminalData dataFrame busy ∧ 1 ≤ dataFrame.payload.length ∧ dataFrame.payload.length ≤ 64
      ∧ LackCanFollow dataFrame busy ∧ busy.rx.acceptance = [] ∧ busy.rx.defaultAction = .toOrdinary
      ∧ busy.rx.ordinaryQueue.length < 24 ∧ 24 ≤ (List.replicate 24 aReceived).length
      ∧ busy.rx.ordinaryMode = .blocking ∧ { busy.rx with ordinaryMode := .overwrite }.ordinaryMode = .overwrite
      ∧ Accepted .beacon (toAll { aFrame with payload := bytes beaconPayload }) (accepting .toPriority)
      ∧ parseBeacon (bytes beaconPayload) = some ⟨.vacant, 9, none, .active⟩ ∧ aFrame.needsLack = false
      ∧ (accepting .toPriority).rx.acceptance = ⟨true, false, 200, 200, .toPriority⟩ :: []
      ∧ 200 ≤ aFrame.source ∧ aFrame.source ≤ 200 ∧ (accepting .toPriority).rx.priorityQueue.length < 8
      ∧ (accepting .reject).rx.acceptance = ⟨true, false, 200, 200, .reject⟩ :: [] := by decide +kernel

theorem test_hyps_LackHandsAHeldBidBack :
    let s := withQueue [{ aBid with state := .deferring, eligible := true }]
      { busy with link := { busy.link with side := .deferring, deferral := some ⟨1, false⟩ } }
    Hears s ∧ PassesScreens .terminalData dataFrame s ∧ HeaderInRange .terminalData dataFrame
      ∧ dataFrame.needsLack = true ∧ s.link.station = some dataFrame.dest ∧ s.link.side = .deferring
      ∧ s.link.state ≠ .silent ∧ s.link.state ≠ .recovering ∧ s.rx.acceptance = [] ∧ s.rx.defaultAction = .toOrdinary
      ∧ s.rx.ordinaryQueue.length < 24 := by decide +kernel

/-- A full queue: the seventh is the oldest settled one and owes a receipt, the fifth is SHOWN. -/
def fullMessages : List Message :=
  (List.range 12).map fun i =>
    { aMessage with
      pair := ⟨7, 20 + i⟩, state := if i = 4 then .shown else if i = 6 then .replied else if i = 8 then .read else .new,
      receipt := if i = 6 then some (.owed .read) else none }

/-- A full queue with nothing settled: the fifth is the oldest TEXT in SHOWN, the fourth a QUERY in SHOWN. -/
def fullShown : List Message :=
  (List.range 12).map fun i =>
    { aMessage with
      pair := ⟨7, 20 + i⟩, kind := if i = 3 then .query else .text, state := if 3 ≤ i then .shown else .new }

def settledOne : Message := { aMessage with pair := ⟨7, 26⟩, state := .replied, receipt := some (.owed .read) }

def shownOne : Message := { aMessage with pair := ⟨7, 24⟩, state := .shown }

theorem test_hyps_Evicted : Evicted settledOne fullMessages ∧ Evicted shownOne fullShown :=
  ⟨⟨fullMessages.take 6, fullMessages.drop 7, by decide +kernel, .inl (by decide +kernel)⟩,
    ⟨fullShown.take 4, fullShown.drop 5, by decide +kernel, .inr (by decide +kernel)⟩⟩

/-- MESSAGE 3 as a PRIORITY_TEXT. -/
def priorityFrame : RxFrame := { fromBase [0, 3, 2, 1, 1, 0x41] with needsLack := true }

theorem test_hyps_PriorityAndEviction :
    (∀ l ∈ [[{ aMessage with pair := ⟨7, 9⟩ }], fullMessages, fullShown],
      let s := withMessages l busy
      Accepted .message priorityFrame s ∧ Accepted .message messageFrame s ∧ LackCanFollow priorityFrame s
        ∧ LackCanFollow messageFrame s ∧ (∀ m ∈ s.msg.queue, m.pair ≠ ⟨7, 3⟩) ∧ ⟨7, 3⟩ ∉ s.msg.recent
        ∧ (s.msg.queue.map (·.pair)).Nodup)
      ∧ parseMessage priorityFrame.payload = some ⟨3, .priorityText, 1, [0x41#8], []⟩
      ∧ [{ aMessage with pair := ⟨7, 9⟩ }].length < 12 ∧ 12 ≤ fullMessages.length ∧ 12 ≤ fullShown.length
      ∧ (withMessages fullMessages busy).msg.shown = 0 := by decide +kernel

def knowing (r : RelayEntry) (s : State) : State :=
  { s with elapsed := 9, emerg := { s.emerg with relays := [blankRelay ⟨201, 4⟩ 0, r] } }

def heardOnce (n : Nat) : RelayEntry := { blankRelay ⟨200, 4⟩ 0 with highest := some n, agedOut := true }

def relayWaits (n : Nat) : RelayEntry :=
  { blankRelay ⟨200, 4⟩ 0 with highest := some 3, pending := some ⟨0, n, some 1, 4⟩ }

theorem test_hyps_KnownEmergencyIsRelayedOnce :
    (∀ r ∈ [heardOnce 0, heardOnce 1, relayWaits 1, relayWaits 3], ∀ e ∈ [aRelay, { aRelay with state := .onAir }],
      let s := withQueue [{ anEntry with uid := 3 }, e] (knowing r busy)
      Accepted .emergency emergencyFrame s ∧ InRelays r s ∧ r.id = ⟨200, 4⟩ ∧ findEntry 0 s = some e
        ∧ s.tx.queue.length < 20 ∧ s.link.side = .idle ∧ s.link.state = .active)
      ∧ emergencyFrame.needsLack = false ∧ (heardOnce 0).pending = none ∧ (heardOnce 0).highest = some 0
      ∧ (heardOnce 1).highest = some 1 ∧ (relayWaits 1).pending = some ⟨0, 1, some 1, 4⟩
      ∧ (relayWaits 3).pending = some ⟨0, 3, some 1, 4⟩ ∧ aRelay.owner = .emergencyController
      ∧ aRelay.ref = .relay ⟨200, 4⟩ ∧ aRelay.state = .waiting
      ∧ ∀ a ∈ (knowing (relayWaits 1) busy).emerg.relays, a.agedOut = false := by decide +kernel

/-- A table of 16 heard in second 9: the first two were heard in one second, the second one first. -/
def sixteenRelays (second : RelayEntry) : List RelayEntry :=
  { blankRelay ⟨300, 4⟩ 9 with hearing := 8 } :: second
    :: (List.range 14).map fun i => { blankRelay ⟨301 + i, 4⟩ 10 with hearing := i }

def oldestOne : RelayEntry := { blankRelay ⟨299, 4⟩ 9 with hearing := 7 }

def crowded (now : Nat) (second : RelayEntry) : State :=
  { busy with elapsed := now, emerg := { busy.emerg with relays := sixteenRelays second } }

theorem test_hyps_FullRelayTableReplacesTheOldest :
    (∀ r ∈ [oldestOne, { oldestOne with pending := some ⟨0, 1, none, 0⟩ }], ∀ now ∈ [39, 40],
      let s := crowded now r
      Accepted .emergency emergencyFrame s ∧ Accepted .emergencyAck (ackFrame 200) s
        ∧ (∀ a ∈ s.emerg.relays, a.id ≠ ⟨200, 4⟩) ∧ 16 ≤ s.emerg.relays.length ∧ InRelays r s
        ∧ ∀ a ∈ s.emerg.relays, a ≠ r →
            r.lastHeard < a.lastHeard ∨ (r.lastHeard = a.lastHeard ∧ r.hearing < a.hearing))
      ∧ oldestOne.pending = none ∧ oldestOne.ackRelay = .no ∧ 30 < (crowded 40 oldestOne).elapsed - oldestOne.lastHeard
      ∧ ¬ 30 < (crowded 39 oldestOne).elapsed - oldestOne.lastHeard
      ∧ 200 ≠ (crowded 40 oldestOne).link.station.getD 0 := by decide +kernel

theorem test_hyps_IsOfPair :
    IsOfPair .emergency emergencyFrame ⟨200, 4⟩ ∧ IsOfPair .emergencyAck (ackFrame 200) ⟨200, 4⟩ :=
  ⟨.inl ⟨rfl, ⟨⟨200, 4⟩, 1, .open, ⟨10, 20⟩⟩, by decide +kernel⟩, .inr (by decide +kernel)⟩

theorem test_hyps_LaterAcknowledgementsAreTaken :
    (∀ a ∈ [AlarmState.held, .acknowledged, .clearing], Accepted .emergencyAck (ackFrame 100) (alarm a busy)
      ∧ (alarm a busy).emerg.number = some 4 ∧ (alarm a busy).emerg.alarm = a)
      ∧ (let r := { blankRelay ⟨200, 4⟩ 0 with ackRelay := .pending 0 4 }
         let b := { aRelay with payload := .emergencyAck ⟨200, 4⟩ }
         let s := withQueue [{ anEntry with uid := 3 }, b] (knowing r busy)
         Accepted .emergencyAck (ackFrame 200) s ∧ parseEmergencyAck (ackFrame 200).payload = some ⟨200, 4⟩
           ∧ 200 ≠ s.link.station.getD 0 ∧ InRelays r s ∧ r.pending = none ∧ findEntry 0 s = some b
           ∧ b.owner = .emergencyController ∧ b.ref = .relay r.id ∧ b.state = .waiting
           ∧ ∀ a ∈ s.emerg.relays, a.agedOut = false) := by decide +kernel

/-! ## Values that meet the hypotheses of the statements: events -/

def inReset : State := { scanning with port := { scanning.port with inReset := true } }

/-- The scan of a store whose ACTIVE sector holds some records, with no repair outstanding. -/
def scanned (records : List RecordBody) (repaired formatted : Bool) : State :=
  let slots := (numberRecords 0 1 records).flatMap fun r => .head r :: List.replicate (r.slots - 1) .tail
  { State.reset with store :=
      { idleStore with
        sectors := [⟨.active 1, slots, false, false⟩] ++ List.replicate 3 ⟨.erased, [], false, false⟩
        scan := some ⟨repaired, false, none, formatted⟩, startUp := .scanned } }

def openAlarmRecord : AlarmOpenRecord := ⟨100, 4, .host, 5, ⟨1, 2⟩⟩

def booksWritten : List RecordBody :=
  [.totalizer .zero 0, .shift up.trips.shift 0, .checkpoint (checkpointOf .hired aTrip), .alarmOpen openAlarmRecord]

theorem test_hyps_ScanEndRebuildsTheBooks :
    let s := scanned booksWritten true false
    s.port.part = .scanning ∧ s.port.inReset = false ∧ s.store.scan = some ⟨true, false, none, false⟩
      ∧ s.store.inProgress = false ∧ s.store.record = none ∧ s.store.headerWrite = none ∧ s.store.erasing = none
      ∧ (newest Record.isTotalizer (allRecords s)).map (·.body) = some (.totalizer .zero 0)
      ∧ (newest Record.isShift (allRecords s)).map (·.body) = some (.shift up.trips.shift 0)
      ∧ interruptedTrip (allRecords s) = some (checkpointOf .hired aTrip)
      ∧ (openAlarm (allRecords s)).map (·.body) = some (.alarmOpen openAlarmRecord)
      ∧ newest Record.isTotalizer (allRecords (scanned [] false false)) = none
      ∧ interruptedTrip (allRecords (scanned [] false false)) = none
      ∧ openAlarm (allRecords (scanned [] false false)) = none
      ∧ (scanned [] false true).store.scan = some ⟨false, false, none, true⟩ ∧ inReset.port.inReset = true := by
  decide +kernel

/-- Records of which each clause of LastTripRecorded and LastClosedRebuilt speaks. -/
theorem test_hyps_LastTripAndLastClosed :
    let books := fun l : List RecordBody => allRecords (scanned l false false)
    let total := RecordBody.totalizer .zero 6
    let shift := RecordBody.shift up.trips.shift 7
    (∀ l ∈ [[total, shift], [shift, total]],
        (newest Record.isTotalizer (books l)).map (·.body) = some total
          ∧ (newest Record.isShift (books l)).map (·.body) = some shift ∧ interruptedTrip (books l) = none)
      ∧ newest Record.isShift (books [total]) = none ∧ newest Record.isTotalizer (books [shift]) = none
      ∧ (∀ l ∈ [[RecordBody.trip aRecord], [.trip aRecord, .uploadDone 1]],
          (newest (fun r => r.trip?.isSome) (books l)).map (·.body) = some (.trip aRecord))
      ∧ newest (fun r => r.trip?.isSome) (books [total]) = none
      ∧ (newest (fun r => r.alarmOpen?.isSome) (books [.alarmOpen openAlarmRecord])).map (·.body) =
          some (.alarmOpen openAlarmRecord)
      ∧ newest (fun r => r.alarmOpen?.isSome) (books [total]) = none := by decide +kernel

theorem test_hyps_BeaconTickOffersAndReports :
    Up busy ∧ busy.tx.tickTimer.isSome = true ∧ busy.tx.cycleTable[busy.tx.cycleIndex]? = some .full
      ∧ busy.tx.cycleIndex < 15 ∧ busy.emerg.alarm = .quiet ∧ busy.link.state ≠ .silent ∧ busy.offers.cell.isSome = true
      ∧ (∀ e ∈ busy.tx.queue, e.cls ≠ .beacon) ∧ ReplyJoinsQuietly busy
      ∧ { busy.tx with cycleTable := List.replicate 16 .none, cycleIndex := 14 }.cycleTable[14]? = some .none
      ∧ { busy.tx with cycleTable := List.replicate 16 .none, cycleIndex := 15 }.cycleTable[15]? = some .none
      ∧ busy.trips.homeBase = some 7
      ∧ (withUpload busy).trips.uploads.find? (fun u => u.trip.upload == .unsent) = some ⟨aRecord, false⟩
      ∧ (∀ a ∈ (withUpload busy).trips.uploads, a.doneOwed = false)
      ∧ { busy.tx with tickTimer := none }.tickTimer = none := by decide +kernel

theorem test_hyps_OfferTimersEndTheEntry :
    Listed bidSent (withOffer bidSent false up) ∧ up.port.part = .running ∧ dormant.port.part = .dormant
      ∧ bidSent.state = .bidSent ∧ bidSent.awardTimer.isSome = true
      ∧ (withOffer bidSent false up).offers.heldJob ≠ some bidSent.id ∧ Up awardedBusy ∧ Listed awarded awardedBusy
      ∧ awarded.state = .awarded ∧ awarded.acceptTimer.isSome = true ∧ awardedBusy.offers.heldJob = some awarded.id
      ∧ ReplyJoinsQuietly awardedBusy ∧ awarded.state ≠ .bidSent ∧ bidSent.state ≠ .awarded := by decide +kernel

theorem test_hyps_TimeMovesTheClockAndTheLifetimes :
    (up.port.inReset = false ∧ up.port.clock < 4294967295 ∧ up.port.part = .running ∧ dormant.port.part = .dormant
      ∧ scanning.port.part = .scanning ∧ unconfigured.port.part = .unconfigured ∧ scanning.port.inReset = false
      ∧ (∀ m ∈ (withMessages [aMessage, { lastSecond with state := .expired }] up).msg.queue, ¬ LastSecond m)
      ∧ Queued aMessage (withMessages [aMessage] up) ∧ ¬ LastSecond { aMessage with lifetime := some 2 }
      ∧ Queued lastSecond (withMessages [lastSecond, { aMessage with pair := ⟨7, 4⟩ }] up) ∧ LastSecond lastSecond
      ∧ LastSecond { aMessage with lifetime := some 0 }
      ∧ (∀ a ∈ (withMessages [lastSecond, { aMessage with pair := ⟨7, 4⟩ }] up).msg.queue,
          LastSecond a → a = lastSecond)
      ∧ ((withMessages [lastSecond, { aMessage with pair := ⟨7, 4⟩ }] up).msg.queue.map (·.pair)).Nodup
      ∧ Queued { aMessage with state := .expired } (withMessages [{ aMessage with state := .expired }] up))
      ∧ ∀ k : ReceiptKind, aMessage.receipt ≠ some (.owed k) := by
  refine ⟨by decide +kernel, ?_⟩
  intro k
  cases k <;> decide +kernel

theorem test_hyps_PulsesCompleteMetres :
    up.fare.pulseConstant = some 1000 ∧ 500 ≤ 1000 ∧ { up.fare with q := 999 }.q < 1000 ∧ up.fare.clockRunning = true
      ∧ State.reset.fare.clockRunning = false ∧ Up up ∧ MayStop up := by decide +kernel

theorem test_hyps_IntervalsAreCharged :
    up.fare.clockRunning = true ∧ up.fare.meter = .vacant ∧ up.fare.trip = none ∧ up.trips.shift.isOpen = true
      ∧ (closedShift up).trips.shift.isOpen = false ∧ hired.fare.clockRunning = true ∧ hired.fare.meter = .hired
      ∧ hired.fare.opening = false ∧ hired.fare.trip = some aTrip
      ∧ tariffInForce hired = some ⟨250, 20, 100, 300, 1⟩ ∧ { hired.fare with metres := 8 }.metres ≤ 8
      ∧ hired.fare.checkpointOwed = false ∧ hired.fare.incrementsSince < 15 ∧ hired.fare.intervalsSince < 599
      ∧ aTrip.pendingTariff = none ∧ 0 < aTrip.freeLeft ∧ aTrip.flags.fareLimit = false
      ∧ aTrip.fare + 20 ≤ 999999 ∧ 999999 < 999980 + 20 ∧ 100 * 300 ≤ 29900 + 100 := by decide +kernel

def pausing (trip : Trip) (m : MeterState) (opening : Bool) : State :=
  { twoTariffs hired with fare := { (twoTariffs hired).fare with
      meter := m, opening := opening, trip := some trip, metres := 9 } }

theorem test_hyps_UnchargedIntervalsAddDistance :
    (∀ s ∈ [pausing aTrip .stopped false, pausing aTrip .hired true, pausing { aTrip with pendingTariff := some 2 } .hired true],
      s.fare.clockRunning = true ∧ s.fare.checkpointOwed = false ∧ s.fare.incrementsSince < 16
        ∧ s.fare.intervalsSince < 600)
      ∧ (pausing aTrip .stopped false).fare.meter = .stopped ∧ (pausing aTrip .hired true).fare.opening = true
      ∧ aTrip.pendingTariff = none ∧ (pausing aTrip .hired true).fare.trip = some aTrip := by decide +kernel

/-- An interval that brings the counters to `incr` + 1 and `ivals` + 1, with a write queue behind the group being written. -/
def nearCheckpoint (incr ivals : Nat) (waiting : List Group) : State :=
  let s := writing hired
  { s with
    fare := { s.fare with progress := 29900, incrementsSince := incr, intervalsSince := ivals }
    store := { s.store with queue := s.store.queue ++ waiting } }

def waitingCheckpoint : Group := ⟨.checkpoint 1, [.checkpoint (checkpointOf .hired aTrip)], false⟩

theorem test_hyps_CheckpointJoinsOrIsOwed :
    (∀ s ∈ [nearCheckpoint 15 0 [], nearCheckpoint 0 599 [waitingCheckpoint], fullStore (nearCheckpoint 15 0 [])],
      s.fare.clockRunning = true ∧ s.fare.trip = some aTrip ∧ s.fare.meter = .hired ∧ s.fare.opening = false
        ∧ tariffInForce s = some ⟨250, 20, 100, 300, 1⟩ ∧ (599 ≤ s.fare.intervalsSince ∨ 15 ≤ s.fare.incrementsSince)
        ∧ 100 * 300 ≤ s.fare.progress + 100 ∧ StoreTakesGroups s ∧ s.store.activity ≠ .idle)
      ∧ (nearCheckpoint 15 0 []).store.queue.length < 6 ∧ Waits (.checkpoint 1) (nearCheckpoint 0 599 [waitingCheckpoint])
      ∧ 6 ≤ (fullStore (nearCheckpoint 15 0 [])).store.queue.length
      ∧ ¬ Waits (.checkpoint 1) (fullStore (nearCheckpoint 15 0 [])) ∧ ¬ StoreTakesGroups (faulted (nearCheckpoint 15 0 []))
      ∧ { hired.fare with checkpointOwed := true }.checkpointOwed = true := by decide +kernel

def shiftRecord : Record := ⟨.shift up.trips.shift 0, 1, 1, true, .original⟩

def writingSlot (n : Nat) : State :=
  { writing up with store := { (writing up).store with record := some ⟨shiftRecord, 1, n⟩, inProgress := true } }

def swapping : State :=
  { up with store := { idleStore with
      headerWrite := some ⟨2, .active 2⟩, inProgress := true, activity := .swapping
      swap := some ⟨2, 2, some 1, .headerActive, [], [], 0⟩ } }

def erasing : State :=
  { up with store := { idleStore with
      sectors := [⟨.active 1, [], false, false⟩, ⟨.bad, [], false, true⟩] ++ List.replicate 2 ⟨.erased, [], false, false⟩
      erasing := some 2, inProgress := true, activity := .erasing } }

theorem test_hyps_StoreWorkCompletes :
    (writingSlot 0).store.record = some ⟨shiftRecord, 1, 0⟩ ∧ (writingSlot 0).store.inProgress = true
      ∧ Sector? 1 (writingSlot 0) = some ⟨.active 1, [], false, false⟩ ∧ 0 + 1 < shiftRecord.slots
      ∧ shiftRecord.slots ≤ 1 + 1 ∧ (writingSlot 1).store.swap = none ∧ (writingSlot 1).store.rest = []
      ∧ (writingSlot 1).store.queue = [⟨.shiftOpen, [.shift up.trips.shift 0], true⟩]
      ∧ (writingSlot 1).emerg.openRecord ≠ .owed ∧ (∀ u ∈ (writingSlot 1).trips.uploads, u.doneOwed = false)
      ∧ swapping.store.headerWrite = some ⟨2, .active 2⟩ ∧ Sector? 2 swapping = some ⟨.erased, [], false, false⟩
      ∧ swapping.store.swap = some ⟨2, 2, some 1, .headerActive, [], [], 0⟩ ∧ 1 - 1 ≠ 2 - 1
      ∧ erasing.store.erasing = some 2 ∧ erasing.store.inProgress = true
      ∧ Sector? 2 erasing = some ⟨.bad, [], false, true⟩ ∧ erasing.store.swap = none ∧ erasing.store.scan = none
      ∧ erasing.store.queue = [] := by decide +kernel

/-- The last slot of a group of one record of two slots stands written. -/
def lastSlot (k : GroupKind) (s : State) : State :=
  { s with store := { s.store with
      activity := .writing, queue := [⟨k, [.shift up.trips.shift 0], true⟩], record := some ⟨shiftRecord, 1, 1⟩,
      inProgress := true
      sectors := [⟨.active 1, [.head shiftRecord], false, false⟩]
        ++ List.replicate 3 ⟨.erased, [], false, false⟩ } }

def uploadIn (u : UploadState) (s : State) : State :=
  { s with trips := { s.trips with uploads := [⟨{ aRecord with upload := u }, false⟩] } }

theorem test_hyps_WrittenGroupReachesItsOwner :
    (∀ k ∈ [GroupKind.checkpoint 1, .shiftOpen, .shiftClose, .alarmClear, .close 1 true, .close 5 false, .uploadDone 1,
        .alarmOpen],
      let s := lastSlot k (uploadIn .storing busy)
      LastSlotOf ⟨shiftRecord, 1, 1⟩ ⟨.active 1, [.head shiftRecord], false, false⟩ ⟨k, [.shift up.trips.shift 0], true⟩ s
        ∧ ReplyJoinsQuietly s ∧ s.trips.homeBase = some 7 ∧ findUpload 1 s = some ⟨{ aRecord with upload := .storing }, false⟩
        ∧ findUpload 5 s = none)
      ∧ { (alarm .open up).emerg with openRecord := .queued }.openRecord = .queued := by decide +kernel

def totalsRecord : Record := ⟨.totalizer .zero 0, 3, 1, true, .original⟩

def tripRecord : Record := ⟨.checkpoint (checkpointOf .hired aTrip), 4, 1, true, .original⟩

/-- The slots of records written whole. -/
def slotsOfRecords (l : List Record) : List Slot :=
  l.flatMap fun r => .head r :: List.replicate (r.slots - 1) .tail

/-- A swap from sector 1 to sector 2, with what the store does now. -/
def swapTo (slots : List Slot) (sw : Swap) (f : Store → Store) : State :=
  { up with store := f { idleStore with
      sectors := [⟨.active 1, slotsOfRecords [totalsRecord, shiftRecord, tripRecord], false, false⟩,
        ⟨.carrying 2, slots, false, false⟩, ⟨.full 4, [], false, false⟩, ⟨.full 3, [], false, false⟩]
      inProgress := true, activity := .swapping, swap := some sw } }

def aSwap (step : SwapStep) (toCopy : List Record) (candidates : List (List Record)) : Swap :=
  ⟨2, 5, some 1, step, toCopy, candidates, 0⟩

theorem test_hyps_CarryBeginsWithTheEssentials :
    let s := swapTo [] (aSwap .newHeader [] []) fun t => { t with headerWrite := some ⟨2, .carrying 2⟩ }
    let u := putHeader ⟨2, .carrying 2⟩ s
    usedSlots u 2 = 0 ∧ newest Record.isTotalizer (allRecords u) = some totalsRecord ∧ totalsRecord.slots < 256
      ∧ essentials (listedTrips u (allRecords u)) (allRecords u) = [totalsRecord, shiftRecord, tripRecord] := by decide +kernel

/-- The slots of the new sector but the last one of the record that is being copied. -/
def almostCopied : List Slot := .head totalsRecord :: List.replicate (totalsRecord.slots - 2) .tail

theorem test_hyps_CarryGoesOn :
    let w : RecordWrite := ⟨totalsRecord, 2, totalsRecord.slots - 1⟩
    let used := almostCopied ++ [Slot.tail]
    (∀ sw ∈ [aSwap .essential [shiftRecord] [], aSwap .essential [] [[tripRecord, shiftRecord]], aSwap .history [] [],
        aSwap .history [] [List.replicate 128 shiftRecord]],
      let s := swapTo almostCopied sw fun t => { t with record := some w }
      s.store.record = some w ∧ Sector? 2 s = some ⟨.carrying 2, almostCopied, false, false⟩ ∧ s.store.swap = some sw)
      ∧ w.record.slots = w.written + 1 ∧ w.written ≠ 0 ∧ missingSlots used.length used = 0
      ∧ used.length + shiftRecord.slots + 1 ≤ 256 ∧ used.length + slotsOf [tripRecord, shiftRecord] + 1 + 64 ≤ 256
      ∧ 256 < used.length + slotsOf (List.replicate 128 shiftRecord) + 1 + 64 := by decide +kernel

theorem test_hyps_SwapEnds :
    let done : RecordWrite := ⟨⟨.carryDone 2 5, 9, 1, true, .original⟩, 2, 0⟩
    let s := swapTo [] (aSwap .carryDone [] []) fun t => { t with record := some done }
    let full := fun f : Store → Store =>
      swapTo [] (aSwap .headerFull [] []) fun t => f { t with headerWrite := some ⟨1, .full 1⟩ }
    let spare := fun t : Store => { t with sectors := t.sectors.set 3 ⟨.erased, [], false, false⟩ }
    s.store.record = some done ∧ Sector? 2 s = some ⟨.carrying 2, [], false, false⟩ ∧ done.record.slots = done.written + 1
      ∧ s.store.inProgress = true ∧ (full id).store.record = none ∧ spareSector (putHeader ⟨1, .full 1⟩ (full id)) = none
      ∧ oldestFull (putHeader ⟨1, .full 1⟩ (full id)) = some 1
      ∧ spareSector (putHeader ⟨1, .full 1⟩ (full spare)) = some 4 ∧ (full spare).store.scan = none
      ∧ (full spare).store.queue = [] := by decide +kernel

/-- The erase of sector 2 is in progress, with the sectors and the rest of the store given. -/
def erasingTwo (sectors : List Sector) (f : Store → Store) : State :=
  { up with store := f { idleStore with
      sectors := sectors, erasing := some 2, inProgress := true, activity := .erasing } }

def twoGroups : List Group := [⟨.shiftOpen, [.shift up.trips.shift 0], false⟩]

theorem test_hyps_StepFourEraseEndsTheSwap :
    let full : Sector := ⟨.full 1, [], false, true⟩
    let s := fun third : Sector => erasingTwo [⟨.active 3, [], false, false⟩, full, third, ⟨.erased, [], true, false⟩]
      fun t => { t with swap := some (aSwap .erase [] []), queue := twoGroups }
    let one := s ⟨.full 2, [], false, false⟩
    let last := s ⟨.erased, [], true, false⟩
    let scan := { one with store := { one.store with scan := some ⟨true, false, none, false⟩, queue := [] } }
    Erases 2 full one ∧ full.header.isFull = true ∧ one.store.scan = none ∧ one.store.supplyLow = false
      ∧ activeSector (erased true 2 full one) = some 1
      ∧ Group.need ⟨.shiftOpen, [.shift up.trips.shift 0], false⟩ ≤ freeSlots (erased true 2 full one) 1
      ∧ spareSector (erased false 2 full one) = none ∧ oldestFull (erased false 2 full one) = some 3
      ∧ spareSector (erased false 2 full last) = none ∧ oldestFull (erased false 2 full last) = none
      ∧ activeSector (erased false 2 full last) = some 1 ∧ Erases 2 full scan
      ∧ unreadableSector (erased true 2 full scan) = none
      ∧ sectorsWith Header.isActive (erased true 2 full scan) = [1]
      ∧ sectorsWith Header.isCarrying (erased true 2 full scan) = [] := by decide +kernel

theorem test_hyps_ScanEraseGoesOnWithTheRepairs :
    let bad : Sector := ⟨.bad, [], false, true⟩
    let s := fun (third fourth : Sector) (left : Option (List Nat)) => erasingTwo [⟨.active 3, [], false, false⟩, bad, third, fourth]
      fun t => { t with scan := some ⟨true, false, left, false⟩ }
    let spare : Sector := ⟨.erased, [], false, false⟩
    let more := s bad spare none
    let done := s ⟨.full 2, [], false, false⟩ spare none
    let oldest := s ⟨.full 2, [], false, false⟩ ⟨.full 1, [], false, false⟩ none
    Erases 2 bad more ∧ unreadableSector (erased false 2 bad more) = some 3 ∧ unreadableSector (erased false 2 bad done) = none
      ∧ sectorsWith Header.isActive (erased false 2 bad done) = [1]
      ∧ sectorsWith Header.isCarrying (erased false 2 bad done) = [] ∧ spareSector (erased false 2 bad done) = some 4
      ∧ unreadableSector (erased false 2 bad oldest) = none ∧ spareSector (erased false 2 bad oldest) = none
      ∧ oldestFull (erased false 2 bad oldest) = some 4 ∧ Erases 2 bad (s bad bad (some [3, 4])) := by decide +kernel

/-- The scan's store after its repair 1 with the sectors given; sector 1 is the one whose erase is in progress. -/
def repairing (second third fourth : Header) (slots : List Slot) : State :=
  let s := erasingTwo [⟨second, slots, false, false⟩, ⟨.bad, [], false, true⟩, ⟨third, [], false, false⟩, ⟨fourth, [], false, false⟩] id
  { s with store := { s.store with scan := some ⟨true, false, none, false⟩ } }

def carriedWhole : List Slot := [.head ⟨.carryDone 6 0, 0, 1, true, .original⟩]

theorem test_hyps_ScanWritesItsHeaders :
    let bad : Sector := ⟨.bad, [], false, true⟩
    let ended := fun s => erased true 2 bad s
    let two := repairing (.active 3) (.active 4) .erased []
    let whole := repairing (.carrying 6) (.active 5) .erased carriedWhole
    let half := repairing (.carrying 6) (.active 5) .erased []
    (∀ s ∈ [two, whole, half], s.store.swap = none ∧ Erases 2 bad s ∧ s.store.scan = some ⟨true, false, none, false⟩
        ∧ unreadableSector (ended s) = none)
      ∧ sectorsWith Header.isActive (ended two) = [1, 3] ∧ oldestOf (ended two) [1, 3] = some 1
      ∧ (sectorsWith Header.isActive (ended whole)).length < 2
      ∧ (sectorsWith Header.isCarrying (ended whole)).find? (carryComplete (ended whole)) = some 1
      ∧ (sectorsWith Header.isActive (ended half)).length < 2
      ∧ (sectorsWith Header.isCarrying (ended half)).find? (carryComplete (ended half)) = none
      ∧ (sectorsWith Header.isCarrying (ended half)).head? = some 1 := by decide +kernel

theorem test_hyps_SpareEraseLetsTheSwapBegin :
    let full : Sector := ⟨.full 1, [], false, true⟩
    let packed := List.replicate 256 Slot.blank
    let s := fun third : Sector => erasingTwo [⟨.active 3, packed, false, false⟩, full, third, ⟨.erased, [], true, false⟩]
      fun t => { t with queue := twoGroups }
    let one := s ⟨.full 2, [], false, false⟩
    let last := s ⟨.erased, [], true, false⟩
    Erases 2 full one ∧ one.store.swap = none ∧ one.store.scan = none ∧ one.store.supplyLow = false
      ∧ activeSector (erased true 2 full one) = some 1
      ∧ freeSlots (erased true 2 full one) 1 < Group.need ⟨.shiftOpen, [.shift up.trips.shift 0], false⟩
      ∧ spareSector (erased true 2 full one) = some 2 ∧ spareSector (erased false 2 full one) = none
      ∧ oldestFull (erased false 2 full one) = some 3 ∧ spareSector (erased false 2 full last) = none
      ∧ oldestFull (erased false 2 full last) = none ∧ activeSector (erased false 2 full last) = some 1 := by decide +kernel

/-! ## The upload list's own records (R121, R135) -/

/-- The TRIP record of a trip, with its write number and carry mark. -/
def tripRecordNo (t : TripRecord) (n : Nat) (c : CarryMark) : Record := ⟨.trip t, n, 1, true, c⟩

/-- Trip 1 of another hiring, after the numbers have wrapped: NOT_LISTED. -/
def laterTrip : TripRecord := { aRecord with startTime := 900, endTime := 950, upload := .notListed }

/-- Under a listed number, the listed trip's own record is ESSENTIAL and a later NOT_LISTED trip's record is HISTORY. -/
theorem test_listedTripKeepsItsOwnRecord :
    let own := tripRecordNo aRecord 5 .original
    let later := tripRecordNo laterTrip 9 .original
    let listed := [{ aRecord with upload := .queued }]
    essentials listed [own, later] = [own] ∧ isHistory listed [own, later] later = true
      ∧ isHistory listed [own, later] own = false ∧ historyCandidates listed [own, later] = [[later]]
      ∧ essentials [{ aRecord with upload := .storing }] [later] = [] := by decide +kernel

def formatting (left : List Nat) (f : Store → Store) : State :=
  { scanning with store := f { Store.reset with
      sectors := [⟨.erased, [], true, false⟩] ++ List.replicate 3 ⟨.bad, [], false, true⟩
      inProgress := true, scan := some ⟨false, false, some left, false⟩, activity := .erasing } }

theorem test_hyps_FormattingGoesThroughTheSectors :
    (∀ s ∈ [formatting [3, 4] fun t => { t with erasing := some 2 }, formatting [] fun t => { t with erasing := some 2 }],
      s.store.erasing = some 2 ∧ Sector? 2 s = some ⟨.bad, [], false, true⟩ ∧ s.store.swap = none
        ∧ s.store.inProgress = true ∧ s.store.sectors.length = 4 ∧ Header.bad.isFull = false
        ∧ Sector? 1 s = some ⟨.erased, [], true, false⟩)
      ∧ (formatting [] fun t => { t with headerWrite := some ⟨2, .active 1⟩ }).store.scan =
          some ⟨false, false, some [], false⟩ := by decide +kernel

/-- The last erase of a formatting, of sector 4: with the three before it verified, and with every one failed. -/
def lastErase (before : Sector) : State :=
  { scanning with store := { Store.reset with
      sectors := List.replicate 3 before ++ [⟨.bad, [], false, true⟩]
      erasing := some 4, inProgress := true, scan := some ⟨false, false, some [], false⟩, activity := .erasing } }

theorem test_hyps_FormattingEndsInTheLowestSector :
    let bad : Sector := ⟨.bad, [], false, true⟩
    let good := lastErase ⟨.erased, [], false, false⟩
    let none' := lastErase ⟨.bad, [], true, true⟩
    Erases 4 bad good ∧ spareSector (erased true 4 bad good) = some 1 ∧ spareSector (erased false 4 bad good) = some 1
      ∧ Erases 4 bad none' ∧ spareSector (erased true 4 bad none') = some 4
      ∧ spareSector (erased false 4 bad none') = none ∧ good.store.swap = none := by decide +kernel

def held (s : State) : State := { s with store := { s.store with supplyLow := true, inProgress := false } }

theorem test_hyps_SupplyLowHoldsTheStore :
    up.port.inReset = false ∧ up.store.supplyLow = false ∧ (held up).store.supplyLow = true
      ∧ (held up).store.record = none ∧ (held up).store.headerWrite = none ∧ (held up).store.erasing = none
      ∧ (held up).store.queue = [] ∧ (held up).store.activity = .idle ∧ (held erasing).store.inProgress = false
      ∧ (held erasing).store.record = none ∧ (held erasing).store.headerWrite = none
      ∧ (held erasing).store.erasing = some 2 := by decide +kernel

/-- A hold with a record of two slots cut after its first one, behind the slots `used`, and a second group waiting. -/
def cutShort (used : List Slot) : State :=
  held { up with store := { idleStore with
      record := some ⟨shiftRecord, 1, 1⟩, activity := .writing, writeCounter := 8
      queue := [⟨.shiftOpen, [.shift up.trips.shift 0, .totalizer .zero 0], true⟩, ⟨.shiftClose, [.totalizer .zero 0], false⟩]
      sectors := [⟨.active 1, used ++ [.head shiftRecord], false, false⟩]
        ++ List.replicate 3 ⟨.erased, [], false, false⟩ } }

theorem test_hyps_ReleaseGoesOnWithWhatWasDue :
    (held swapping).store.headerWrite = some ⟨2, .active 2⟩ ∧ (held swapping).store.record = none
      ∧ (held swapping).store.supplyLow = true ∧ (held swapping).store.inProgress = false
      ∧ (held (writingSlot 0)).store.record = some ⟨shiftRecord, 1, 0⟩ ∧ up.port.inReset = false ∧ 1 < shiftRecord.slots
      ∧ ∀ used ∈ [[], almostCopied ++ [Slot.tail]],
        let s := cutShort used
        s.store.record = some ⟨shiftRecord, 1, 1⟩ ∧ s.store.inProgress = false ∧ s.store.supplyLow = true
          ∧ Sector? 1 s = some ⟨.active 1, used ++ .head shiftRecord :: List.replicate (1 - 1) .tail, false, false⟩
          ∧ missingSlots used.length used = 0 ∧ s.store.swap = none ∧ activeSector s = some 1
          ∧ s.store.queue.head? = some ⟨.shiftOpen, [.shift up.trips.shift 0, .totalizer .zero 0], true⟩
          ∧ used.length + shiftRecord.slots
            + Group.need ⟨.shiftOpen, [.shift up.trips.shift 0, .totalizer .zero 0], true⟩ ≤ 256
          ∧ used.length + shiftRecord.slots ≤ 256 ∧ Up s := by decide +kernel

def switch (h : Hold) (s : State) : State := { s with emerg := { s.emerg with hold := h } }

theorem test_hyps_SwitchHoldRaisesOnce :
    up.port.inReset = false ∧ up.emerg.hold = .none ∧ (switch .completed up).emerg.hold = .completed
      ∧ (switch .running scanning).emerg.hold = .running ∧ scanning.port.part = .scanning
      ∧ unconfigured.port.part = .unconfigured ∧ up.port.part = .running
      ∧ (switch .running (alarm .open up)).emerg.alarm ≠ .quiet ∧ (switch .running up).emerg.alarm = .quiet
      ∧ (switch .running dormant).emerg.hold = .running ∧ dormant.port.part = .dormant ∧ dormant.port.inReset = false
      ∧ dormant.emerg.alarm = .quiet ∧ (alarm .open dormant).emerg.alarm ≠ .quiet := by decide +kernel

theorem test_hyps_AlarmTimersRepeatTheCall :
    Up (alarm .open up) ∧ (alarm .open up).tx.queue = [] ∧ (alarm .open up).emerg.ownEntry = none
      ∧ (alarm .acknowledged up).emerg.alarm = .acknowledged ∧ (alarm .open up).emerg.repeatTimer.isSome = true
      ∧ (alarm .open up).emerg.openRecord ≠ .owed ∧ up.emerg.repeatTimer = none
      ∧ (alarm .clearing up).emerg.alarm = .clearing
      ∧ { (alarm .clearing up).emerg with spacingTimer := some 2 }.spacingTimer.isSome = true
      ∧ { up.emerg with markerTimer := some 10 }.markerTimer.isSome = true ∧ DisplayShape up := by decide +kernel

def offering (a : AlarmState) : State :=
  { alarm a up with emerg := { (alarm a up).emerg with ownEntry := some ⟨.open, 4⟩, spacingTimer := some 1 } }

theorem test_hyps_OneOwnEntryAtATime :
    ∀ a ∈ [AlarmState.open, .acknowledged, .clearing], Up (offering a) ∧ (offering a).emerg.ownEntry = some ⟨.open, 4⟩
      ∧ (offering a).emerg.alarm = a ∧ (offering a).emerg.repeatTimer.isSome = true
      ∧ (offering a).emerg.openRecord ≠ .owed ∧ (offering a).emerg.spacingTimer.isSome = true := by decide +kernel

/-- CLEAR_ALARM with the own OPEN entry in each of its places. -/
theorem test_hyps_ClearAlarmTakesTheCallBack :
    ∀ a ∈ [AlarmState.open, .acknowledged, .held], ∀ st ∈ [EntryState.waiting, .deferring, .onAir],
      let b : PendEntry :=
        { aRelay with uid := 6, ref := .alarm 4, cls := .emergencyOrigin, payload := .emergency ⟨100, 4⟩ 0 .open ⟨10, 20⟩
                      state := st }
      let s := withQueue [b, anEntry] (alarm a up)
      let s := { s with emerg := { s.emerg with ownEntry := some ⟨.open, 6⟩, openRecord := .none } }
      Up s ∧ s.emerg.alarm = a ∧ s.emerg.openRecord = .none ∧ s.emerg.ownEntry = some ⟨.open, 6⟩ ∧ s.emerg.number = some 4
        ∧ findEntry 6 s = some b ∧ b.owner = .emergencyController ∧ b.ref = .alarm 4 ∧ s.tx.queue.length ≤ 20 := by
  decide +kernel

def relaying (e : PendEntry) : State :=
  withQueue [e] { up with emerg := { up.emerg with relays := [relayed] } }

theorem test_hyps_RelaysAgeAndTheLampFlashes :
    (relaying aRelay).emerg.relays = [relayed] ∧ relayed.pending = some ⟨0, 1, none, 0⟩
      ∧ findEntry 0 (relaying aRelay) = some aRelay ∧ aRelay.owner = .emergencyController
      ∧ aRelay.ref = .relay relayed.id ∧ relayed.agedOut = false ∧ aRelay.state = .waiting
      ∧ findEntry 0 (relaying { aRelay with state := .onAir }) = some { aRelay with state := .onAir }
      ∧ (∀ a ∈ [blankRelay ⟨200, 4⟩ 0], a.agedOut = false) ∧ (blankRelay ⟨200, 4⟩ 0).pending = none
      ∧ (blankRelay ⟨200, 4⟩ 0).ackRelay = .no
      ∧ { (alarm .open up).emerg with lamp := .slow }.lamp = lampTable (alarm .open up)
      ∧ { up.emerg with lamp := .steady }.lamp = lampTable up := by decide +kernel

theorem test_hyps_RelayStaleOfAnAckRelay :
    let r : RelayEntry := { blankRelay ⟨200, 4⟩ 0 with ackRelay := .pending 0 4 }
    (∀ st ∈ [EntryState.waiting, .deferring, .onAir],
      let b : PendEntry := { aRelay with payload := .emergencyAck ⟨200, 4⟩, state := st }
      let s := withQueue [b] { up with emerg := { up.emerg with relays := [r] } }
      s.emerg.relays = [r] ∧ r.pending = none ∧ findEntry 0 s = some b ∧ b.owner = .emergencyController
        ∧ b.ref = .relay r.id)
      ∧ r.agedOut = false
      ∧ findEntry 0 (relaying { aRelay with state := .deferring }) = some { aRelay with state := .deferring } := by
  decide +kernel

theorem test_hyps_Encodings :
    aFrame.wellFormed = true ∧ (Instr.sendData 200 7 [0x41#8]).wellFormed = true
      ∧ encodeRequest (.sendData 200 7 [0x41#8]) =
          some (bytes [0xA5, 0, 6, 8, 0, 200, 7, 1, 0x41] ++ toBytes 2 (crc (bytes [0, 6, 8, 0, 200, 7, 1, 0x41]))) := by
  decide +kernel

/-- A step that answers a next state from one in which the invariants hold. -/
theorem test_hyps_Invariants : step State.reset = .next State.reset := rfl

/-! ## One step of each command on a small state -/

/-- The answer of a request. -/
def answers (c : Instr) (s : State) (st : Status) (r : Reply) : Bool :=
  gives c s fun t => t.port.response == some ⟨st, 1, r⟩ && t.port.requestCount == 1

theorem test_resets :
    gives .powerOn up (fun t => t.port == { Port.reset with } && t.store.scan.isSome && t.link == .reset) = true
      ∧ gives .resetPin up (fun t => t.port.inReset && t.store.scan.isNone && t.fare == .reset) = true
      ∧ gives .resetPinRelease inReset (fun t => !t.port.inReset && t.store.scan.isSome) = true
      ∧ gives .selectReleased { up with port := { up.port with response := some ⟨.ok, 1, .bare⟩ } }
          (fun t => t.port.response.isNone) = true
      ∧ gives .badFrame up (fun t => t.port.response == some ⟨.badFrame, 0, .bare⟩) = true := by decide +kernel

theorem test_scan_end :
    gives .startUpScanEnd (scanned booksWritten true false)
      (fun t => t.port.part == .unconfigured && t.fare.meter == .stopped && t.trips.lastTrip == 1
        && t.trips.shift == up.trips.shift && t.emerg.restore == some ⟨4, 5, ⟨1, 2⟩⟩ && t.emerg.lastNumber == 4
        && t.store.startUp == .repaired && t.store.writeCounter == 5) = true := by decide +kernel

/-- A new part is formatted before its scan ends: sector 1 is ACTIVE and the write counter is 1 (R142, R145). -/
theorem test_scan_end_of_a_new_part :
    gives .startUpScanEnd State.reset
      (fun t => t.port.part == .unconfigured && activeSector t == some 1 && t.store.writeCounter == 1
        && (sectorsWith (fun h => h == .erased) t).length == 3 && t.store.startUp == .formatted) = true := by
  decide +kernel

theorem test_configure :
    gives (.configure goodConfig) unconfigured
        (fun t => t.port.part == .running && t.link.station == some 100 && t.rx.ordinaryMode == .overwrite
          && t.offers.capability == [.standard, .large, .accessible] && t.fare.tariffs == goodConfig.tariffs
          && t.port.disabled == [] && t.link.listenIn == some 0) = true
      ∧ gives (.configure goodConfig) restoring
          (fun t => t.emerg.alarm == .open && t.emerg.nextRepeat == 32769 && t.tx.queue.length == 1) = true
      ∧ answers (.configure { goodConfig with marker := 0x20 }) unconfigured .range (.badField 17) = true
      ∧ answers (.configure goodConfig) up .state .bare = true := by decide +kernel

theorem test_part_requests :
    gives .getStatus up (fun t => t.link.lastFault == .unchanged && t.port.requestCount == 1) = true
      ∧ gives .restart up (fun t => t.port.part == .unconfigured && t.port.requestCount == 0 && t.trips.shift.isOpen) = true
      ∧ answers .restart hired .state .bare = true
      ∧ gives .enterDormant up (fun t => t.port.part == .dormant && t.msg.bus == .dark && !t.link.slotClock) = true
      ∧ answers .readNotices scanning .notConfigured .bare = true
      ∧ gives .readNotices dormant (fun t => t.port.part == .running) = true := by decide +kernel

theorem test_host_inputs :
    gives (.setPosition ⟨⟨4095, 0⟩, 3, [4, 3, 4], 77⟩) up
        (fun t => t.offers.cell == some ⟨4095, 0⟩ && t.rx.zones == [3, 4] && t.port.clock == 77) = true
      ∧ answers (.setPosition ⟨⟨4096, 0⟩, 3, [], 77⟩) up .range .bare = true
      ∧ gives (.setAvailable 0) up (fun t => !t.offers.available && t.emerg.lamp == .off) = true
      ∧ answers (.setAvailable 2) up .range .bare = true
      ∧ gives .linkRejoin silent (fun t => t.link.state == .recovering && t.port.notices == [⟨.linkState, .link⟩]) = true
      ∧ answers .linkRejoin up .state .bare = true := by decide +kernel

theorem test_host_data :
    gives (.sendData 200 7 [1#8]) busy (fun t => t.tx.queue.map (fun e => (e.dest, e.tag, e.state)) ==
        [(200, some 7, EntryState.waiting)]) = true
      ∧ answers (.sendData 100 7 [1#8]) up .range .bare = true
      ∧ answers (.sendData 200 7 [1#8]) (fullQueue up) .queueFull .bare = true
      ∧ gives (.cancelSend 7) oneEntry (fun t => t.tx.queue == [] && t.tx.outcomes == [⟨7, .retracted, 0, false⟩]) = true
      ∧ answers (.cancelSend 8) oneEntry .unknownId .bare = true
      ∧ answers .readOutcomes { up with tx := { up.tx with outcomes := [⟨7, .delivered, 1, false⟩] } } .ok
          (.outcomes [⟨7, .delivered, 1, false⟩] 0 0) = true
      ∧ answers (.readReceived 3) received .ok (.received (some aReceived) 0 0 0) = true
      ∧ answers (.readReceived 4) received .range .bare = true := by decide +kernel

theorem test_jobs :
    answers .listOffers awardedBusy .ok (.offers [awarded] (some jobId) 0 true) = true
      ∧ gives (.acceptJob jobId) awardedBusy (fun t => t.offers.table.map (·.state) == [.accepting]
          && t.tx.queue.map (·.payload) == [.accept jobId] && t.offers.heldJob == some jobId) = true
      ∧ gives (.refuseJob jobId) awardedBusy (fun t => t.offers.table.map (·.state) == [.refused]
          && t.tx.queue.map (·.payload) == [.refuse jobId .driver] && t.offers.heldJob.isNone) = true
      ∧ answers (.acceptJob jobId) up .unknownId .bare = true := by decide +kernel

theorem test_meter :
    gives (.meterHire 1) up (fun t => t.fare.meter == .hired && t.trips.lastTrip == 1 && t.fare.trip == some aTrip) = true
      ∧ answers (.meterHire 2) up .range .bare = true
      ∧ answers (.meterHire 1) (closedShift up) .noShift .bare = true
      ∧ answers (.meterTariff 1) up .state .bare = true
      ∧ gives (.meterTariff 1) hired (fun t => t.fare.trip == some aTrip && t.port.notices == hired.port.notices) = true
      ∧ gives (.meterTariff 2) (twoTariffs hired) (fun t => t.fare.trip.bind (·.pendingTariff) == some 2) = true
      ∧ gives .meterStop (writing hired) (fun t => t.fare.meter == .stopped && t.store.queue.length == 2) = true
      ∧ gives (.meterExtra 1) hired (fun t => t.fare.trip.map (·.fare) == some 400) = true
      ∧ gives .meterClear (writing stopped) (fun t => t.fare.meter == .vacant && t.trips.uploads.length == 1
          && t.trips.totals.hirings == 1 && t.store.queue.length == 2) = true
      ∧ answers .meterClear hired .state .bare = true := by decide +kernel

theorem test_shifts_and_books :
    answers .shiftOpen (closedShift up) .ok (.number 1) = true ∧ answers .shiftOpen up .state .bare = true
      ∧ answers .shiftClose up .ok (.totals .zero) = true ∧ answers .shiftClose (closedShift up) .noShift .bare = true
      ∧ gives .shiftClose up (fun t => !t.trips.shift.isOpen && t.store.record.isSome) = true
      ∧ answers (.readTrip 1) (withUpload up) .ok (.trip aRecord) = true
      ∧ answers (.readTrip 2) (withUpload up) .unknownId .bare = true
      ∧ answers .readTotals (withUpload up) .ok (.books .zero up.trips.shift 0 [(1, .unsent)] none) = true := by
  decide +kernel

theorem test_messages :
    answers .msgList (withMessages [aMessage] up) .ok (.messages [aMessage] 0 0 0) = true
      ∧ gives (.msgRead ⟨7, 3⟩) (withMessages [aMessage] busy) (fun t => t.msg.queue.map (·.state) == [.read]) = true
      ∧ gives (.msgReply ⟨7, 3⟩ 0) (withMessages [query] busy) (fun t => t.msg.queue.map (·.state) == [.replied]
          && t.tx.queue.map (·.payload) == [.receipt 3 .reply 0]) = true
      ∧ answers (.msgReply ⟨7, 3⟩ 1) (withMessages [query] busy) .range .bare = true
      ∧ answers (.msgRead ⟨7, 4⟩) (withMessages [query] busy) .unknownId .bare = true := by decide +kernel

theorem test_display :
    gives (.displaySelect 7) up (fun t => t.msg.shown == 7) = true ∧ answers (.displaySelect 8) up .range .bare = true
      ∧ answers (.displayWrite (some ⟨7, 3, 19⟩) [0x41#8, 0x42#8] (some 2) 0) up .ok (.cursor ⟨7, 0, 1⟩) = true
      ∧ gives (.displayWrite (some ⟨7, 3, 19⟩) [0x41#8, 0x42#8] (some 2) 0) up (fun t =>
          charOf 7 3 19 t == some 0x41#8 && charOf 7 0 0 t == some 0x42#8 && attrOf 7 0 t == some .inverse) = true
      ∧ answers (.displayRead none 2 0) up .ok (.chars [0x20#8, 0x20#8] [.normal] ⟨6, 0, 2⟩) = true
      ∧ answers (.displayRead none 2 0) editing .ok (.chars [0x20#8, 0x20#8] [.normal] ⟨6, 0, 0⟩) = true
      ∧ gives .displayEditBegin up (fun t => t.msg.editMode && t.msg.editMark == some ⟨6, 0, 0⟩) = true
      ∧ gives .displayEditEnd editing (fun t => !t.msg.editMode && t.msg.cursor == ⟨6, 0, 0⟩) = true := by
  decide +kernel

theorem test_alarm_requests :
    gives .raiseAlarm busy (fun t => t.emerg.alarm == .open && t.emerg.number == some 0 && t.emerg.openRecord == .queued
        && t.tx.queue.map (·.payload) == [.emergency ⟨100, 0⟩ 0 .open ⟨10, 20⟩] && t.emerg.lamp == .slow) = true
      ∧ answers .raiseAlarm (alarm .open up) .state .bare = true
      ∧ gives .clearAlarm (alarm .open busy) (fun t => t.emerg.alarm == .clearing
          && t.tx.queue.map (·.payload) == [.emergency ⟨100, 4⟩ 1 .cleared ⟨10, 20⟩]) = true
      ∧ answers .clearAlarm up .state .bare = true := by decide +kernel

theorem test_slots :
    gives .slotBoundary (deferring ⟨4, true⟩ anEntry) (fun t => t.link.deferral == some ⟨3, true⟩) = true
      ∧ gives .quietSpanCompletes (recovering 78) (fun t => t.link.quietSpans == 79 && t.link.partialSpan == 0) = true
      ∧ gives .quietSpanCompletes (recovering 79) (fun t => t.link.state == .active) = true
      ∧ gives .listenInCompletes (listening 2) (fun t => t.link.listenIn.isNone) = true
      ∧ gives .deferralCountRunOut (deferring ⟨0, true⟩ anEntry) (fun t => t.link.keyed
          && t.link.txFrame == encodeFrame .terminalData { aFrame with source := 100, dest := 200, seq := 0,
                                                                       needsLack := true, payload := [1#8] }) = true := by
  decide +kernel

theorem test_bid_events :
    gives (.bidSlotArrives jobId) (bidState aBid) (fun t => t.link.keyed && t.link.side == .onAir) = true
      ∧ gives (.bidSlotArrives jobId) { bidState aBid with link := busy.link } (fun t => t.link.deferral == some ⟨1, false⟩)
          = true
      ∧ gives .bidKeyingBoundary (deferring ⟨0, true⟩ aBid) (fun t => t.link.keyed) = true
      ∧ gives (.bidWindowEnd jobId) (bidState aBid) (fun t => t.tx.queue == []
          && t.offers.table.map (·.state) == [.missed]) = true := by decide +kernel

theorem test_exchange :
    gives .keyingFault (onAir anEntry) (fun t => t.link.sfc == 8 && t.link.lastFault == .keying) = true
      ∧ gives .keyingFault { onAir anEntry with link := { (onAir anEntry).link with runOff := some .restart } }
          (fun t => t.link.sfc == 0 && t.link.lastFault == .keying) = true
      ∧ gives .endOfAirtime (onAir anEntry) (fun t => t.link.side == .ackWait && t.link.gap == some .ownAck
          && t.tx.queue.map (·.state) == [.awaitLack]) = true
      ∧ gives (.lack { aFrame with payload := [17#8] }) (awaiting { anEntry with seq := some 17 } false true)
          (fun t => t.link.lackHeard) = true
      ∧ gives (.lack { aFrame with payload := [18#8] }) (awaiting { anEntry with seq := some 17 } false true)
          (fun t => t.link.lackHeard) = false
      ∧ gives .ackGapCloses (awaiting anEntry true false) (fun t => t.tx.queue == []
          && t.tx.outcomes == [⟨7, .delivered, 1, false⟩]) = true
      ∧ gives .ackGapCloses (awaiting { anEntry with attempts := 3 } false false) (fun t => t.tx.queue == []
          && t.tx.outcomes == [⟨7, .noLack, 4, false⟩] && t.link.sfc == 8) = true
      ∧ gives .idleGapCloses broadcasting (fun t => t.tx.outcomes == [⟨7, .broadcastSent, 1, false⟩]) = true
      ∧ gives .gapCloses (inGap .idle up) (fun t => t.link.gap.isNone) = true := by decide +kernel

theorem test_carriers :
    gives .carrierAppears (deferring ⟨4, true⟩ anEntry) (fun t => t.link.side == .idle
        && t.tx.queue.map (·.state) == [.waiting]) = true
      ∧ gives (.endOfCarrier (bytes lackBody ++ [0#8, 0#8])) busy (fun t => t.link.hfc == 1 && t.link.lastFault == .check)
          = true
      ∧ gives (.endOfCarrier (bytes (lackBody.take 9))) busy (fun t => t.link.hfc == 2 && t.link.lastFault == .cutOff)
          = true
      ∧ gives (.endOfCarrier []) busy (fun t => t.link.hfc == 0 && t.link.gap == some .unread) = true := by decide +kernel

theorem test_offer_frames :
    gives (.offer (fromBase offerPayload)) busy (fun t => t.offers.table.map (fun e => (e.state, e.rank)) ==
        [(OfferState.bidWait, some 0)] && t.tx.queue.map (·.bidWindow) == [some (0, 8)]) = true
      ∧ gives (.bid { aFrame with payload := bytes (bidPayload 9) }) bidBusy (fun t => t.tx.queue == []
          && t.offers.table.map (·.state) == [.suppressed]) = true
      ∧ gives (.award (fromBase [0, 7, 0, 40, 0, 100, 0])) (withOffer bidSent false busy) (fun t =>
          t.offers.table.map (·.state) == [.awarded] && t.msg.shown == 1 && t.offers.heldJob == some jobId) = true
      ∧ gives (.withdraw (toAll (fromBase [0, 7, 0, 40]))) awardedBusy (fun t =>
          t.offers.table.map (·.state) == [.withdrawn] && t.offers.heldJob.isNone) = true
      ∧ gives (.unownedFrame .accept { aFrame with payload := bytes [0, 7, 0, 40] }) busy (fun t =>
          t.rx.malformed == 0 && !t.link.carrier) = true
      ∧ gives (.unownedFrame .accept aFrame) busy (fun t => t.rx.malformed == 1) = true := by decide +kernel

theorem test_other_frames :
    gives (.message messageFrame) busy (fun t => t.msg.queue.map (·.lifetime) == [some 60]
        && t.link.txFrame == encodeFrame .lack { aFrame with source := 100, dest := 7, seq := 1, payload := [1#8] }) = true
      ∧ gives (.emergency emergencyFrame) busy (fun t => t.emerg.relays.map (·.highest) == [some 1]
          && t.tx.queue.map (fun e => (e.hop, e.relayed)) == [(2, true)]) = true
      ∧ gives (.emergencyAck (ackFrame 100)) (alarm .open busy) (fun t => t.emerg.alarm == .acknowledged
          && t.emerg.repeatTimer == some 15 && charOf 0 0 19 t == some 0x2A#8) = true
      ∧ gives (.terminalData dataFrame) busy (fun t => t.rx.ordinaryQueue.map (·.lack) == [.sent]) = true
      ∧ gives (.beacon (toAll { aFrame with payload := bytes beaconPayload })) (accepting .toPriority) (fun t =>
          t.rx.priorityQueue.map (·.payload) == [.beacon ⟨.vacant, 9, none, .active⟩]) = true := by decide +kernel

/-- Of two pairs heard in one second, the one heard first gives way, wherever it stands in the table (R179). -/
theorem test_oldest_relay_gives_way :
    gives (.emergency emergencyFrame) (crowded 40 oldestOne) (fun t =>
      t.emerg.relays.map (·.id.origin) == 300 :: (List.range 14).map (301 + ·) ++ [200]
        && (t.emerg.relays.getLast?.map (·.hearing)) == some 14) = true := by decide +kernel

/-- A frame to be LACKed is stored with LACK state SENT and LACKed while a BID is held; the BID waits again, eligible. -/
theorem test_lack_while_a_bid_is_held :
    gives (.terminalData dataFrame)
      (withQueue [{ aBid with state := .deferring, eligible := true }]
        { busy with link := { busy.link with side := .deferring, deferral := some ⟨1, false⟩ } })
      (fun t => t.link.side == .lacking && t.rx.ordinaryQueue.map (·.lack) == [.sent]
        && t.tx.queue.map (fun e => (e.state, e.eligible)) == [(.waiting, true)]) = true := by decide +kernel

/-- No LACK is owed for an EMERGENCY_ACK or an EMERGENCY, whatever it asks for (R174). -/
theorem test_no_lack_for_the_emergency_kinds :
    let asks := fun f : RxFrame => { f with dest := 100, needsLack := true }
    gives (.emergencyAck (asks (ackFrame 100))) (alarm .open busy) (fun t =>
        t.emerg.alarm == .acknowledged && t.link.side == .idle && !t.link.keyed && t.link.gap == some .ack) = true
      ∧ gives (.emergency (asks emergencyFrame)) busy (fun t => t.emerg.relays.length == 1 && !t.link.keyed) = true := by
  decide +kernel

/-- The port clocks out a response and then 0x00, and 0x00 alone without one (R203). -/
theorem test_port_out :
    let s := { up with port := { up.port with response := some ⟨.ok, 1, .bare⟩ } }
    s.portOut 9 = Response.bytes ⟨.ok, 1, .bare⟩ ++ [0#8, 0#8] ∧ up.portOut 2 = [0#8, 0#8]
      ∧ (Response.bytes ⟨.ok, 1, .bare⟩).length = 7 := by decide +kernel

theorem test_time :
    gives .clockSecond (withMessages [aMessage] up) (fun t => t.port.clock == 1 && t.offers.positionAge == 1
        && t.msg.queue.map (·.lifetime) == [some 59]) = true
      ∧ gives .idleMinute up (fun t => t.offers.idleMinutes == 1) = true
      ∧ gives .beaconTick busy (fun t => t.tx.cycleIndex == 1 && t.tx.queue.map (·.cls) == [.beacon]) = true
      ∧ gives (.awardTimerExpiry jobId) (withOffer bidSent false up) (fun t => t.offers.table.map (·.state) == [.expired])
          = true
      ∧ gives (.acceptTimerExpiry jobId) awardedBusy (fun t => t.offers.table.map (·.state) == [.refused]
          && t.tx.queue.map (·.payload) == [.refuse jobId .timeout]) = true
      ∧ gives (.messageExpiry ⟨7, 3⟩) (withMessages [lastSecond] up) (fun t => t.msg.queue.map (·.state) == [.expired])
          = true
      ∧ gives (.messageExpiry ⟨7, 3⟩) (withMessages [aMessage] up) (fun t => t.msg.queue == [aMessage]) = true
      ∧ gives .clockSecond (withMessages [lastSecond] up) (fun t => t.msg.queue.map (·.state) == [.expired]
          && t.msg.queue.map (·.lifetime) == [some 0] && t.tx.tickTimer == some 9) = true
      := by decide +kernel

/-- R95's worked arithmetic: with k = 4217 the fifth pulse completes a metre and leaves 783. -/
theorem test_odometer :
    gives .odometerPulse { up with fare := { up.fare with pulseConstant := some 4217, q := 4000 } }
        (fun t => t.fare.q == 783 && t.fare.metres == 1) = true
      ∧ gives .intervalBoundary { up with fare := { up.fare with metres := 9 } } (fun t =>
          t.trips.totals.totalDistance == 8 && t.trips.totals.anomalies == 1) = true
      ∧ gives .intervalBoundary { hired with fare := { hired.fare with metres := 8, progress := 29900 } } (fun t =>
          t.fare.trip.map (fun u => (u.earned, u.freeLeft, u.fare)) == some (1, 0, 250) && t.fare.progress == 2300) = true
      := by decide +kernel

theorem test_store :
    gives .slotWriteComplete (writingSlot 0) (fun t => usedSlots t 1 == 1 && t.store.queue.length == 1) = true
      ∧ gives .headerWriteComplete swapping (fun t => headerOf t 2 == .active 2
          && t.store.headerWrite == some ⟨1, .full 1⟩) = true
      ∧ gives (.eraseComplete true) erasing (fun t => headerOf t 2 == .erased && t.store.activity == .idle) = true
      ∧ gives (.eraseComplete false) erasing (fun t => rotation t == [1, 3, 4]
          && t.port.notices == [⟨.storeFault, .sector 2⟩]) = true
      ∧ gives .supplyLowAsserted erasing (fun t => t.store.supplyLow && !t.store.inProgress) = true
      ∧ gives .supplyLowReleased (held erasing) (fun t => !t.store.supplyLow && t.store.inProgress) = true := by
  decide +kernel

theorem test_switch_and_timers :
    gives .switchHoldBegins up (fun t => t.emerg.hold == .running) = true
      ∧ gives .switchRelease (switch .running up) (fun t => t.emerg.hold == .none) = true
      ∧ gives .switchHoldCompletes (switch .running busy) (fun t => t.emerg.alarm == .open
          && t.emerg.source == some .switch) = true
      ∧ gives .switchHoldCompletes (switch .running scanning) (fun t => t.emerg.pendingRaise) = true
      ∧ gives .repeatTimerExpiry (alarm .open busy) (fun t => t.tx.queue.length == 1 && t.emerg.nextRepeat == 2) = true
      ∧ gives .spacingTimerExpiry { alarm .clearing busy with
            emerg := { (alarm .clearing busy).emerg with spacingTimer := some 1 } }
          (fun t => t.tx.queue.map (·.payload) == [.emergency ⟨100, 4⟩ 1 .cleared ⟨10, 20⟩]) = true
      ∧ gives .markerTimerExpiry { up with emerg := { up.emerg with markerTimer := some 1, markerShown := true } }
          (fun t => !t.emerg.markerShown && t.emerg.markerTimer.isNone) = true
      ∧ gives (.relayStale ⟨200, 4⟩ .emergency) (relaying aRelay) (fun t => t.tx.queue == []
          && t.emerg.relays.map (·.pending) == [none]) = true
      ∧ gives (.relayEntryAgedOut ⟨200, 4⟩) { up with emerg := { up.emerg with relays := [blankRelay ⟨200, 4⟩ 0] } }
          (fun t => t.emerg.relays == []) = true
      ∧ gives .roofLampPhase { alarm .open up with
            emerg := { (alarm .open up).emerg with lamp := .slow, lampOn := true } } (fun t => !t.emerg.lampOn) = true := by
  decide +kernel

end Sys2Proof.Tests
end

section
/-! SUPPORT. READ_RECEIVED (R35): which queue a value names, what its owner answers for each queue, and the statement about the
whole command. -/

namespace Sys2Proof.Claims

open Sys2Proof.Machine

/-! ## The queue a value names -/

/-- PRIORITY, and EITHER while the priority queue holds an entry. -/
theorem namedQueue_eq_priority {n : Nat} {s : State} (h : n = 1 ∨ (n = 3 ∧ s.rx.priorityQueue ≠ [])) :
    namedQueue n s = some .priority := by
  obtain rfl | ⟨rfl, hq⟩ := h
  · rfl
  · simp [namedQueue, hq]

/-- ORDINARY, and EITHER while the priority queue is empty. -/
theorem namedQueue_eq_ordinary {n : Nat} {s : State} (h : n = 2 ∨ (n = 3 ∧ s.rx.priorityQueue = [])) :
    namedQueue n s = some .ordinary := by
  obtain rfl | ⟨rfl, hq⟩ := h
  · rfl
  · simp [namedQueue, hq]

theorem namedQueue_eq_none {n : Nat} (s : State) (h : n = 0 ∨ 3 < n) : namedQueue n s = none := by
  match n with
  | 0 => rfl
  | 1 | 2 | 3 => omega
  | _ + 4 => rfl

/-- A request is counted at the port, so the count does not move the choice of queue. -/
@[simp] theorem namedQueue_counted (n : Nat) (s : State) : namedQueue n (counted s) = namedQueue n s := rfl

/-! ## The owner's answer, by the queue named -/

theorem readReceived_priority {n : Nat} {s : State} (h : namedQueue n s = some .priority) :
    readReceived n s =
      ({ s with rx := { s.rx with priorityQueue := s.rx.priorityQueue.tail, priorityLost := 0, ordinaryLost := 0 } }, .ok,
        .received s.rx.priorityQueue.head? s.rx.priorityQueue.tail.length s.rx.priorityLost s.rx.ordinaryLost) := by
  simp [readReceived, h]

theorem readReceived_ordinary {n : Nat} {s : State} (h : namedQueue n s = some .ordinary) :
    readReceived n s =
      ({ s with rx := { s.rx with ordinaryQueue := s.rx.ordinaryQueue.tail, priorityLost := 0, ordinaryLost := 0 } }, .ok,
        .received s.rx.ordinaryQueue.head? s.rx.ordinaryQueue.tail.length s.rx.priorityLost s.rx.ordinaryLost) := by
  simp [readReceived, h]

theorem readReceived_none {n : Nat} {s : State} (h : namedQueue n s = none) : readReceived n s = (s, .range, .bare) := by
  simp [readReceived, h]

/-! ## The command in RUNNING -/

/-- READ_RECEIVED is counted, judged by its owner and answered, and the lamp and the bus follow. -/
theorem exec_readReceived_up (n : Nat) {s : State} (h : Up s) :
    exec (.readReceived n) s =
      .next (settle (respond (readReceived n (counted s)).2.1 (wrapInc 255 s.port.requestCount)
        (readReceived n (counted s)).2.2 (readReceived n (counted s)).1)) :=
  congrArg Host.Outcome.next (settle_judge_up .running (readReceived n) h)

/-- An owner that writes the receive filter alone gives the count, the answer and the filter as written. -/
theorem receiveFilter_respond (s : State) (x : Rx) (st : Status) (r : Reply) {t : State}
    (ht : t = settle (respond st (wrapInc 255 s.port.requestCount) r { counted s with rx := x })) :
    JustAnswered st r s t ∧ t.rx = x ∧ OnlyTouches [.rx, .port] s t := by
  subst ht
  refine ⟨by simp [JustAnswered], by simp, onlyTouches_settle ⟨by simp, fun b => ?_⟩⟩
  cases b <;> simp [Kept]

theorem readReceived_priority_completes {n : Nat} {s : State} (hs : Up s) (h : namedQueue n s = some .priority) :
    Completes (.readReceived n) s fun t =>
      JustAnswered .ok (.received s.rx.priorityQueue.head? (s.rx.priorityQueue.length - 1) s.rx.priorityLost
          s.rx.ordinaryLost) s t
        ∧ t.rx = { s.rx with priorityQueue := s.rx.priorityQueue.drop 1, priorityLost := 0, ordinaryLost := 0 }
        ∧ OnlyTouches [.rx, .port] s t := by
  refine completes_of (exec_readReceived_up n hs) (receiveFilter_respond s _ _ _ ?_)
  rw [readReceived_priority (by rwa [namedQueue_counted])]
  simp

theorem readReceived_ordinary_completes {n : Nat} {s : State} (hs : Up s) (h : namedQueue n s = some .ordinary) :
    Completes (.readReceived n) s fun t =>
      JustAnswered .ok (.received s.rx.ordinaryQueue.head? (s.rx.ordinaryQueue.length - 1) s.rx.priorityLost
          s.rx.ordinaryLost) s t
        ∧ t.rx = { s.rx with ordinaryQueue := s.rx.ordinaryQueue.drop 1, priorityLost := 0, ordinaryLost := 0 }
        ∧ OnlyTouches [.rx, .port] s t := by
  refine completes_of (exec_readReceived_up n hs) (receiveFilter_respond s _ _ _ ?_)
  rw [readReceived_ordinary (by rwa [namedQueue_counted])]
  simp

theorem readReceived_out_of_range_completes {n : Nat} {s : State} (hs : Up s) (h : namedQueue n s = none) :
    Completes (.readReceived n) s fun t => NothingBut .range .bare s t := by
  refine completes_of (exec_readReceived_up n hs) ?_
  rw [readReceived_none (by rwa [namedQueue_counted])]
  exact nothingBut_respond s .range .bare

/-- Settles O12, by the queue that the value names: priority, ordinary or none. -/
theorem readReceivedEmptiesTheNamedQueue : Obligations.ReadReceivedEmptiesTheNamedQueue := fun _ hs =>
  ⟨fun _ hn => readReceived_priority_completes hs (namedQueue_eq_priority hn),
    fun _ hn => readReceived_ordinary_completes hs (namedQueue_eq_ordinary hn),
    fun _ hn => readReceived_out_of_range_completes hs (namedQueue_eq_none _ hn)⟩

end Sys2Proof.Claims
end

section
/-! SUPPORT. READ_OUTCOMES (R58): what its owner answers and leaves, and the statement about the whole command. -/

namespace Sys2Proof.Claims

open Sys2Proof.Machine

/-- The owner takes the oldest 8 outcomes, and counts those left by what the queue held before. -/
theorem readOutcomes_eq (s : State) :
    readOutcomes s =
      ({ s with tx := { s.tx with outcomes := s.tx.outcomes.drop 8, outcomeLost := 0 } }, .ok,
        .outcomes (s.tx.outcomes.take 8) (s.tx.outcomes.length - 8) s.tx.outcomeLost) := by
  simp [readOutcomes]

/-- READ_OUTCOMES is counted, judged by its owner and answered, and the lamp and the bus follow. -/
theorem exec_readOutcomes_up {s : State} (h : Up s) :
    exec .readOutcomes s =
      .next (settle (respond (readOutcomes (counted s)).2.1 (wrapInc 255 s.port.requestCount)
        (readOutcomes (counted s)).2.2 (readOutcomes (counted s)).1)) :=
  congrArg Host.Outcome.next (settle_judge_up .running readOutcomes h)

/-- An owner that writes the transmit scheduler alone gives the count, the answer and the scheduler as written. -/
theorem transmitScheduler_respond (s : State) (x : Tx) (st : Status) (r : Reply) {t : State}
    (ht : t = settle (respond st (wrapInc 255 s.port.requestCount) r { counted s with tx := x })) :
    JustAnswered st r s t ∧ t.tx = x ∧ OnlyTouches [.tx, .port] s t := by
  subst ht
  refine ⟨by simp [JustAnswered], by simp, onlyTouches_settle ⟨by simp, fun b => ?_⟩⟩
  cases b <;> simp [Kept]

/-- Settles O11: the owner writes the scheduler alone, and its reply is read off the state before the request. -/
theorem readOutcomesTakesUpToEight : Obligations.ReadOutcomesTakesUpToEight := by
  intro s hs
  refine completes_of (exec_readOutcomes_up hs) (transmitScheduler_respond s _ _ _ ?_)
  rw [readOutcomes_eq]
  simp

end Sys2Proof.Claims
end

section
/-! SUPPORT. What a group's join does to the store and to the rest of the part, also when its write starts on the same event
(R132, R134). -/

namespace Sys2Proof.Machine

/-- A group as its owner offered it: whether its write has started is left out. -/
def Group.offered (g : Group) : GroupKind × List RecordBody := (g.kind, g.records)

@[simp] theorem beginErase_queue (n : Nat) (s : State) : (beginErase n s).store.queue = s.store.queue := by
  unfold beginErase
  dsimp only
  split <;> simp

@[simp] theorem haltStore_queue (s : State) : (haltStore s).store.queue = s.store.queue := by
  simp [haltStore]

/-- A swap comes before the head group, which goes on waiting (R134). -/
@[simp] theorem beginSwap_queue (s : State) : (beginSwap s).store.queue = s.store.queue := by
  unfold beginSwap
  split
  · simp [beginHeader]
  · split <;> simp

/-- The head group's turn marks a group as being written at most: no group is taken, altered or moved. -/
theorem startHead_offered (s : State) :
    (startHead s).store.queue.map Group.offered = s.store.queue.map Group.offered := by
  unfold startHead
  split
  case h_1 hq => simp [hq]
  case h_2 g gs hq =>
    split
    · rfl
    · repeat' split
      all_goals simp [beginRecord, hq, Group.offered]

theorem kickStore_offered (s : State) :
    (kickStore s).store.queue.map Group.offered = s.store.queue.map Group.offered := by
  unfold kickStore
  split
  · exact startHead_offered s
  · rfl

/-- What joins the write queue stands last in it, whether its write starts at once or not. -/
theorem kickStore_last {g : Group} {s : State} (h : s.store.queue.getLast? = some g) :
    ∃ a : Group, (kickStore s).store.queue.getLast? = some a ∧ a.kind = g.kind ∧ a.records = g.records := by
  have hl : (kickStore s).store.queue.getLast?.map Group.offered = some g.offered := by
    rw [← List.getLast?_map, kickStore_offered, List.getLast?_map, h, Option.map_some]
  obtain ⟨a, ha, ho⟩ := Option.map_eq_some_iff.1 hl
  obtain ⟨hkind, hrecords⟩ := Prod.mk.inj ho
  exact ⟨a, ha, hkind, hrecords⟩

/-- What joins the write queue changes the store, the notice list and the free values alone. -/
theorem kickStore_keeps (s : State) :
    (kickStore s).link = s.link ∧ (kickStore s).rx = s.rx ∧ (kickStore s).tx = s.tx
      ∧ (kickStore s).offers = s.offers ∧ (kickStore s).fare = s.fare ∧ (kickStore s).trips = s.trips
      ∧ (kickStore s).msg = s.msg ∧ (kickStore s).emerg = s.emerg ∧ (kickStore s).pending = s.pending := by
  unfold kickStore
  split
  · simp [startHead_keeps]
  · simp

end Sys2Proof.Machine
end

section
/-! SUPPORT. SHIFT_OPEN and SHIFT_CLOSE (R113, R114): what their owner answers, by the state of the shift and of the store, and
the statements about the whole commands. -/

namespace Sys2Proof.Claims

open Sys2Proof.Machine

/-! ## A request whose owner offers a group -/

/-- A request in RUNNING whose owner leaves the state as it was gives the count and the answer alone. -/
theorem completes_unchanged {c : Instr} {o : State → State × Status × Reply} {s : State} {st : Status} {r : Reply}
    (hc : exec c s = .next (settle (judge .running o s))) (hs : Up s) (ho : o (counted s) = (counted s, st, r)) :
    Completes c s fun t => NothingBut st r s t := by
  refine completes_of (hc.trans (congrArg _ (settle_judge_up .running o hs))) ?_
  rw [ho]
  exact nothingBut_respond s st r

/-- The state as a group joins the write queue. -/
def withGroup (k : GroupKind) (l : List RecordBody) (s : State) : State :=
  { s with store.queue := s.store.queue ++ [⟨k, l, false⟩] }

@[simp] theorem withGroup_keeps (k : GroupKind) (l : List RecordBody) (s : State) :
    (withGroup k l s).link = s.link ∧ (withGroup k l s).rx = s.rx ∧ (withGroup k l s).tx = s.tx
      ∧ (withGroup k l s).offers = s.offers ∧ (withGroup k l s).fare = s.fare ∧ (withGroup k l s).trips = s.trips
      ∧ (withGroup k l s).msg = s.msg ∧ (withGroup k l s).emerg = s.emerg ∧ (withGroup k l s).port = s.port
      ∧ (withGroup k l s).pending = s.pending := by
  simp [withGroup]

@[simp] theorem withGroup_store (k : GroupKind) (l : List RecordBody) (s : State) :
    (withGroup k l s).store = { s.store with queue := s.store.queue ++ [⟨k, l, false⟩] } := rfl

/-- A request in RUNNING whose owner's group joins: the shift as the owner gives it, the group last in the write queue, and
nothing else of the store while it is at work. -/
theorem completes_joined {c : Instr} {o : State → State × Status × Reply} {s : State} {k : GroupKind}
    {l : List RecordBody} {sh : Shift} {r : Reply} (hc : exec c s = .next (settle (judge .running o s))) (hs : Up s)
    (ho : o (counted s) = ({ kickStore (withGroup k l (counted s)) with trips := { s.trips with shift := sh } }, .ok, r)) :
    Completes c s fun t =>
      Answered .ok r s t ∧ t.trips = { s.trips with shift := sh } ∧ OnlyTouches [.trips, .store, .port] s t
        ∧ (∃ g : Group, t.store.queue.getLast? = some g ∧ g.kind = k ∧ g.records = l)
        ∧ (s.store.activity ≠ .idle → t.store = { s.store with queue := s.store.queue ++ [⟨k, l, false⟩] }) := by
  refine completes_of (hc.trans (congrArg _ (settle_judge_up .running o hs))) ?_
  rw [ho]
  have hlast := kickStore_last (g := ⟨k, l, false⟩) (s := withGroup k l (counted s)) (by simp)
  have hport := (kickStore_reach (withGroup k l (counted s))).keeps_port
  refine ⟨?_, by simp, onlyTouches_settle ⟨?_, fun b => ?_⟩, by simpa using hlast, fun hbusy => ?_⟩
  · simp [Answered, hport]
  · simp [kickStore_keeps]
  · cases b <;> simp [Kept, kickStore_keeps]
  · have hk : kickStore (withGroup k l (counted s)) = withGroup k l (counted s) := kickStore_busy (by simpa using hbusy)
    simp [hk]

/-! ## SHIFT_OPEN -/

/-- The shift that SHIFT_OPEN opens. -/
def openedShift (s : State) : Shift :=
  ⟨wrapIncFromOne s.trips.shift.number, true, some s.port.clock, none, .zero⟩

theorem exec_shiftOpen (s : State) : exec .shiftOpen s = .next (settle (judge .running shiftOpen s)) := rfl

theorem shiftOpen_of_open {s : State} (h : s.trips.shift.isOpen = true) : shiftOpen s = (s, .state, .bare) := by
  simp [shiftOpen, h]

theorem shiftOpen_fault {s : State} (h : s.trips.shift.isOpen = false) (hr : (rotation s).length < 3) :
    shiftOpen s = (s, .storeFault, .bare) := by
  simp [shiftOpen, h, offerGroup_fault _ _ hr]

theorem shiftOpen_full {s : State} (h : s.trips.shift.isOpen = false) (hr : 3 ≤ (rotation s).length)
    (hq : 6 ≤ s.store.queue.length) : shiftOpen s = (s, .storeBusy, .bare) := by
  simp [shiftOpen, h, offerGroup_full .shiftOpen _ hr (no_waiting_checkpoint (by simp) _) hq]

theorem shiftOpen_joins {s : State} (h : s.trips.shift.isOpen = false) (hr : 3 ≤ (rotation s).length)
    (hq : s.store.queue.length < 6) :
    shiftOpen s =
      ({ kickStore (withGroup .shiftOpen [.shift (openedShift s) s.trips.lastTrip] s) with
          trips := { s.trips with shift := openedShift s } }, .ok, .number (openedShift s).number) := by
  simp [shiftOpen, h, offerGroup_joins .shiftOpen _ hr (no_waiting_checkpoint (by simp) _) hq, openedShift, withGroup,
    kickStore_keeps]

/-- Settles O19, by the shift and by the store's answer to the group. -/
theorem shiftOpenFollowsItsGroup : Obligations.ShiftOpenFollowsItsGroup := fun s hs =>
  ⟨fun ho => completes_unchanged (exec_shiftOpen s) hs (shiftOpen_of_open ho),
    fun ho hr => completes_unchanged (exec_shiftOpen s) hs (shiftOpen_fault ho (Nat.lt_of_not_le hr)),
    fun ho hr hq => completes_unchanged (exec_shiftOpen s) hs (shiftOpen_full ho hr hq),
    fun ho hr hq => completes_joined (exec_shiftOpen s) hs (shiftOpen_joins (s := counted s) ho hr hq)⟩

/-! ## SHIFT_CLOSE -/

/-- The shift as SHIFT_CLOSE's record has it, with the totals that are answered. -/
def closedShift (s : State) : Shift :=
  { s.trips.shift with isOpen := false, closeTime := some s.port.clock }

/-- The records of SHIFT_CLOSE's group. -/
def closeShiftRecords (s : State) : List RecordBody :=
  [.shift (closedShift s) s.trips.lastTrip, .totalizer s.trips.totals s.trips.lastClosedNumber]

theorem exec_shiftClose (s : State) : exec .shiftClose s = .next (settle (judge .running shiftClose s)) := rfl

theorem shiftClose_of_closed {s : State} (h : s.trips.shift.isOpen = false) :
    shiftClose s = (s, .noShift, .bare) := by
  simp [shiftClose, h]

theorem shiftClose_engaged {s : State} (h : s.trips.shift.isOpen = true)
    (hb : s.fare.meter ≠ .vacant ∨ s.offers.heldJob ≠ none) : shiftClose s = (s, .state, .bare) := by
  have hb' : s.fare.meter ≠ .vacant ∨ s.offers.heldJob.isSome = true := hb.imp id Option.isSome_iff_ne_none.2
  rw [shiftClose, if_neg (by simp [h]), if_pos hb']

theorem shiftClose_fault {s : State} (h : s.trips.shift.isOpen = true) (hm : s.fare.meter = .vacant)
    (hj : s.offers.heldJob = none) (hr : (rotation s).length < 3) : shiftClose s = (s, .storeFault, .bare) := by
  simp [shiftClose, h, hm, hj, offerGroup_fault _ _ hr]

theorem shiftClose_full {s : State} (h : s.trips.shift.isOpen = true) (hm : s.fare.meter = .vacant)
    (hj : s.offers.heldJob = none) (hr : 3 ≤ (rotation s).length) (hq : 6 ≤ s.store.queue.length) :
    shiftClose s = (s, .storeBusy, .bare) := by
  simp [shiftClose, h, hm, hj, offerGroup_full .shiftClose _ hr (no_waiting_checkpoint (by simp) _) hq]

theorem shiftClose_joins {s : State} (h : s.trips.shift.isOpen = true) (hm : s.fare.meter = .vacant)
    (hj : s.offers.heldJob = none) (hr : 3 ≤ (rotation s).length) (hq : s.store.queue.length < 6) :
    shiftClose s =
      ({ kickStore (withGroup .shiftClose (closeShiftRecords s) s) with
          trips := { s.trips with shift := { closedShift s with totals := .zero } } }, .ok,
        .totals s.trips.shift.totals) := by
  simp [shiftClose, h, hm, hj, offerGroup_joins .shiftClose _ hr (no_waiting_checkpoint (by simp) _) hq, closedShift,
    closeShiftRecords, withGroup, kickStore_keeps]

/-- Settles O20, by the shift, the meter and the held job, and by the store's answer to the group. -/
theorem shiftCloseFollowsItsGroup : Obligations.ShiftCloseFollowsItsGroup := fun s hs =>
  ⟨fun ho => completes_unchanged (exec_shiftClose s) hs (shiftClose_of_closed ho),
    fun ho hb => completes_unchanged (exec_shiftClose s) hs (shiftClose_engaged ho hb),
    fun ho hm hj =>
      ⟨fun hr => completes_unchanged (exec_shiftClose s) hs (shiftClose_fault ho hm hj (Nat.lt_of_not_le hr)),
        fun hr hq => completes_unchanged (exec_shiftClose s) hs (shiftClose_full ho hm hj hr hq),
        fun hr hq => completes_joined (exec_shiftClose s) hs (shiftClose_joins (s := counted s) ho hm hj hr hq)⟩⟩

end Sys2Proof.Claims
end

section
/-! SUPPORT. READ_NOTICES (R193): what its owner answers and leaves in the notice list and the lost count, and the statement
about the whole command. -/

namespace Sys2Proof.Claims

open Sys2Proof.Machine

/-- The owner takes the oldest 8 notices, counts those left by what the list held before, and answers the lost count as it
stood before OVERFLOW, when it is among those taken, clears it. -/
theorem readNotices_eq (s : State) :
    readNotices s =
      ({ s with port := { s.port with
          notices := s.port.notices.drop 8
          lost := if ∃ n ∈ s.port.notices.take 8, n.kind = .overflow then 0 else s.port.lost } }, .ok,
        .notices (s.port.notices.take 8) (s.port.notices.length - 8) s.port.lost) := by
  simp [readNotices]

/-- READ_NOTICES is counted, judged by its owner and answered, and the lamp and the bus follow. -/
theorem exec_readNotices_up {s : State} (h : Up s) :
    exec .readNotices s =
      .next (settle (respond (readNotices (counted s)).2.1 (wrapInc 255 s.port.requestCount)
        (readNotices (counted s)).2.2 (readNotices (counted s)).1)) :=
  congrArg Host.Outcome.next (settle_judge_up .running readNotices h)

/-- An owner that writes the port alone gives the port as written, with the answer. -/
theorem terminalPort_respond (s : State) (p : Port) (st : Status) (n : Nat) (r : Reply) :
    (settle (respond st n r { counted s with port := p })).port = { p with response := some ⟨st, n, r⟩ }
      ∧ OnlyTouches [.port] s (settle (respond st n r { counted s with port := p })) :=
  ⟨by simp, onlyTouches_settle (touches_port s _)⟩

/-- Settles O13: the owner writes the port alone, and its reply and the new lost count are read off the notices before the
request, which counting leaves as they were. -/
theorem readNoticesTakesUpToEight : Obligations.ReadNoticesTakesUpToEight := by
  intro s hs
  refine completes_of (exec_readNotices_up hs) ?_
  rw [readNotices_eq]
  exact terminalPort_respond s _ _ _ _

end Sys2Proof.Claims
end

section
/-! SUPPORT. What every operation of the part preserves: the six invariants of Safety, the queue of commands and the model's own
count of seconds. `Preserves` is a preorder on states, so an operation preserves what its parts preserve; here are the shared
operations, from the notice list to the results of pending entries. -/

namespace Sys2Proof.Safety

open Sys2Proof.Machine

/-! ## The preorder -/

/-- Whatever invariant held of `s` holds of `t`; the queue of commands and the count of seconds are as they were. -/
structure Preserves (s t : State) : Prop where
  pending : t.pending = s.pending
  elapsed : t.elapsed = s.elapsed
  link : LinkStateIsNamed s → LinkStateIsNamed t
  queues : QueuesFit s → QueuesFit t
  tables : TablesFit s → TablesFit t
  display : DisplayKeepsItsShape s → DisplayKeepsItsShape t
  counters : CountersFit s → CountersFit t
  meter : (s.fare.meter = .vacant ↔ s.fare.trip = none) → (t.fare.meter = .vacant ↔ t.fare.trip = none)
  alarm : (s.emerg.alarm = .quiet ↔ s.emerg.number = none) → (t.emerg.alarm = .quiet ↔ t.emerg.number = none)
  reset : (s.port.inReset = true → s.port.part = .scanning) → t.port.inReset = true → t.port.part = .scanning

/-- What the invariants read of a state. -/
def watched (s : State) :=
  ((s.pending, s.elapsed, s.nextUid, s.fare.meter, s.fare.trip),
    (s.link.state, s.link.sfc, s.link.hfc, s.link.seqCounter, s.link.quietSpans, s.link.partialSpan, s.link.listenIn),
    (s.tx.queue, s.tx.outcomes, s.tx.outcomeLost, s.tx.cycleIndex),
    (s.rx.priorityQueue, s.rx.ordinaryQueue, s.rx.priorityLost, s.rx.ordinaryLost, s.rx.malformed),
    (s.offers.table.length, s.offers.overflow, s.offers.positionAge, s.offers.idleMinutes),
    (s.store.queue.length, s.store.sectors.length, s.store.dropped, s.store.writeCounter),
    (s.msg.queue.length, s.msg.recent, s.msg.refusals, s.msg.receiptLost, s.msg.pages, s.msg.shown, s.msg.cursor,
      s.msg.editMark),
    (s.emerg.relays.length, s.emerg.relayOverflow, s.emerg.alarm, s.emerg.number),
    (s.port.notices, s.port.requestCount, s.port.lost, s.port.part, s.port.inReset))

namespace Preserves

theorem modes {s t : State} (h : Preserves s t) : ModesAgree s → ModesAgree t := fun ⟨hm, ha, hr⟩ =>
  ⟨h.meter hm, h.alarm ha, h.reset hr⟩

theorem refl (s : State) : Preserves s s := ⟨rfl, rfl, id, id, id, id, id, id, id, id⟩

theorem trans {s t u : State} (h : Preserves s t) (k : Preserves t u) : Preserves s u :=
  ⟨k.pending.trans h.pending, k.elapsed.trans h.elapsed, k.link ∘ h.link, k.queues ∘ h.queues, k.tables ∘ h.tables,
    k.display ∘ h.display, k.counters ∘ h.counters, k.meter ∘ h.meter, k.alarm ∘ h.alarm, k.reset ∘ h.reset⟩

/-- An operation that changes nothing the invariants read preserves them. -/
theorem of_watched {s t : State} (h : watched t = watched s) : Preserves s t := by
  simp only [watched, Prod.mk.injEq] at h
  constructor <;>
    simp only [h, LinkStateIsNamed, QueuesFit, TablesFit, DisplayKeepsItsShape, CountersFit, imp_self]

/-- The same for an operation that comes after a change of what no invariant reads. -/
theorem after {s t u : State} (k : Preserves t u) (h : watched t = watched s) : Preserves s u := (of_watched h).trans k

theorem foldl {α : Type} (f : State → α → State) (hf : ∀ s a, Preserves s (f s a)) (l : List α) (s : State) :
    Preserves s (l.foldl f s) := by
  induction l generalizing s with
  | nil => exact refl s
  | cons a l ih => exact (hf s a).trans (ih (f s a))

theorem ite {p : Prop} [Decidable p] {s t u : State} (ht : Preserves s t) (hu : Preserves s u) :
    Preserves s (if p then t else u) := by
  split
  · exact ht
  · exact hu

end Preserves

theorem satAdd_le (limit a b : Nat) : satAdd limit a b ≤ limit := Nat.min_le_left _ _

theorem wrapInc_le (last a : Nat) : wrapInc last a ≤ last := by
  unfold wrapInc
  split <;> omega

/-! ## Notices (R191) -/

/-- What the notice list keeps of its capacity (R191). -/
def NoticesFit (l : List Notice) : Prop :=
  l.length ≤ 32 ∧ l.Nodup ∧ ((∀ n ∈ l, n.kind ≠ .overflow) → l.length ≤ 31)

theorem noticesFit_sublist {l m : List Notice} (h : NoticesFit m) (hs : l.Sublist m)
    (ho : ∀ n ∈ m, n.kind = .overflow → n ∈ l ∨ l.length ≤ 31) : NoticesFit l := by
  obtain ⟨hle, hnd, hover⟩ := h
  refine ⟨hs.length_le.trans hle, hnd.sublist hs, fun hl => ?_⟩
  by_cases hm : ∃ n ∈ m, n.kind = .overflow
  · obtain ⟨n, hn, hk⟩ := hm
    exact (ho n hn hk).elim (fun h => absurd hk (hl n h)) id
  · exact hs.length_le.trans (hover fun n hn hk => hm ⟨n, hn, hk⟩)

theorem hasOverflow_eq_false {s : State} : s.hasOverflow = false ↔ ∀ n ∈ s.port.notices, n.kind ≠ .overflow := by
  simp [State.hasOverflow]

/-- A notice joins while no OVERFLOW stands and a place is left, or OVERFLOW takes the last place (R191). -/
theorem raise_notices_fit {k : NoticeKind} {j : Subject} {s : State} (h : NoticesFit s.port.notices) :
    NoticesFit (raise k j s).port.notices := by
  obtain ⟨hle, hnd, hover⟩ := h
  unfold raise
  split
  · exact ⟨hle, hnd, hover⟩
  split
  · exact ⟨hle, hnd, hover⟩
  next hnew =>
  split
  · exact ⟨hle, hnd, hover⟩
  next hno =>
  rw [Bool.not_eq_true, hasOverflow_eq_false] at hno
  have hlen := hover hno
  unfold Config.noticeCapacity
  split
  · refine ⟨by simp; omega, ?_, fun h => absurd rfl (h ⟨.overflow, .list⟩ (by simp))⟩
    exact List.nodup_append.2 ⟨hnd, by simp, fun a ha b hb => by
      rw [List.mem_singleton] at hb
      rintro rfl
      exact hno a ha (by rw [hb])⟩
  · refine ⟨by simp; omega, ?_, fun _ => by simp; omega⟩
    exact List.nodup_append.2 ⟨hnd, by simp, fun a ha b hb => by
      rw [List.mem_singleton] at hb
      rintro rfl
      exact hnew (by simpa [hb] using ha)⟩

theorem raise_lost_le {k : NoticeKind} {j : Subject} {s : State} (h : s.port.lost ≤ 255) :
    (raise k j s).port.lost ≤ 255 := by
  unfold raise
  repeat' split
  all_goals first | exact h | exact satAdd_le _ _ _

theorem raise_preserves (k : NoticeKind) (j : Subject) (s : State) : Preserves s (raise k j s) where
  pending := by simp
  elapsed := by simp
  link := by simp [LinkStateIsNamed]
  queues h := by
    obtain ⟨hu, hn, hq, ho, hs, hp, hr, hnotices⟩ := h
    simp only [QueuesFit, raise_keeps]
    exact ⟨hu, hn, hq, ho, hs, hp, hr, raise_notices_fit hnotices⟩
  tables := by simp [TablesFit]
  display := by simp [DisplayKeepsItsShape]
  counters h := by
    obtain ⟨hc, hl, hrest⟩ := h
    simp only [CountersFit, raise_keeps, raise_keeps_port]
    exact ⟨hc, raise_lost_le hl, hrest⟩
  meter := by simp
  alarm := by simp
  reset := by simp

/-! ## Display memory (R157) -/

/-- A page of four lines of twenty characters (R157). -/
def PageFits (page : List Line) : Prop := page.length = 4 ∧ ∀ l ∈ page, l.chars.length = 20

/-- An operation that changes the display memory and the cursor alone preserves what it keeps of their shape. -/
theorem preserves_of_display {s t : State} (m : Msg)
    (hs : watched t = watched { s with msg := { s.msg with
      pages := m.pages, shown := m.shown, cursor := m.cursor, editMark := m.editMark } })
    (h : DisplayKeepsItsShape s → DisplayKeepsItsShape { s with msg := m }) : Preserves s t := by
  refine Preserves.trans ?_ (.of_watched hs)
  exact ⟨rfl, rfl, id, id, id, h, id, id, id, id⟩

theorem setPage_preserves {n : Nat} {page : List Line} (s : State) (h : PageFits page) :
    Preserves s (setPage n page s) :=
  preserves_of_display (setPage n page s).msg rfl fun ⟨hl, hp, hrest⟩ =>
    ⟨by simpa using hl, fun p hm => (List.mem_or_eq_of_mem_set hm).elim (hp p) fun he => he ▸ h, hrest⟩

theorem pageOf_fits {s : State} {n : Nat} (h : DisplayKeepsItsShape s) (hn : n < 8) : PageFits (pageOf s n) := by
  obtain ⟨hl, hp, -⟩ := h
  have hlt : n < s.msg.pages.length := by omega
  simpa [pageOf, PageFits, List.getD_eq_getElem?_getD, hlt] using hp _ (List.getElem_mem hlt)

theorem pageFits_set {page : List Line} {n : Nat} {l : Line} (h : PageFits page) (hl : l.chars.length = 20) :
    PageFits (page.set n l) :=
  ⟨by simpa using h.1, fun a ha => (List.mem_or_eq_of_mem_set ha).elim (h.2 a) fun he => he ▸ hl⟩

theorem line_fits {page : List Line} (h : PageFits page) (n : Nat) : (page.getD n .blank).chars.length = 20 := by
  by_cases hn : n < page.length
  · simpa [List.getD_eq_getElem?_getD, hn] using h.2 _ (List.getElem_mem hn)
  · simp [List.getD_eq_getElem?_getD, hn, Line.blank]

/-- A page composed from the page as it stands: the shape is kept where the page is one of the eight, and there is nothing to
write elsewhere. -/
theorem setPage_of_pageOf_preserves {n : Nat} {page : List Line} (s : State)
    (h : PageFits (pageOf s n) → PageFits page) : Preserves s (setPage n page s) :=
  preserves_of_display (setPage n page s).msg rfl fun hd => by
    obtain ⟨hl, hp, hrest⟩ := hd
    by_cases hn : n < 8
    · exact ⟨by simpa using hl,
        fun p hm => (List.mem_or_eq_of_mem_set hm).elim (hp p) fun he => he ▸ h (pageOf_fits ⟨hl, hp, hrest⟩ hn), hrest⟩
    · simp only [setPage_msg, List.set_eq_of_length_le (show s.msg.pages.length ≤ n by omega)]
      exact ⟨hl, hp, hrest⟩

theorem setChar_preserves (p l c : Nat) (b : Byte) (s : State) : Preserves s (setChar p l c b s) :=
  setPage_of_pageOf_preserves s fun h => pageFits_set h (by simpa using line_fits h l)

theorem setAttr_preserves (p l : Nat) (a : LineAttr) (s : State) : Preserves s (setAttr p l a s) :=
  setPage_of_pageOf_preserves s fun h => pageFits_set h (line_fits h l)

theorem padRight_length (n : Nat) (t : List Byte) : (padRight n t).length = n := by
  simp [padRight]
  omega

theorem padLeft_length (n : Nat) (t : List Byte) : (padLeft n t).length = n := by
  rw [padLeft, List.length_append, List.length_replicate, List.length_take]
  omega

@[simp] theorem lineOf_length (t : List Byte) (a : LineAttr) : (lineOf t a).chars.length = 20 := padRight_length 20 t

@[simp] theorem blank_length : Line.blank.chars.length = 20 := by simp [Line.blank]

theorem writeFarePage_preserves (s : State) : Preserves s (writeFarePage s) := by
  unfold writeFarePage
  refine (setPage_preserves s ⟨?_, fun l hl => ?_⟩).trans (raise_preserves _ _ _)
  · cases s.fare.trip <;> rfl
  · rcases List.mem_cons.1 hl with rfl | hl
    · simp [padRight_length]
    · cases ht : s.fare.trip with
      | none =>
        simp only [ht, List.mem_cons, List.not_mem_nil, or_false, or_self] at hl
        rw [hl, blank_length]
      | some t =>
        simp only [ht, List.mem_cons, List.not_mem_nil, or_false] at hl
        rcases hl with rfl | rfl | rfl
        · exact padLeft_length 20 _
        · exact lineOf_length _ _
        · exact lineOf_length _ _

theorem blankPage_fits : PageFits (List.replicate 4 .blank) := by
  simp [PageFits, Line.blank]

theorem jobLines_fit (o : Option OfferEntry) : PageFits (jobLines o) := by
  cases o with
  | none => exact blankPage_fits
  | some e => simp [PageFits, jobLines]

theorem messageLines_fit (o : Option Message) : PageFits (messageLines o) := by
  cases o with
  | none => exact blankPage_fits
  | some m => simp [PageFits, messageLines, messageLine0]

theorem writeJobPage_preserves (s : State) : Preserves s (writeJobPage s) := setPage_preserves s (jobLines_fit _)

theorem updateWhere_length {α : Type} (p : α → Bool) (f : α → α) (l : List α) : (updateWhere p f l).length = l.length := by
  simp [updateWhere]

theorem newToShown_preserves (s : State) : Preserves s (newToShown s) := by
  unfold newToShown
  split
  · split
    · exact .of_watched (by simp [watched, updateWhere_length])
    · exact .refl s
  · exact .refl s

theorem composeMessages_preserves (s : State) : Preserves s (composeMessages s) := by
  unfold composeMessages
  dsimp only
  exact ((((newToShown_preserves s).trans (setPage_preserves _ (messageLines_fit _))).trans
    (setPage_preserves _ (messageLines_fit _))).trans (setPage_preserves _ (messageLines_fit _))).trans
    (setPage_preserves _ (messageLines_fit _))

theorem showPage_preserves {n : Nat} (h : n ≤ 7) (s : State) : Preserves s (showPage n s) :=
  (preserves_of_display { s.msg with shown := n } rfl fun ⟨hl, hp, _, hc⟩ => ⟨hl, hp, h, hc⟩).trans
    (composeMessages_preserves _)

/-! ## What follows every event -/

theorem refreshLamp_preserves (s : State) : Preserves s (refreshLamp s) := by
  unfold refreshLamp
  split <;> exact .of_watched rfl

theorem settle_preserves (s : State) : Preserves s (settle s) :=
  (refreshLamp_preserves s).trans (.of_watched rfl)

/-! ## The pending queue (R41) -/

/-- What the pending queue keeps of its capacity and of the model's names of its entries. -/
def QueueFits (next : Nat) (q : List PendEntry) : Prop :=
  (q.map (·.uid)).Nodup ∧ (∀ e ∈ q, e.uid < next) ∧ q.length ≤ 20 ∧ (q.filter fun e => !e.isEmergency).length ≤ 18

/-- An operation that changes the pending queue alone preserves what it keeps of it. -/
theorem preserves_of_queue {s t : State} (n : Nat) (q : List PendEntry)
    (hs : watched t = watched { s with tx.queue := q, nextUid := n })
    (h : QueueFits s.nextUid s.tx.queue → QueueFits n q) : Preserves s t := by
  refine Preserves.trans (t := { s with tx.queue := q, nextUid := n })
    ⟨rfl, rfl, id, fun ⟨hu, hn, hl, ho, hrest⟩ => ?_, id, id, id, id, id, id⟩ (.of_watched hs)
  obtain ⟨hu, hn, hl, ho⟩ := h ⟨hu, hn, hl, ho⟩
  exact ⟨hu, hn, hl, ho, hrest⟩

theorem queueFits_sublist {n : Nat} {p q : List PendEntry} (h : QueueFits n q) (hs : p.Sublist q) : QueueFits n p := by
  obtain ⟨hu, hn, hl, ho⟩ := h
  exact ⟨hu.sublist (hs.map _), fun e he => hn e (hs.mem he), hs.length_le.trans hl,
    (hs.filter _).length_le.trans ho⟩

/-- A change of entries that keeps each one's name and class. -/
theorem queueFits_map {n : Nat} {q : List PendEntry} {f : PendEntry → PendEntry} (h : QueueFits n q)
    (hf : ∀ e ∈ q, (f e).uid = e.uid ∧ (f e).cls = e.cls) : QueueFits n (q.map f) := by
  obtain ⟨hu, hn, hl, ho⟩ := h
  have hids : (q.map f).map (·.uid) = q.map (·.uid) := by
    rw [List.map_map]
    exact List.map_congr_left fun e he => (hf e he).1
  refine ⟨hids ▸ hu, fun e he => ?_, by simpa using hl, ?_⟩
  · obtain ⟨a, ha, rfl⟩ := List.mem_map.1 he
    rw [(hf a ha).1]
    exact hn a ha
  · rw [List.filter_map, List.length_map]
    have : q.filter ((fun e : PendEntry => !e.isEmergency) ∘ f) = q.filter fun e => !e.isEmergency :=
      List.filter_congr fun e he => by simp [PendEntry.isEmergency, (hf e he).2]
    rw [this]
    exact ho

theorem queueFits_updateWhere {n : Nat} {q : List PendEntry} {p : PendEntry → Bool} {f : PendEntry → PendEntry}
    (h : QueueFits n q) (hf : ∀ e ∈ q, p e = true → (f e).uid = e.uid ∧ (f e).cls = e.cls) :
    QueueFits n (updateWhere p f q) :=
  queueFits_map h fun e he => by
    split
    next hp => exact hf e he hp
    next => exact ⟨rfl, rfl⟩

theorem updateEntry_preserves (u : Nat) {f : PendEntry → PendEntry} (s : State)
    (hf : ∀ e, (f e).uid = e.uid ∧ (f e).cls = e.cls) : Preserves s (updateEntry u f s) :=
  preserves_of_queue s.nextUid (updateEntry u f s).tx.queue rfl fun h => queueFits_updateWhere h fun e _ _ => hf e

theorem dequeue_preserves (u : Nat) (s : State) : Preserves s (dequeue u s) :=
  preserves_of_queue s.nextUid (dequeue u s).tx.queue rfl fun h => queueFits_sublist h List.filter_sublist

theorem present_preserves (e : PendEntry) (b : Bool) (s : State) : Preserves s (present e b s) := by
  unfold present
  dsimp only
  refine (updateEntry_preserves e.uid (f := fun e => { e with state := .deferring }) s fun _ => ⟨rfl, rfl⟩).trans ?_
  split <;> exact .of_watched rfl

theorem accessOpportunity_preserves (b : Bool) (s : State) : Preserves s (accessOpportunity b s) := by
  unfold accessOpportunity
  split
  · split
    · exact present_preserves _ _ _
    · exact .refl s
  · exact .refl s

theorem handBackDeferring_preserves (s : State) : Preserves s (handBackDeferring s) := by
  unfold handBackDeferring
  split
  · refine preserves_of_queue s.nextUid (updateWhere (fun e => e.state == .deferring)
      (fun e => { e with state := .waiting }) s.tx.queue) rfl fun h => queueFits_updateWhere h fun _ _ _ => ⟨rfl, rfl⟩
  · exact .refl s

theorem displace_preserves (b : Bool) (s : State) : Preserves s (displace b s) := by
  unfold displace
  split
  · exact .ite ((handBackDeferring_preserves s).trans (accessOpportunity_preserves _ _)) (.refl s)
  · exact .refl s

theorem channelBecomesFree_preserves (s : State) : Preserves s (channelBecomesFree s) := by
  unfold channelBecomesFree
  split
  · split
    · exact .of_watched rfl
    · exact accessOpportunity_preserves _ _
  · exact .refl s

/-- An offer is not refused FULL: there is a place, and one of the 18 for a class that shares them (R41). -/
theorem room_of_refusedFull {q : List PendEntry} {e : PendEntry} (h : refusedFull q e.cls = false) :
    q.length < 20 ∧ (e.isEmergency = false → (q.filter fun e => !e.isEmergency).length < 18) := by
  simp only [refusedFull, Config.pendingCapacity, Config.pendingOrdinary, ordinaryCount, Bool.or_eq_false_iff] at h
  refine ⟨Nat.lt_of_not_le (of_decide_eq_false h.1), fun he => ?_⟩
  have hc : (e.cls != .emergencyOrigin && e.cls != .emergencyRelay) = true := by
    simpa [PendEntry.isEmergency] using he
  rw [hc, Bool.true_and] at h
  exact Nat.lt_of_not_le (of_decide_eq_false h.2)

/-- An entry joins where R41 has room for its class, under a name that no entry has. -/
theorem joinEntry_preserves (e : PendEntry) {s : State} (h : refusedFull s.tx.queue e.cls = false) :
    Preserves s (joinEntry e s) := by
  let a : PendEntry := { e with uid := s.nextUid, state := .waiting, attempts := 0, seq := none }
  have hjoin : Preserves s { s with nextUid := s.nextUid + 1, tx.queue := s.tx.queue ++ [a] } := by
    refine preserves_of_queue (s.nextUid + 1) (s.tx.queue ++ [a]) rfl fun ⟨hu, hn, hl, ho⟩ => ?_
    obtain ⟨hroom, hshare⟩ := room_of_refusedFull h
    refine ⟨?_, fun b hb => ?_, by simp; omega, ?_⟩
    · rw [List.map_append, List.nodup_append]
      refine ⟨hu, by simp, fun x hx y hy => ?_⟩
      obtain ⟨b, hb, rfl⟩ := List.mem_map.1 hx
      have hlt := hn b hb
      have hy : y = s.nextUid := by simpa using hy
      omega
    · rcases List.mem_append.1 hb with hb | hb
      · have := hn b hb; omega
      · obtain rfl := List.mem_singleton.1 hb; exact Nat.lt_succ_self _
    · rw [List.filter_append, List.length_append]
      by_cases hem : a.isEmergency = true
      · simpa [hem] using ho
      · have := hshare (Bool.not_eq_true _ ▸ hem)
        simp [hem]
        omega
  unfold joinEntry
  dsimp only
  refine hjoin.trans ?_
  split
  · exact .ite (accessOpportunity_preserves _ _) (.refl _)
  · exact displace_preserves _ _

theorem offerEntry_preserves (e : PendEntry) (s : State) : Preserves s (offerEntry e s).1 := by
  unfold offerEntry
  split
  · exact .refl s
  next h =>
    split
    · exact .refl s
    · exact joinEntry_preserves e (by simpa using h)

end Sys2Proof.Safety
end

section
/-! SUPPORT. What the totals store and the owners of pending entries preserve of the invariants. -/

namespace Sys2Proof.Safety

open Sys2Proof.Machine

/-! ## The store (R129 to R142) -/

theorem oneAbove_le (free n : Nat) : oneAbove free n ≤ 4294967295 := by
  unfold oneAbove
  split <;> omega

theorem writeNoAfter_le {free first : Nat} (h : first ≤ 4294967295) : ∀ i, writeNoAfter free first i ≤ 4294967295
  | 0 => h
  | _ + 1 => oneAbove_le _ _

/-- An operation that changes the write counter alone, within its range (R130). -/
theorem preserves_of_writeCounter {s t : State} (n : Nat)
    (hs : watched t = watched { s with store.writeCounter := n })
    (h : s.store.writeCounter ≤ 4294967295 → n ≤ 4294967295) : Preserves s t := by
  refine Preserves.trans (t := { s with store.writeCounter := n })
    ⟨rfl, rfl, id, id, id, id, fun hc => ?_, id, id, id⟩ (.of_watched hs)
  simp only [CountersFit] at hc ⊢
  exact ⟨hc.1, by tauto⟩

/-- An operation that changes the write queue alone, within its capacity (R132). -/
theorem preserves_of_groups {s t : State} (q : List Group) (hs : watched t = watched { s with store.queue := q })
    (h : s.store.queue.length ≤ 6 → q.length ≤ 6) : Preserves s t := by
  refine Preserves.trans (t := { s with store.queue := q })
    ⟨rfl, rfl, id, id, fun ⟨ho, hm, hr, he, hq, hc⟩ => ⟨ho, hm, hr, he, h hq, hc⟩, id, id, id, id, id⟩ (.of_watched hs)

theorem updateSector_preserves (n : Nat) (f : Sector → Sector) (s : State) : Preserves s (updateSector n f s) :=
  .of_watched (by simp [watched])

theorem beginRecord_preserves (r : Record) (n : Nat) (s : State) : Preserves s (beginRecord r n s) := .of_watched rfl

theorem beginHeader_preserves (n : Nat) (h : Header) (s : State) : Preserves s (beginHeader n h s) := .of_watched rfl

theorem beginErase_preserves (n : Nat) (s : State) : Preserves s (beginErase n s) := by
  unfold beginErase
  dsimp only
  split
  · exact .of_watched rfl
  · exact .of_watched (by simp [watched])

theorem haltStore_preserves (s : State) : Preserves s (haltStore s) :=
  (raise_preserves _ _ _).after rfl

theorem beginSwap_preserves (s : State) : Preserves s (beginSwap s) := by
  unfold beginSwap
  split
  · exact .of_watched rfl
  · split
    · exact beginErase_preserves _ _
    · exact haltStore_preserves _

theorem startHead_preserves (s : State) : Preserves s (startHead s) := by
  unfold startHead
  split
  · exact .of_watched rfl
  next g gs hq =>
    refine .ite (.of_watched rfl) ?_
    split
    next n _ =>
      refine .ite ?_ (beginSwap_preserves s)
      split
      · exact .of_watched rfl
      · refine preserves_of_writeCounter _ ?_ fun h => writeNoAfter_le (free := s.free) h g.records.length
        simp [watched, beginRecord, hq]
    · exact beginSwap_preserves s

theorem markRepaired_preserves (s : State) : Preserves s (markRepaired s) := .of_watched rfl

theorem formatNext_preserves (s : State) : Preserves s (formatNext s) := by
  unfold formatNext
  split
  · split
    · exact (beginErase_preserves _ _).after rfl
    · split
      · exact .of_watched rfl
      · exact (haltStore_preserves _).after rfl
    · exact .refl s
  · exact .refl s

theorem nextRepair_preserves (s : State) : Preserves s (nextRepair s) := by
  unfold nextRepair
  dsimp only
  split
  · exact (beginErase_preserves _ _).after rfl
  refine .ite ?_ ?_
  · split
    · exact .of_watched rfl
    · exact .refl s
  split
  · exact .of_watched rfl
  split
  · exact (beginErase_preserves _ _).after rfl
  refine .ite ((beginSwap_preserves _).after rfl) (.ite ?_ (.ite ?_ (.of_watched rfl)))
  · split
    · exact (beginErase_preserves _ _).after rfl
    · exact .refl s
  · exact (formatNext_preserves _).after rfl

theorem continueStore_preserves (s : State) : Preserves s (continueStore s) := by
  unfold continueStore
  split
  · exact .ite (formatNext_preserves s) (nextRepair_preserves s)
  · exact startHead_preserves s

theorem swapComplete_preserves (s : State) : Preserves s (swapComplete s) :=
  ((raise_preserves _ _ _).trans (continueStore_preserves _)).after rfl

theorem setStep_preserves (sw : Swap) (step : SwapStep) (s : State) : Preserves s (setStep sw step s) := .of_watched rfl

theorem swapErase_preserves (sw : Swap) (s : State) : Preserves s (swapErase sw s) := by
  unfold swapErase
  refine .ite ?_ (swapComplete_preserves s)
  split
  · exact (setStep_preserves _ _ _).trans (beginErase_preserves _ _)
  · exact swapComplete_preserves s

theorem swapHeaderFull_preserves (sw : Swap) (s : State) : Preserves s (swapHeaderFull sw s) := by
  unfold swapHeaderFull
  split
  · exact .of_watched rfl
  · exact swapErase_preserves sw s

theorem swapHeaderActive_preserves (sw : Swap) (s : State) : Preserves s (swapHeaderActive sw s) := .of_watched rfl

theorem swapCarryDone_preserves (sw : Swap) (s : State) : Preserves s (swapCarryDone sw s) := .of_watched rfl

theorem copyRecord_preserves (r : Record) (sw : Swap) (s : State) : Preserves s (copyRecord r sw s) := by
  unfold copyRecord
  exact .ite (.of_watched rfl) (haltStore_preserves s)

theorem swapHistory_preserves (sw : Swap) (s : State) : Preserves s (swapHistory sw s) := by
  unfold swapHistory
  split
  · exact swapCarryDone_preserves _ _
  · refine .ite ?_ (swapCarryDone_preserves _ _)
    split
    · exact copyRecord_preserves _ _ _
    · exact swapCarryDone_preserves _ _

theorem swapCopyNext_preserves (sw : Swap) (s : State) : Preserves s (swapCopyNext sw s) := by
  unfold swapCopyNext
  split
  · exact copyRecord_preserves _ _ _
  · exact swapHistory_preserves _ _

theorem swapSelect_preserves (sw : Swap) (s : State) : Preserves s (swapSelect sw s) := swapCopyNext_preserves _ _

theorem countDropped_preserves (n : Nat) (s : State) : Preserves s (countDropped n s) := by
  unfold countDropped
  refine .ite (.refl s) (Preserves.trans (t := { s with store.dropped := satAdd 65535 s.store.dropped (historyLost s n) })
    ⟨rfl, rfl, id, id, id, id, fun h => ?_, id, id, id⟩ (raise_preserves _ _ _))
  have := satAdd_le 65535 s.store.dropped (historyLost s n)
  simp only [CountersFit] at h ⊢
  tauto

theorem putSlot_preserves (w : RecordWrite) (s : State) : Preserves s (putSlot w s) := updateSector_preserves _ _ s

theorem putHeader_preserves (h : HeaderWrite) (s : State) : Preserves s (putHeader h s) :=
  (updateSector_preserves _ _ _).after rfl

theorem headerDone_preserves (h : HeaderWrite) (s : State) : Preserves s (headerDone h s) := by
  unfold headerDone
  dsimp only
  refine (putHeader_preserves h s).trans ?_
  split
  · split
    · exact swapSelect_preserves _ _
    · exact swapHeaderFull_preserves _ _
    · exact swapErase_preserves _ _
    all_goals exact .refl _
  · split
    · refine .ite ?_ (nextRepair_preserves _)
      exact preserves_of_writeCounter 1 rfl fun _ => by decide
    · exact startHead_preserves _

theorem eraseDone_preserves (n : Nat) (v : Bool) (s : State) : Preserves s (eraseDone n v s) := by
  unfold eraseDone
  dsimp only
  refine (Preserves.ite (countDropped_preserves n s) (.refl s) :
    Preserves s (if (headerOf s n).isFull = true then countDropped n s else s)).trans ?_
  generalize (if (headerOf s n).isFull = true then countDropped n s else s) = s
  refine Preserves.trans (t := { s with store.erasing := none, store.inProgress := false }) (.of_watched rfl) ?_
  generalize { s with store.erasing := none, store.inProgress := false } = s
  have hverdict : Preserves s (if v = true then
      updateSector n (fun c => { c with header := .erased, slots := [], eraseBegun := false }) s
    else raise .storeFault (.sector n) (updateSector n (fun c => { c with fault := true }) s)) :=
    .ite (updateSector_preserves _ _ _) ((updateSector_preserves _ _ _).trans (raise_preserves _ _ _))
  have hnext : ∀ s : State, Preserves s (match s.store.swap with
      | some sw => swapErase sw s
      | none => continueStore s) := fun s => by
    split
    · exact swapErase_preserves _ _
    · exact continueStore_preserves _
  exact hverdict.trans (hnext _)

theorem carriedDone_preserves (sw : Swap) (s : State) : Preserves s (carriedDone sw s) := by
  unfold carriedDone
  split
  · exact swapCopyNext_preserves _ _
  · exact swapCopyNext_preserves _ _
  · exact swapHeaderActive_preserves _ _
  all_goals exact .refl s

theorem kickStore_preserves (s : State) : Preserves s (kickStore s) := .ite (startHead_preserves s) (.refl s)

/-- A group joins a write queue that is not full, or takes the place of a waiting one (R132, R133). -/
theorem offerGroup_preserves (k : GroupKind) (l : List RecordBody) (s : State) : Preserves s (offerGroup k l s).1 := by
  unfold offerGroup
  split
  · exact .refl s
  split
  next hany =>
    refine (preserves_of_groups _ rfl fun h => ?_).trans (kickStore_preserves _)
    have hlt : (s.store.queue.filter fun g => !g.isWaitingCheckpointOf k).length < s.store.queue.length := by
      obtain ⟨g, hg, hw⟩ := List.any_eq_true.1 hany
      exact List.length_filter_lt_length_iff_exists.2 ⟨g, hg, by simp [hw]⟩
    simp
    omega
  split
  · exact .refl s
  next hroom =>
    refine (preserves_of_groups _ rfl fun _ => ?_).trans (kickStore_preserves _)
    simp [Config.writeCapacity] at hroom ⊢
    omega

/-! ## Owners (R46) -/

theorem updateOffer_preserves (id : OfferId) (f : OfferEntry → OfferEntry) (s : State) :
    Preserves s (updateOffer id f s) := by
  unfold updateOffer
  split
  · exact .refl s
  · dsimp only
    refine Preserves.trans ?_ (writeJobPage_preserves _)
    have h : ∀ l o, l.length = s.offers.table.length →
        Preserves s { s with offers.table := l, offers.heldJob := o } := fun l o hl =>
      .of_watched (by simp [watched, hl])
    exact .ite (h _ _ (updateWhere_length _ _ _)) ((h _ _ (updateWhere_length _ _ _)).trans (raise_preserves _ _ _))

theorem offerResult_preserves (r : TxResult) (s : State) : Preserves s (offerResult r s) := by
  unfold offerResult
  split
  · exact .refl s
  · exact .ite (updateOffer_preserves _ _ _) (updateOffer_preserves _ _ _)

theorem setUpload_preserves (n : Nat) (st : UploadState) (s : State) : Preserves s (setUpload n st s) :=
  (raise_preserves _ _ _).after rfl

theorem offerUploadDone_preserves (n : Nat) (s : State) : Preserves s (offerUploadDone n s) :=
  (offerGroup_preserves _ _ s).trans (.of_watched rfl)

theorem tripResult_preserves (r : TxResult) (s : State) : Preserves s (tripResult r s) := by
  unfold tripResult
  split
  · split
    · exact (setUpload_preserves _ _ _).trans (offerUploadDone_preserves _ _)
    all_goals exact setUpload_preserves _ _ _
  · exact .refl s

theorem receiptResult_preserves (r : TxResult) (s : State) : Preserves s (receiptResult r s) :=
  .of_watched (by simp [watched, receiptResult, updateWhere_length])

/-- The alarm moves between states that have a number (R166). -/
theorem setAlarm_preserves {a : AlarmState} {s : State} (ha : a ≠ .quiet) (hs : s.emerg.alarm ≠ .quiet) :
    Preserves s (setAlarm a s) := by
  unfold setAlarm
  refine .ite (.refl s) (Preserves.trans (t := { s with emerg.alarm := a })
    ⟨rfl, rfl, id, id, id, id, id, id, fun hn => ?_, id⟩ (raise_preserves _ _ _))
  exact ⟨fun h => absurd h ha, fun h => absurd (hn.2 h) hs⟩

theorem offerOwn_preserves (p : Phase) (s : State) : Preserves s (offerOwn p s) := by
  unfold offerOwn
  refine .ite (.refl s) ?_
  have h := offerEntry_preserves (ownEmergency p s) s
  obtain ⟨⟨t, a⟩, hr⟩ : ∃ r, offerEntry (ownEmergency p s) s = r := ⟨_, rfl⟩
  rw [hr] at h ⊢
  cases a with
  | joined uid => exact h.trans (.of_watched rfl)
  | full | link => exact h

theorem offerCleared_preserves (s : State) : Preserves s (offerCleared s) :=
  (offerOwn_preserves .cleared s).trans (.ite (.refl _) (.of_watched rfl))

/-- The alarm is over as its number goes (R166). -/
theorem alarmQuiet_preserves (s : State) : Preserves s (alarmQuiet s) := by
  let t : State := { s with emerg.alarm := .quiet, emerg.number := none, emerg.source := none, emerg.repeatTimer := none,
                            emerg.spacingTimer := none }
  have hq : Preserves s t :=
    ⟨rfl, rfl, id, id, id, id, id, id, fun _ => ⟨fun _ => rfl, fun _ => rfl⟩, id⟩
  unfold alarmQuiet setAlarm
  split
  next h => exact hq.trans (.of_watched (by simpa [watched, t] using h))
  · exact hq.trans (raise_preserves .alarmState .ownAlarm t)

theorem clearedSent_preserves (s : State) : Preserves s (clearedSent s) := by
  unfold clearedSent
  exact .ite ((alarmQuiet_preserves _).after rfl) (.of_watched rfl)

theorem ownResult_preserves (o : OwnEntry) (r : TxResult) (s : State) : Preserves s (ownResult o r s) := by
  unfold ownResult
  dsimp only
  have h : Preserves s { s with emerg.ownEntry := none } := .of_watched rfl
  refine h.trans (.ite ?_ (.refl _))
  split
  · exact offerCleared_preserves _
  · exact .ite (clearedSent_preserves _) (.refl _)

theorem updateRelay_preserves (id : AlarmId) (f : RelayEntry → RelayEntry) (s : State) :
    Preserves s (updateRelay id f s) := .of_watched (by simp [watched, updateRelay, updateWhere_length])

/-- An operation that changes the relay table alone, within its capacity (R179). -/
theorem preserves_of_relays {s t : State} (l : List RelayEntry) (hs : watched t = watched { s with emerg.relays := l })
    (h : s.emerg.relays.length ≤ 16 → l.length ≤ 16) : Preserves s t :=
  Preserves.trans (t := { s with emerg.relays := l })
    ⟨rfl, rfl, id, id, fun ⟨ho, hm, hr, he, hrest⟩ => ⟨ho, hm, hr, h he, hrest⟩, id, id, id, id, id⟩ (.of_watched hs)

theorem dropAged_preserves (s : State) : Preserves s (dropAged s) :=
  preserves_of_relays _ rfl fun h => (List.length_filter_le _ _).trans h

theorem emergencyResult_preserves (r : TxResult) (s : State) : Preserves s (emergencyResult r s) := by
  unfold emergencyResult
  split
  · exact (updateRelay_preserves _ _ _).trans (dropAged_preserves _)
  · split
    · exact .ite (ownResult_preserves _ _ _) (.refl s)
    · exact .refl s

/-- A send outcome joins while fewer than 16 stand, or is counted as lost (R57). -/
theorem dataResult_preserves (r : TxResult) (n : Nat) (s : State) : Preserves s (dataResult r n s) := by
  unfold dataResult
  dsimp only
  refine Preserves.trans ?_ (raise_preserves _ _ _)
  split
  next hroom =>
    refine ⟨rfl, rfl, id, fun ⟨hu, hn, hl, ho, hs, hrest⟩ => ⟨hu, hn, hl, ho, ?_, hrest⟩, id, id, id, id, id, id⟩
    simp [Config.outcomeCapacity] at hroom ⊢
    omega
  next =>
    refine ⟨rfl, rfl, id, id, id, id, fun h => ?_, id, id, id⟩
    have := satAdd_le 255 s.tx.outcomeLost 1
    simp only [CountersFit] at h ⊢
    tauto

theorem report_preserves (r : TxResult) (s : State) : Preserves s (report r s) := by
  unfold report
  split
  · exact offerResult_preserves _ _
  · exact tripResult_preserves _ _
  · exact receiptResult_preserves _ _
  · exact emergencyResult_preserves _ _
  · exact dataResult_preserves _ _ _
  · exact .refl s

theorem finishEntry_preserves (e : PendEntry) (o : TxOutcome) (b : Bool) (s : State) :
    Preserves s (finishEntry e o b s) := (dequeue_preserves _ s).trans (report_preserves _ _)

theorem removeUnkeyed_preserves (e : PendEntry) (o : TxOutcome) (b : Bool) (s : State) :
    Preserves s (removeUnkeyed e o b s) :=
  (finishEntry_preserves _ _ _ _).after (by split <;> rfl)

theorem removeWhere_preserves (p : PendEntry → Bool) (o : TxOutcome) (s : State) : Preserves s (removeWhere p o s) :=
  .foldl _ (fun _ _ => removeUnkeyed_preserves _ _ _ _) _ _

theorem notPresent_preserves (u : Nat) (s : State) : Preserves s (notPresent u s) :=
  .of_watched (by simp [watched, notPresent])

theorem retract_preserves (u : Nat) (s : State) : Preserves s (retract u s) := by
  unfold retract
  split
  · exact notPresent_preserves _ _
  · split
    · exact removeUnkeyed_preserves _ _ _ _
    · exact removeUnkeyed_preserves _ _ _ _
    · exact updateEntry_preserves _ _ fun _ => ⟨rfl, rfl⟩
    · exact updateEntry_preserves _ _ fun _ => ⟨rfl, rfl⟩
    · exact .refl s

theorem retractBid_preserves (r : RetractReason) (id : OfferId) (s : State) : Preserves s (retractBid r id s) := by
  unfold retractBid
  split
  · exact (updateOffer_preserves _ _ _).trans (retract_preserves _ _)
  · exact .refl s

theorem retractReply_preserves (r : RetractReason) (id : OfferId) (s : State) : Preserves s (retractReply r id s) := by
  unfold retractReply
  split
  · exact (updateOffer_preserves _ _ _).trans (retract_preserves _ _)
  · exact .refl s

end Sys2Proof.Safety
end

section
/-! SUPPORT. What link confinement, the alarm and the link controller's events preserve of the invariants. -/

namespace Sys2Proof.Safety

open Sys2Proof.Machine

/-! ## Link confinement (R18 to R20) -/

theorem setLink_preserves {l : LinkState} {s : State}
    (h : LinkStateIsNamed s → LinkStateIsNamed { s with link.state := l }) : Preserves s (setLink l s) :=
  .ite (.refl s) (Preserves.trans (t := { s with link.state := l }) ⟨rfl, rfl, h, id, id, id, id, id, id, id⟩
    (raise_preserves _ _ _))

theorem setLink_named {l : LinkState} {s : State} (h : LinkStateIsNamed { s with link.state := l }) :
    LinkStateIsNamed (setLink l s) := by
  unfold setLink
  split
  next hl => rw [← hl] at h; exact h
  · exact (raise_preserves .linkState .link { s with link.state := l }).link h

/-- SILENT and RECOVERING stand whatever the counts name (R18). -/
theorem named_of_mute {l : LinkState} (hl : l.mute = true) {s : State} (h : s.link.sfc ≤ 256 ∧ s.link.hfc ≤ 160) :
    LinkStateIsNamed { s with link.state := l } := by
  refine ⟨h.1, h.2, ?_⟩
  cases l <;> simp [LinkState.mute] at hl ⊢

theorem enterRecovering_preserves (s : State) : Preserves s (enterRecovering s) := by
  let t : State := { s with link.quietSpans := 0, link.partialSpan := 0 }
  have ht : Preserves s t := by
    refine ⟨rfl, rfl, id, id, id, id, fun h => ?_, id, id, id⟩
    simp only [CountersFit, t] at h ⊢
    exact ⟨h.1, h.2.1, h.2.2.1, by decide, by decide, h.2.2.2.2.2⟩
  exact ht.trans (setLink_preserves fun ⟨hs, hh, _⟩ => named_of_mute (s := t) rfl ⟨hs, hh⟩)

theorem silentQueue_preserves (s : State) : Preserves s (silentQueue s) :=
  (removeWhere_preserves _ _ s).trans (handBackDeferring_preserves _)

theorem enterRecovering_emerg (s : State) : (enterRecovering s).emerg = s.emerg := by
  unfold enterRecovering setLink
  split <;> simp

theorem alarmAtSilent_preserves (s : State) : Preserves s (alarmAtSilent s) := by
  have held (h : s.emerg.alarm ≠ .quiet) :
      Preserves s (setAlarm .held { enterRecovering s with emerg.repeatTimer := none }) := by
    refine Preserves.trans ((enterRecovering_preserves s).trans ?_) (setAlarm_preserves nofun ?_)
    · exact .of_watched rfl
    · simpa [enterRecovering_emerg] using h
  unfold alarmAtSilent
  split
  · exact .refl s
  · exact enterRecovering_preserves s
  · exact enterRecovering_preserves s
  next h => exact held (by simp [h])
  next h => exact held (by simp [h])

theorem enterSilent_preserves_after (s : State) : Preserves (setLink .silent s) (enterSilent s) :=
  (silentQueue_preserves _).trans (alarmAtSilent_preserves _)

theorem enterPassive_preserves_after (s : State) : Preserves (setLink .passive s) (enterPassive s) :=
  removeWhere_preserves _ _ _

/-- The state that an evaluation gives is the one the counts name (R18). -/
theorem evaluateLink_named {s : State} (hs : s.link.sfc ≤ 256) (hh : s.link.hfc ≤ 160) :
    LinkStateIsNamed (evaluateLink s) := by
  have named : ∀ l, namedLink s.link.sfc s.link.hfc = l → LinkStateIsNamed (setLink l s) := fun l hl =>
    setLink_named ⟨hs, hh, .inr (.inr hl.symm)⟩
  unfold evaluateLink
  split
  next hm =>
    refine ⟨hs, hh, ?_⟩
    revert hm
    cases s.link.state <;> simp [LinkState.mute]
  dsimp only
  split
  next hl => exact ⟨hs, hh, .inr (.inr hl.symm)⟩
  split
  next hl => exact (enterSilent_preserves_after s).link (named _ hl)
  next hl => exact (enterPassive_preserves_after s).link (named _ hl)
  all_goals exact named _ rfl

theorem evaluateLink_preserves (s : State) : Preserves s (evaluateLink s) := by
  have h : ∀ l, namedLink s.link.sfc s.link.hfc = l → Preserves s (setLink l s) := fun l hl =>
    setLink_preserves fun ⟨hs, hh, _⟩ => ⟨hs, hh, .inr (.inr hl.symm)⟩
  unfold evaluateLink
  refine .ite (.refl s) ?_
  dsimp only
  refine .ite (.refl s) ?_
  split
  next hl => exact (h _ hl).trans (enterSilent_preserves_after s)
  next hl => exact (h _ hl).trans (enterPassive_preserves_after s)
  all_goals exact h _ rfl

/-- A count moves within its bound, the exchange's entry is treated, and the link is evaluated last (R12, R18, R48). -/
theorem evaluateLink_preserves_of_counts {s t u : State}
    (hu : Preserves t u) (hr : Reach t u)
    (hb : s.link.sfc ≤ 256 ∧ s.link.hfc ≤ 160 → t.link.sfc ≤ 256 ∧ t.link.hfc ≤ 160)
    (ht : watched { t with link.sfc := s.link.sfc, link.hfc := s.link.hfc } = watched s) :
    Preserves s (evaluateLink u) := by
  have k := hu.trans (evaluateLink_preserves u)
  have h := Preserves.of_watched ht
  refine ⟨k.pending.trans h.pending, k.elapsed.trans h.elapsed, fun ⟨hs, hh, _⟩ => ?_, k.queues ∘ h.queues,
    k.tables ∘ h.tables, k.display ∘ h.display, k.counters ∘ h.counters, k.meter ∘ h.meter, k.alarm ∘ h.alarm,
    k.reset ∘ h.reset⟩
  obtain ⟨hsfc, hhfc⟩ := hb ⟨hs, hh⟩
  obtain ⟨-, -, -, hs', hh', -⟩ := hr.keeps
  exact evaluateLink_named (hs' ▸ hsfc) (hh' ▸ hhfc)

theorem offerOwnOpen_after_alarm {s : State} (h : s.emerg.alarm = .held) :
    Preserves s (offerOwn .open { setAlarm .open s with emerg.repeatTimer := some 2 }) :=
  (setAlarm_preserves (by decide) (by simp [h])).trans ((offerOwn_preserves _ _).after rfl)

/-- Recovery clears the counts, and 0 names ACTIVE (R20). -/
theorem recoveryCompletes_preserves (s : State) : Preserves s (recoveryCompletes s) := by
  let t : State := { s with link.state := .active, link.sfc := 0, link.hfc := 0, link.quietSpans := 0, link.partialSpan := 0 }
  let r : State := setLink .active { s with link.sfc := 0, link.hfc := 0, link.quietSpans := 0, link.partialSpan := 0 }
  have ht : Preserves s t := by
    refine ⟨rfl, rfl, fun _ => ⟨Nat.zero_le _, Nat.zero_le _, .inr (.inr rfl)⟩, id, id, id, fun h => ?_, id, id, id⟩
    simp only [CountersFit, t] at h ⊢
    exact ⟨h.1, h.2.1, h.2.2.1, Nat.zero_le _, Nat.zero_le _, h.2.2.2.2.2⟩
  have hr : Preserves s r := by
    unfold r setLink
    split
    next h => exact ht.trans (.of_watched (by simp [watched, t, ← h]))
    · exact ht.trans (raise_preserves .linkState .link t)
  have hopen : Preserves r
      (if r.emerg.alarm = .held then offerOwn .open { setAlarm .open r with emerg.repeatTimer := some 2 } else r) := by
    split
    next h => exact offerOwnOpen_after_alarm h
    · exact .refl r
  exact (hr.trans hopen).trans (channelBecomesFree_preserves _)

theorem quietSlot_preserves (s : State) : Preserves s (quietSlot s) := by
  unfold quietSlot
  split
  next h =>
    refine ⟨rfl, rfl, id, id, id, id, fun hc => ?_, id, id, id⟩
    simp only [CountersFit] at hc ⊢
    exact ⟨hc.1, hc.2.1, hc.2.2.1, hc.2.2.2.1, h, hc.2.2.2.2.2⟩
  split
  next h =>
    refine ⟨rfl, rfl, id, id, id, id, fun hc => ?_, id, id, id⟩
    simp only [CountersFit] at hc ⊢
    exact ⟨hc.1, hc.2.1, hc.2.2.1, h, Nat.zero_le _, hc.2.2.2.2.2⟩
  · exact recoveryCompletes_preserves s

/-! ## Refusals, and the alarm leaving QUIET (R74, R77, R79, R170) -/

/-- An offer whose joining is recorded in the offer table. -/
theorem offerRefuse_preserves (id : OfferId) (r : RefuseReason) (s : State) : Preserves s (offerRefuse id r s) := by
  unfold offerRefuse
  have h := offerEntry_preserves (replyEntry id (.refuse id r) s) s
  obtain ⟨⟨t, a⟩, hr⟩ : ∃ x, offerEntry (replyEntry id (.refuse id r) s) s = x := ⟨_, rfl⟩
  rw [hr] at h ⊢
  cases a with
  | joined uid => exact h.trans (updateOffer_preserves _ _ _)
  | full | link => exact h

theorem refuseOwn_preserves (id : OfferId) (r : RefuseReason) (s : State) : Preserves s (refuseOwn id r s) :=
  (offerRefuse_preserves _ _ _).trans (updateOffer_preserves _ _ _)

theorem alarmOnOffer_preserves (s : State) (e : OfferEntry) : Preserves s (alarmOnOffer s e) := by
  unfold alarmOnOffer
  split
  · exact retractBid_preserves _ _ _
  · exact updateOffer_preserves _ _ _
  · exact refuseOwn_preserves _ _ _
  all_goals exact .refl s

/-- A change of the open trip that leaves it open (R86). -/
theorem updateTrip_preserves (f : Trip → Trip) (s : State) : Preserves s (updateTrip f s) := by
  refine ⟨rfl, rfl, id, id, id, id, id, fun hm => ?_, id, id⟩
  simpa [updateTrip] using hm

theorem flagEmergency_preserves (s : State) : Preserves s (flagEmergency s) := updateTrip_preserves _ s

theorem alarmLeavesQuiet_preserves (s : State) : Preserves s (alarmLeavesQuiet s) :=
  ((Preserves.foldl _ alarmOnOffer_preserves _ s).trans (flagEmergency_preserves _)).trans (removeWhere_preserves _ _ _)

/-- The alarm of a state with a number leaves QUIET, and what follows; `m` is the state as the number was given (R170). -/
theorem alarmStarts_preserves_of_number {s m t : State} {n : Nat}
    (hm : watched { m with emerg.alarm := s.emerg.alarm, emerg.number := s.emerg.number } = watched s)
    (k : Preserves m t) (hn : t.emerg.number = some n) : Preserves s (alarmStarts t) := by
  have h := Preserves.of_watched hm
  have hset : ∀ a, a ≠ .quiet → Preserves s (setAlarm a t) := fun a ha => by
    let u : State := { t with emerg.alarm := a }
    have hu : Preserves s u := ⟨k.pending.trans h.pending, k.elapsed.trans h.elapsed, k.link ∘ h.link,
      k.queues ∘ h.queues, k.tables ∘ h.tables, k.display ∘ h.display, k.counters ∘ h.counters, k.meter ∘ h.meter,
      fun _ => ⟨fun hq => absurd hq ha, fun hq => by simp [u, hn] at hq⟩, k.reset ∘ h.reset⟩
    unfold setAlarm
    split
    next he => exact hu.trans (.of_watched (by simp [watched, u, he]))
    · exact hu.trans (raise_preserves .alarmState .ownAlarm u)
  have hstart : ∀ a, a ≠ .quiet → Preserves s (offerOwn .open (alarmLeavesQuiet (setAlarm a t))) := fun a ha =>
    ((hset a ha).trans (alarmLeavesQuiet_preserves _)).trans (offerOwn_preserves _ _)
  unfold alarmStarts
  dsimp only
  cases t.link.state.mute
  · exact (hstart .open (by decide)).trans (.of_watched rfl)
  · exact hstart .held (by decide)

theorem offerAlarmOpen_preserves (s : State) : Preserves s (offerAlarmOpen s) := by
  unfold offerAlarmOpen
  split
  next r _ =>
    have h := offerGroup_preserves .alarmOpen [.alarmOpen r] s
    obtain ⟨⟨t, a⟩, hr⟩ : ∃ x, offerGroup .alarmOpen [.alarmOpen r] s = x := ⟨_, rfl⟩
    rw [hr] at h ⊢
    cases a <;> exact h.trans (.of_watched rfl)
  · exact .refl s

theorem reofferAlarmOpen_preserves (s : State) : Preserves s (reofferAlarmOpen s) :=
  .ite (offerAlarmOpen_preserves s) (.refl s)

theorem offerGroup_emerg (k : GroupKind) (l : List RecordBody) (s : State) : (offerGroup k l s).1.emerg = s.emerg := by
  unfold offerGroup
  split
  · rfl
  split
  · simp [kickStore_keeps]
  split
  · rfl
  · simp [kickStore_keeps]

theorem offerAlarmOpen_alarm (s : State) :
    (offerAlarmOpen s).emerg.alarm = s.emerg.alarm ∧ (offerAlarmOpen s).emerg.number = s.emerg.number := by
  unfold offerAlarmOpen
  split
  next r _ =>
    have h := offerGroup_emerg .alarmOpen [.alarmOpen r] s
    obtain ⟨⟨t, a⟩, hr⟩ : ∃ x, offerGroup .alarmOpen [.alarmOpen r] s = x := ⟨_, rfl⟩
    rw [hr] at h ⊢
    cases a <;> simp_all
  · exact ⟨rfl, rfl⟩

/-- A raise numbers the alarm first and then starts it (R170). -/
theorem raiseAlarm_preserves (source : RaiseSource) (s : State) : Preserves s (raiseAlarm source s) := by
  let m : State := { s with
    emerg.number := some (wrapInc 255 s.emerg.lastNumber), emerg.lastNumber := wrapInc 255 s.emerg.lastNumber,
    emerg.nextRepeat := 0, emerg.ackHeard := false, emerg.clearedSent := 0, emerg.source := some source }
  let u : State := offerAlarmOpen { m with emerg.openGroup := some (openRecordNow m) }
  have hu : Preserves m u := (offerAlarmOpen_preserves _).after rfl
  have hnumber : u.emerg.number = m.emerg.number := (offerAlarmOpen_alarm _).2
  have hlink : Preserves u (if u.link.state = .silent then enterRecovering u else u) :=
    .ite (enterRecovering_preserves u) (.refl u)
  refine alarmStarts_preserves_of_number (m := m) rfl (hu.trans hlink) (n := wrapInc 255 s.emerg.lastNumber) ?_
  split
  · rw [enterRecovering_emerg]; exact hnumber
  · exact hnumber

/-! ## Keying (R5, R8 to R10) -/

theorem heldEntry_mem {s : State} {e : PendEntry} (h : heldEntry s = some e) : e ∈ s.tx.queue :=
  List.mem_of_find?_eq_some h

/-- The entry that is keyed keeps its name and its class in its place. -/
theorem keyEntry_preserves {e : PendEntry} {s : State} (he : e ∈ s.tx.queue) : Preserves s (keyEntry e s) := by
  let n := if e.seq.isNone then wrapInc 255 s.link.seqCounter else s.link.seqCounter
  have hcount : Preserves s { s with link.seqCounter := n } := by
    refine ⟨rfl, rfl, id, id, id, id, fun h => ?_, id, id, id⟩
    simp only [CountersFit] at h ⊢
    refine ⟨h.1, h.2.1, ?_, h.2.2.2⟩
    unfold n
    split
    · exact wrapInc_le _ _
    · exact h.2.2.1
  refine hcount.trans (preserves_of_queue s.nextUid (keyEntry e s).tx.queue rfl fun h => ?_)
  refine queueFits_updateWhere h fun a ha hu => ?_
  have hae : a = e := List.inj_on_of_nodup_map h.1 ha he (by simpa using hu)
  rw [hae]
  exact ⟨rfl, rfl⟩

theorem goIdle_preserves (s : State) : Preserves s (goIdle s) := .of_watched rfl

theorem unkey_preserves (s : State) : Preserves s (unkey s) := .of_watched rfl

theorem bidUnsent_preserves (e : PendEntry) (s : State) : Preserves s (bidUnsent e s) := removeUnkeyed_preserves _ _ _ _

theorem bidKeyingBoundary_preserves (s : State) : Preserves s (bidKeyingBoundary s) := by
  unfold bidKeyingBoundary
  split
  next e _ he _ =>
    exact .ite (.ite (bidUnsent_preserves _ _) (keyEntry_preserves (heldEntry_mem he))) (.refl s)
  · exact .refl s

theorem deferralCountRunOut_preserves (s : State) : Preserves s (deferralCountRunOut s) := by
  unfold deferralCountRunOut
  split
  next he _ => exact .ite (keyEntry_preserves (heldEntry_mem he)) (.refl s)
  · exact .refl s

theorem bidSlotArrives_preserves (id : OfferId) (s : State) : Preserves s (bidSlotArrives id s) := by
  unfold bidSlotArrives
  split
  next b _ =>
    dsimp only
    refine .ite ?_ (.refl s)
    have hmark := updateEntry_preserves b.uid (f := fun e => { e with eligible := true }) s fun _ => ⟨rfl, rfl⟩
    generalize updateEntry b.uid (fun e => { e with eligible := true }) s = u at hmark
    have htake : Preserves u (if u.link.side = .idle then accessOpportunity (channelFree u) u
        else displace (channelFree u) u) := .ite (accessOpportunity_preserves _ _) (displace_preserves _ _)
    have hkey : ∀ t : State, Preserves t (match findEntry b.uid t with
        | some e => if e.state = .deferring ∧ e.attempts = 0 ∧ channelFree u = true then keyEntry e t else t
        | none => t) := fun t => by
      split
      next he => exact .ite (keyEntry_preserves (List.mem_of_find?_eq_some he)) (.refl _)
      · exact .refl _
    exact (hmark.trans htake).trans (hkey _)
  · exact .refl s

theorem bidWindowEnd_preserves (id : OfferId) (s : State) : Preserves s (bidWindowEnd id s) := by
  unfold bidWindowEnd
  split
  · exact .ite (.ite (bidUnsent_preserves _ _) (updateEntry_preserves _ _ fun _ => ⟨rfl, rfl⟩)) (.refl s)
  · exact .refl s

/-! ## Attempts and their ends (R11 to R13) -/

theorem attemptFailed_preserves (e : PendEntry) (s : State) : Preserves s (attemptFailed e s) := by
  unfold attemptFailed
  exact .ite (finishEntry_preserves _ _ _ _)
    (.ite (finishEntry_preserves _ _ _ _) (updateEntry_preserves _ _ fun _ => ⟨rfl, rfl⟩))

theorem attemptDone_preserves (e : PendEntry) (o : TxOutcome) (s : State) : Preserves s (attemptDone e o s) :=
  finishEntry_preserves _ _ _ _

theorem decideAttempt_preserves (s : State) : Preserves s (decideAttempt s) := by
  unfold decideAttempt
  split
  next e _ =>
    dsimp only
    split
    · exact evaluateLink_preserves_of_counts (attemptDone_preserves _ _ _) (attemptDone_reach _ _ _)
        (fun ⟨hs, hh⟩ => ⟨(Nat.sub_le _ _).trans hs, hh⟩) rfl
    · exact evaluateLink_preserves_of_counts (attemptFailed_preserves _ _) (attemptFailed_reach _ _)
        (fun ⟨_, hh⟩ => ⟨satAdd_le _ _ _, hh⟩) rfl
  · exact goIdle_preserves s

theorem ackGapCloses_preserves (s : State) : Preserves s (ackGapCloses s) := by
  unfold ackGapCloses
  refine .ite (.ite (.of_watched rfl) ?_) (.refl s)
  exact ((decideAttempt_preserves _).trans (channelBecomesFree_preserves _)).after rfl

theorem idleGapCloses_preserves (s : State) : Preserves s (idleGapCloses s) := by
  unfold idleGapCloses
  split
  · exact .ite (((attemptDone_preserves _ _ _).trans (channelBecomesFree_preserves _)).after rfl) (.refl s)
  · exact .refl s

theorem setFault_preserves (f : FaultKind) (s : State) : Preserves s (setFault f s) := .of_watched rfl

theorem runOffEnds_preserves (why : RunOff) (b : Bool) (s : State) : Preserves s (runOffEnds why b s) := by
  unfold runOffEnds
  split
  · split
    · exact dequeue_preserves _ _
    · refine .ite (.ite (attemptFailed_preserves _ _) (updateEntry_preserves _ _ fun _ => ⟨rfl, rfl⟩)) ?_
      exact (Preserves.ite (.refl s) (setFault_preserves _ s)).trans (attemptDone_preserves _ _ _)
  · exact .refl s

theorem faultedEnds_preserves (e : PendEntry) (s : State) : Preserves s (faultedEnds e s) := by
  unfold faultedEnds
  exact .ite (.ite (finishEntry_preserves _ _ _ _) (attemptFailed_preserves _ _)) (attemptDone_preserves _ _ _)

theorem endOfAirtime_preserves (s : State) : Preserves s (endOfAirtime s) := by
  unfold endOfAirtime
  refine .ite (.refl s) ?_
  dsimp only
  split
  · exact (runOffEnds_preserves _ _ _).after rfl
  refine .ite ?_ (unkey_preserves s)
  split
  · refine .ite ((faultedEnds_preserves _ _).after rfl) (.ite ?_ (.of_watched rfl))
    exact (updateEntry_preserves _ (f := fun e => { e with state := if e.state = .onAir then .awaitLack else e.state })
      _ fun _ => ⟨rfl, rfl⟩).after rfl
  · exact .of_watched rfl

theorem keyingFault_preserves (s : State) : Preserves s (keyingFault s) := by
  unfold keyingFault
  refine .ite ?_ (.refl s)
  dsimp only
  refine .ite ?_ (.of_watched rfl)
  exact evaluateLink_preserves_of_counts (.refl _) (.refl _) (fun ⟨_, hh⟩ => ⟨satAdd_le _ _ _, hh⟩) rfl

/-! ## Carrier, gaps and slots (R1, R3, R9, R20, R22) -/

theorem carrierAppears_preserves (s : State) : Preserves s (carrierAppears s) := by
  unfold carrierAppears
  refine .ite (.refl s) (.ite ?_ (.of_watched rfl))
  refine Preserves.trans ?_ (handBackDeferring_preserves _)
  refine ⟨rfl, rfl, id, id, id, id, fun h => ?_, id, id, id⟩
  obtain ⟨hc, hl, hs, hq, -, hi, hrest⟩ := h
  refine ⟨hc, hl, hs, hq, Nat.zero_le _, fun n hn => ?_, hrest⟩
  obtain ⟨m, -, rfl⟩ := Option.map_eq_some_iff.1 hn
  exact Nat.zero_le _

theorem gapCloses_preserves (s : State) : Preserves s (gapCloses s) := by
  unfold gapCloses
  refine .ite (.refl s) ?_
  dsimp only
  exact (channelBecomesFree_preserves _).after (by split <;> rfl)

theorem countSlot_preserves (s : State) : Preserves s (countSlot s) := by
  unfold countSlot
  split
  · exact .ite (.of_watched rfl) (.refl s)
  · exact .refl s

/-- A listen-in of at most three slots (R22). -/
theorem preserves_of_listenIn {s t : State} {l : Option Nat} (hs : watched t = watched { s with link.listenIn := l })
    (h : ∀ n, l = some n → n ≤ 3) : Preserves s t :=
  Preserves.trans (t := { s with link.listenIn := l })
    ⟨rfl, rfl, id, id, id, id, fun ⟨hc, hl, hs, hq, hp, _, hrest⟩ => ⟨hc, hl, hs, hq, hp, h, hrest⟩, id, id, id⟩
    (.of_watched hs)

theorem slotBoundary_preserves (s : State) : Preserves s (slotBoundary s) := by
  unfold slotBoundary
  refine .ite (.refl s) ?_
  dsimp only
  refine (countSlot_preserves s).trans ?_
  split
  next n _ =>
    refine .ite (preserves_of_listenIn (l := some (min 3 (n + 1))) rfl fun m hm => ?_) (.refl _)
    obtain rfl := Option.some.inj hm
    exact Nat.min_le_left _ _
  · exact .ite (quietSlot_preserves _) (.refl _)

theorem quietSpanCompletes_preserves (s : State) : Preserves s (quietSpanCompletes s) :=
  .ite (quietSlot_preserves s) (.refl s)

theorem listenInCompletes_preserves (s : State) : Preserves s (listenInCompletes s) := by
  unfold listenInCompletes
  split
  · refine .ite ?_ (.refl s)
    exact (preserves_of_listenIn (l := none) rfl (by simp)).trans (channelBecomesFree_preserves _)
  · exact .refl s

theorem startListening_preserves (s : State) : Preserves s (startListening s) :=
  preserves_of_listenIn (l := some 0) rfl fun n hn => by
    obtain rfl := Option.some.inj hn
    exact Nat.zero_le _

theorem gapAfter_preserves (g : Gap) (s : State) : Preserves s (gapAfter g s) := .of_watched rfl

theorem afterCarrier_preserves (s : State) : Preserves s (afterCarrier s) :=
  (Preserves.ite (decideAttempt_preserves s) (.refl s)).trans (channelBecomesFree_preserves _)

theorem ensureCarrier_preserves (s : State) : Preserves s (ensureCarrier s) :=
  .ite (.refl s) (carrierAppears_preserves s)

theorem badCarrier_preserves (k : Nat) (f : FaultKind) (s : State) : Preserves s (badCarrier k f s) :=
  evaluateLink_preserves_of_counts (.refl (setFault f { s with link.hfc := hfcRise k s.link.hfc })) (.refl _)
    (fun ⟨hs, _⟩ => ⟨hs, satAdd_le _ _ _⟩) rfl

theorem unreadCarrier_preserves (o : FrameOutcome) (s : State) : Preserves s (unreadCarrier o s) := by
  have heard : Preserves s (match o with
      | .check => badCarrier 1 .check s
      | .cutOff => badCarrier 2 .cutOff s
      | .noFrame | .pass _ _ => s) := by
    cases o with
    | check | cutOff => exact badCarrier_preserves _ _ _
    | noFrame | pass => exact .refl s
  exact (heard.trans (gapAfter_preserves _ _)).trans (afterCarrier_preserves _)

end Sys2Proof.Safety
end

section
/-! SUPPORT. What the offer engine, the emergency controller, the message unit and the receive filter preserve of the
invariants. -/

namespace Sys2Proof.Safety

open Sys2Proof.Machine

/-! ## The offer table (R60, R62) -/

/-- An operation that changes the offer table alone, within its capacity (R60). -/
theorem preserves_of_offers {s t : State} (l : List OfferEntry) (hs : watched t = watched { s with offers.table := l })
    (h : s.offers.table.length ≤ 8 → l.length ≤ 8) : Preserves s t :=
  Preserves.trans (t := { s with offers.table := l })
    ⟨rfl, rfl, id, id, fun ⟨ho, hrest⟩ => ⟨h ho, hrest⟩, id, id, id, id, id⟩ (.of_watched hs)

theorem evictFinal_length {l : List OfferEntry} (h : l.any (·.state.isFinal) = true) :
    (evictFinal l).length + 1 = l.length := by
  induction l with
  | nil => simp at h
  | cons e l ih =>
    unfold evictFinal
    split
    · rfl
    next hf =>
      have hl : l.any (·.state.isFinal) = true := by simpa [hf] using h
      simp [ih hl]

/-- Room for an entry is a table with a place free (R62). -/
theorem roomFor_length {l t : List OfferEntry} (h : roomFor l = some t) (hl : l.length ≤ 8) : t.length < 8 := by
  unfold roomFor Config.offerCapacity at h
  split at h
  next hlt => cases h; exact hlt
  split at h
  next hf =>
    cases h
    have := evictFinal_length hf
    omega
  · cases h

theorem offers_counter {s : State} {n : Nat} (hn : n ≤ 255) : Preserves s { s with offers.overflow := n } := by
  refine ⟨rfl, rfl, id, id, id, id, fun h => ?_, id, id, id⟩
  simp only [CountersFit] at h ⊢
  tauto

theorem countOverflow_preserves (s : State) : Preserves s (countOverflow s) := offers_counter (satAdd_le _ _ _)

theorem offerEntry_table_length (e : PendEntry) (s : State) :
    (offerEntry e s).1.offers.table = s.offers.table := by
  have hj : ∀ s : State, ∀ b, (accessOpportunity b s).offers = s.offers := fun s b => by
    unfold accessOpportunity present
    repeat' split
    all_goals simp
  have hb : ∀ s : State, (handBackDeferring s).offers = s.offers := fun s => by
    unfold handBackDeferring
    split <;> rfl
  unfold offerEntry
  repeat' split
  · rfl
  · rfl
  · simp only [joinEntry, displace]
    repeat' split
    all_goals simp [hj, hb]

theorem bidFor_preserves {e : OfferEntry} {f : OfferFields} {t : List OfferEntry} {s : State}
    (ht : s.offers.table.length ≤ 8 → t.length < 8) : Preserves s (bidFor e f t s) := by
  unfold bidFor
  dsimp only
  generalize hb : bidEntry e.id _ _ f.window s = b
  have h := offerEntry_preserves b s
  have hl := offerEntry_table_length b s
  obtain ⟨⟨u, a⟩, hr⟩ : ∃ x, offerEntry b s = x := ⟨_, rfl⟩
  rw [hr] at h hl ⊢
  have joined : ∀ x : OfferEntry, Preserves u { u with offers.table := t ++ [x] } := fun x =>
    preserves_of_offers (t ++ [x]) rfl fun hu => by
      have := ht (hl ▸ hu)
      simp
      omega
  cases a with
  | joined uid => exact h.trans (((joined _).trans (writeJobPage_preserves _)).trans (raise_preserves _ _ _))
  | full | link => exact h.trans (((joined _).trans (writeJobPage_preserves _)).trans (raise_preserves _ _ _))

theorem offerHeard_preserves (n : Nat) (f : OfferFields) (s : State) : Preserves s (offerHeard n f s).1 := by
  unfold offerHeard
  dsimp only
  split
  · exact .refl s
  split
  · exact countOverflow_preserves s
  next t ht =>
    split
    · refine Preserves.trans (preserves_of_offers _ rfl fun h => ?_) (writeJobPage_preserves _)
      have := roomFor_length ht h
      simp
      omega
    · exact bidFor_preserves (roomFor_length ht)

/-! ## What the offer engine hears (R69, R72 to R74, R80) -/

theorem bidHeard_preserves (n : Nat) (f : BidFields) (s : State) : Preserves s (bidHeard n f s).1 := by
  unfold bidHeard
  split
  · exact .refl s
  split
  · dsimp only
    split
    · exact (updateOffer_preserves _ _ _).trans (retractBid_preserves _ _ _)
    · exact updateOffer_preserves _ _ _
  · exact .refl s

theorem makeAwarded_preserves (id : OfferId) (t : Option (List Byte)) (s : State) : Preserves s (makeAwarded id t s) :=
  ((updateOffer_preserves _ _ s).trans (raise_preserves _ _ _)).trans (showPage_preserves (by decide) _)

theorem assign_preserves (e : OfferEntry) (t : Option (List Byte)) (s : State) : Preserves s (assign e t s) := by
  have reused : Preserves s (if e.state.isFinal then updateOffer e.id clearForReuse s else s) :=
    .ite (updateOffer_preserves _ _ _) (.refl s)
  unfold assign
  dsimp only
  split
  · exact .ite ((reused.trans (makeAwarded_preserves _ _ _)).trans (retractBid_preserves _ _ _))
      (reused.trans (makeAwarded_preserves _ _ _))
  · exact .ite ((reused.trans (refuseOwn_preserves _ _ _)).trans (retractBid_preserves _ _ _))
      (reused.trans (refuseOwn_preserves _ _ _))

theorem directAssignment_preserves (id : OfferId) (t : Option (List Byte)) (s : State) :
    Preserves s (directAssignment id t s) := by
  unfold directAssignment
  split
  · exact assign_preserves _ _ _
  split
  next l hl =>
    refine Preserves.trans (preserves_of_offers _ rfl fun h => ?_) (assign_preserves _ _ _)
    have := roomFor_length hl h
    simp
    omega
  · exact (countOverflow_preserves s).trans (offerEntry_preserves _ _)

theorem awardOwn_preserves (f : AwardFields) (s : State) : Preserves s (awardOwn f s).1 := by
  unfold awardOwn
  split
  · split
    · exact updateOffer_preserves _ _ _
    split
    · exact makeAwarded_preserves _ _ _
    · exact directAssignment_preserves _ _ _
  · exact directAssignment_preserves _ _ _

theorem takeAway_preserves (id : OfferId) (st : OfferState) (r : RetractReason) (s : State) :
    Preserves s (takeAway id st r s) :=
  ((updateOffer_preserves _ _ s).trans (retractBid_preserves _ _ _)).trans (retractReply_preserves _ _ _)

theorem awardOther_preserves (id : OfferId) (s : State) : Preserves s (awardOther id s).1 := by
  unfold awardOther
  split
  · split
    · exact .refl s
    · exact takeAway_preserves _ _ _ _
  · exact .refl s

theorem awardHeard_preserves (f : AwardFields) (s : State) : Preserves s (awardHeard f s).1 := by
  unfold awardHeard
  split
  · exact awardOwn_preserves _ _
  · exact awardOther_preserves _ _

theorem withdrawHeard_preserves (id : OfferId) (s : State) : Preserves s (withdrawHeard id s).1 := by
  unfold withdrawHeard
  split
  · split
    · exact .refl s
    · exact takeAway_preserves _ _ _ _
  · exact .refl s

/-! ## Offer timers, the host's answers and the meter (R71, R75 to R78) -/

theorem awardTimerExpiry_preserves (id : OfferId) (s : State) : Preserves s (awardTimerExpiry id s) := by
  unfold awardTimerExpiry
  split
  · exact .ite (updateOffer_preserves _ _ _) (.refl s)
  · exact .refl s

theorem acceptTimerExpiry_preserves (id : OfferId) (s : State) : Preserves s (acceptTimerExpiry id s) := by
  unfold acceptTimerExpiry
  split
  · exact .ite (refuseOwn_preserves _ _ _) (.refl s)
  · exact .refl s

theorem offerSecond_preserves (s : State) : Preserves s (offerSecond s) :=
  Preserves.trans (.of_watched (by simp [watched])) (writeJobPage_preserves _)

theorem acceptJob_preserves (id : OfferId) (s : State) : Preserves s (acceptJob id s).1 := by
  unfold acceptJob
  split
  · exact .refl s
  split
  · have h := offerEntry_preserves (replyEntry id (.accept id) s) s
    obtain ⟨⟨t, a⟩, hr⟩ : ∃ x, offerEntry (replyEntry id (.accept id) s) s = x := ⟨_, rfl⟩
    rw [hr] at h ⊢
    cases a with
    | joined uid => exact h.trans (updateOffer_preserves _ _ _)
    | full | link => exact h
  · exact .refl s

theorem refuseJob_preserves (id : OfferId) (s : State) : Preserves s (refuseJob id s).1 := by
  unfold refuseJob
  split
  · exact .refl s
  split
  · have h := offerEntry_preserves (replyEntry id (.refuse id .driver) s) s
    obtain ⟨⟨t, a⟩, hr⟩ : ∃ x, offerEntry (replyEntry id (.refuse id .driver) s) s = x := ⟨_, rfl⟩
    rw [hr] at h ⊢
    cases a with
    | joined uid => exact h.trans (updateOffer_preserves _ _ _)
    | full | link => exact h
  · exact .refl s

theorem hireOnOffer_preserves (n : Nat) (s : State) (e : OfferEntry) : Preserves s (hireOnOffer n s e) := by
  unfold hireOnOffer
  split
  · exact retractBid_preserves _ _ _
  · exact updateOffer_preserves _ _ _
  · exact refuseOwn_preserves _ _ _
  · exact updateOffer_preserves _ _ _
  · exact updateOffer_preserves _ _ _
  · exact updateOffer_preserves _ _ _
  all_goals exact .refl s

theorem closeLinked_preserves (n : Nat) (s : State) : Preserves s (closeLinked n s) := by
  unfold closeLinked
  split
  · exact updateOffer_preserves _ _ _
  · exact .refl s

/-! ## The relay table (R179 to R182) -/

/-- Room for a pair is a table with a place free (R179). -/
theorem relayRoom_length {now : Nat} {l t : List RelayEntry} (h : relayRoom now l = some t) (hl : l.length ≤ 16) :
    t.length < 16 := by
  unfold relayRoom Config.relayCapacity at h
  split at h
  next hlt => cases h; exact hlt
  split at h
  next e he =>
    split at h
    · cases h
      have hlt : (l.filter fun a => a.id != e.id).length < l.length :=
        List.length_filter_lt_length_iff_exists.2 ⟨e, oldestRelay_mem he, by simp⟩
      omega
    · cases h
  · cases h

theorem hearPair_preserves {id : AlarmId} {s t : State} (h : hearPair id s = some t) : Preserves s t := by
  unfold hearPair at h
  dsimp only at h
  split at h
  · cases h
    exact updateRelay_preserves _ _ _
  split at h
  next l hl =>
    cases h
    refine Preserves.trans (preserves_of_relays _ rfl fun hs => ?_) (raise_preserves _ _ _)
    have := relayRoom_length hl hs
    simp
    omega
  · cases h

theorem countRelayOverflow_preserves (s : State) : Preserves s (countRelayOverflow s) := by
  refine ⟨rfl, rfl, id, id, id, id, fun h => ?_, id, id, id⟩
  have := satAdd_le 255 s.emerg.relayOverflow 1
  simp only [CountersFit, countRelayOverflow] at h ⊢
  tauto

theorem relayEmergency_preserves (f : EmergencyFields) (hop : Nat) (s : State) :
    Preserves s (relayEmergency f hop s) := by
  unfold relayEmergency
  generalize relayEntry f.alarm _ hop = e
  have h := offerEntry_preserves e s
  obtain ⟨⟨t, a⟩, hr⟩ : ∃ x, offerEntry e s = x := ⟨_, rfl⟩
  rw [hr] at h ⊢
  cases a with
  | joined uid => exact h.trans (updateRelay_preserves _ _ _)
  | full | link => exact h

theorem treatEmergency_preserves (f : EmergencyFields) (hop : Nat) (s : State) :
    Preserves s (treatEmergency f hop s) := by
  unfold treatEmergency
  split
  · split
    · exact .ite (retract_preserves _ _) (.refl s)
    · exact .ite (relayEmergency_preserves _ _ _) (.refl s)
  · exact .refl s

theorem emergencyHeard_preserves (f : EmergencyFields) (hop : Nat) (s : State) :
    Preserves s (emergencyHeard f hop s).1 := by
  unfold emergencyHeard
  split
  · exact .refl s
  split
  · exact countRelayOverflow_preserves s
  next h => exact ((hearPair_preserves h).trans (updateRelay_preserves _ _ _)).trans (treatEmergency_preserves _ _ _)

theorem relayAck_preserves (id : AlarmId) (hop : Nat) (s : State) : Preserves s (relayAck id hop s) := by
  unfold relayAck
  generalize relayEntry id _ hop = e
  have h := offerEntry_preserves e s
  obtain ⟨⟨t, a⟩, hr⟩ : ∃ x, offerEntry e s = x := ⟨_, rfl⟩
  rw [hr] at h ⊢
  cases a with
  | joined uid => exact h.trans (updateRelay_preserves _ _ _)
  | full | link => exact h

theorem treatAck_preserves (id : AlarmId) (hop : Nat) (s : State) : Preserves s (treatAck id hop s) := by
  unfold treatAck
  split
  · split
    · exact retract_preserves _ _
    · exact .ite (relayAck_preserves _ _ _) (.refl s)
    · exact .refl s
  · exact .refl s

/-! ## The own alarm (R172, R174 to R176, R184) -/

theorem showMarker_preserves (s : State) : Preserves s (showMarker s) := (setChar_preserves _ _ _ _ _).after rfl

theorem ownAck_preserves (s : State) : Preserves s (ownAck s).1 := by
  unfold ownAck
  split
  next h =>
    refine Preserves.trans ?_ (showMarker_preserves _)
    refine Preserves.trans ?_ (setAlarm_preserves (a := .acknowledged) nofun ?_)
    · exact .of_watched rfl
    · simp [h]
  · exact showMarker_preserves s
  · exact (showMarker_preserves _).after rfl
  all_goals exact .refl s

theorem ackHeard_preserves (id : AlarmId) (hop : Nat) (s : State) : Preserves s (ackHeard id hop s).1 := by
  unfold ackHeard
  split
  · split
    · exact ownAck_preserves s
    · exact .refl s
  · split
    · exact countRelayOverflow_preserves s
    next h => exact (hearPair_preserves h).trans (treatAck_preserves _ _ _)

theorem repeatTimerExpiry_preserves (s : State) : Preserves s (repeatTimerExpiry s) := by
  unfold repeatTimerExpiry
  refine .ite (.refl s) ?_
  split
  · exact ((reofferAlarmOpen_preserves _).trans (offerOwn_preserves _ _)).after rfl
  · exact ((reofferAlarmOpen_preserves _).trans (offerOwn_preserves _ _)).after rfl
  all_goals exact .refl s

theorem spacingTimerExpiry_preserves (s : State) : Preserves s (spacingTimerExpiry s) :=
  .ite ((offerCleared_preserves _).after rfl) (.refl s)

theorem markerTimerExpiry_preserves (s : State) : Preserves s (markerTimerExpiry s) :=
  .ite ((setChar_preserves _ _ _ _ _).after rfl) (.refl s)

theorem relayStale_preserves (id : AlarmId) (k : RelayKind) (s : State) : Preserves s (relayStale id k s) := by
  unfold relayStale
  dsimp only
  split
  · exact .ite (retract_preserves _ _) (.refl s)
  · exact .refl s

theorem relayEntryAgedOut_preserves (id : AlarmId) (s : State) : Preserves s (relayEntryAgedOut id s) :=
  (updateRelay_preserves _ _ s).trans (dropAged_preserves _)

theorem emergencySecond_preserves (s : State) : Preserves s (emergencySecond s) := .of_watched rfl

theorem takeClear_preserves {s : State} (h : s.emerg.alarm ≠ .quiet) : Preserves s (takeClear s) := by
  unfold takeClear
  dsimp only
  have hset : Preserves s (setAlarm .clearing { s with emerg.repeatTimer := none, emerg.clearedSent := 0 }) :=
    Preserves.trans (t := { s with emerg.repeatTimer := none, emerg.clearedSent := 0 }) (.of_watched rfl)
      (setAlarm_preserves nofun h)
  refine hset.trans ?_
  split
  · exact retract_preserves _ _
  · exact offerCleared_preserves _

theorem clearAlarm_preserves (s : State) : Preserves s (clearAlarm s).1 := by
  have taken : s.emerg.alarm ≠ .quiet → Preserves s (match s.emerg.openRecord with
      | .owed => (takeClear { s with emerg.openRecord := .none, emerg.openGroup := none }, Status.ok)
      | .none => (takeClear s, .ok)
      | .queued | .written =>
        match offerGroup .alarmClear [.alarmClear (s.emerg.number.getD 0)] s with
        | (s, .joined) | (s, .sectorFault) => (takeClear s, .ok)
        | (s, .full) => (s, .storeBusy)).1 := fun ha => by
    have h := offerGroup_preserves .alarmClear [.alarmClear (s.emerg.number.getD 0)] s
    have hem := offerGroup_emerg .alarmClear [.alarmClear (s.emerg.number.getD 0)] s
    obtain ⟨⟨t, a⟩, hr⟩ : ∃ x, offerGroup .alarmClear [.alarmClear (s.emerg.number.getD 0)] s = x := ⟨_, rfl⟩
    rw [hr] at h hem
    have hgroup : Preserves s (match offerGroup .alarmClear [.alarmClear (s.emerg.number.getD 0)] s with
        | (s, .joined) | (s, .sectorFault) => (takeClear s, Status.ok)
        | (s, .full) => (s, .storeBusy)).1 := by
      rw [hr]
      cases a with
      | joined | sectorFault => exact h.trans (takeClear_preserves (by rw [hem]; exact ha))
      | full => exact h
    cases s.emerg.openRecord with
    | owed => exact (takeClear_preserves (by exact ha)).after rfl
    | none => exact takeClear_preserves ha
    | queued | written => exact hgroup
  unfold clearAlarm
  split
  · exact .refl s
  · exact .refl s
  next h => exact taken (by simp [h])
  next h => exact taken (by simp [h])
  next h => exact taken (by simp [h])

theorem hostRaise_preserves (s : State) : Preserves s (hostRaise s).1 := by
  unfold hostRaise
  split
  · exact raiseAlarm_preserves _ _
  · exact .refl s

theorem roofLampPhase_preserves (s : State) : Preserves s (roofLampPhase s) := .ite (.of_watched rfl) (.refl s)

/-! ## Messages (R149 to R155) -/

/-- An operation that changes the message queue and the recent list alone, within their capacities (R148, R151). -/
theorem preserves_of_messages {s t : State} (q : List Message) (r : List MsgPair)
    (hs : watched t = watched { s with msg.queue := q, msg.recent := r })
    (hq : s.msg.queue.length ≤ 12 → q.length ≤ 12) (hr : s.msg.recent.length ≤ 16 → r.length ≤ 16) : Preserves s t :=
  Preserves.trans (t := { s with msg.queue := q, msg.recent := r })
    ⟨rfl, rfl, id, id, fun ⟨ho, hm, hp, hrest⟩ => ⟨ho, hq hm, hr hp, hrest⟩, id, id, id, id, id⟩ (.of_watched hs)

theorem updateMessage_preserves (p : MsgPair) (f : Message → Message) (s : State) : Preserves s (updateMessage p f s) :=
  .of_watched (by simp [watched, updateMessage, updateWhere_length])

theorem evictable_mem {q : List Message} {m : Message} (h : evictable q = some m) : m ∈ q := by
  unfold evictable at h
  split at h
  next hf => cases h; exact List.mem_of_find?_eq_some hf
  · exact List.mem_of_find?_eq_some h

theorem evict_preserves (m : Message) (s : State) : Preserves s (evict m s) := by
  let t : State := { s with msg.queue := s.msg.queue.filter fun e => e.pair != m.pair }
  have ht : Preserves s t := preserves_of_messages _ s.msg.recent rfl
    (fun h => (List.length_filter_le _ _).trans h) id
  refine ht.trans (.ite ?_ (.refl t))
  refine ⟨rfl, rfl, id, id, id, id, fun h => ?_, id, id, id⟩
  have := satAdd_le 65535 t.msg.receiptLost 1
  simp only [CountersFit] at h ⊢
  tauto

theorem evict_length {m : Message} {s : State} (h : m ∈ s.msg.queue) :
    (evict m s).msg.queue.length < s.msg.queue.length := by
  have hq : (evict m s).msg.queue = s.msg.queue.filter fun e => e.pair != m.pair := by
    unfold evict
    dsimp only
    split <;> rfl
  rw [hq]
  exact List.length_filter_lt_length_iff_exists.2 ⟨m, h, by simp⟩

theorem pushDropHead_length {α : Type} {n : Nat} {l : List α} (a : α) (hn : 0 < n) (h : l.length ≤ n) :
    (pushDropHead n l a).length ≤ n := by
  unfold pushDropHead
  split <;> simp <;> omega

/-- A message is stored in `u`, which has a place free; `s` is the state before an eviction made it. -/
theorem storeMessage_preserves (p : MsgPair) (fleet : Nat) (f : MessageFields) {s u : State} (k : Preserves s u)
    (h : s.msg.queue.length ≤ 12 → u.msg.queue.length < 12) : Preserves s (storeMessage p fleet f u) := by
  unfold storeMessage
  dsimp only
  generalize Message.mk p f.kind fleet f.text f.replies _ _ _ _ _ = m
  have joined : Preserves s { u with
      msg.queue := u.msg.queue ++ [m], msg.recent := pushDropHead Config.recentCapacity u.msg.recent p } := by
    refine ⟨k.pending, k.elapsed, k.link, k.queues, fun ht => ?_, k.display, k.counters, k.meter, k.alarm, k.reset⟩
    obtain ⟨ho, _, hp, hrest⟩ := k.tables ht
    refine ⟨ho, ?_, pushDropHead_length p (by decide) hp, hrest⟩
    have := h ht.2.1
    simp
    omega
  exact (joined.trans (raise_preserves _ _ _)).trans
    (.ite (showPage_preserves (by decide) _) (composeMessages_preserves _))

theorem messageHeard_preserves (n dest fleet : Nat) (f : MessageFields) (s : State) :
    Preserves s (messageHeard n dest fleet f s).1 := by
  unfold messageHeard
  dsimp only
  split
  · exact .refl s
  split
  · exact .refl s
  split
  next h => exact storeMessage_preserves _ _ _ (.refl s) fun _ => h
  split
  next m hm =>
    exact storeMessage_preserves _ _ _ (evict_preserves m s) fun hs => (evict_length (evictable_mem hm)).trans_le hs
  · refine ⟨rfl, rfl, id, id, id, id, fun h => ?_, id, id, id⟩
    have := satAdd_le 65535 s.msg.refusals 1
    simp only [CountersFit] at h ⊢
    tauto

/-- A RECEIPT's offer, recorded in the message's receipt field whatever the answer (R155). -/
theorem offerReceipt_preserves (p : MsgPair) (k : ReceiptKind) (s : State) : Preserves s (offerReceipt p k s) := by
  unfold offerReceipt
  split
  · exact .refl s
  next m _ =>
    have h := offerEntry_preserves (receiptEntry m k) s
    obtain ⟨⟨t, a⟩, hr⟩ : ∃ x, offerEntry (receiptEntry m k) s = x := ⟨_, rfl⟩
    rw [hr] at h ⊢
    cases a <;> exact h.trans (updateMessage_preserves _ _ _)

theorem reofferReceipt_preserves (p : MsgPair) (s : State) : Preserves s (reofferReceipt p s) := by
  unfold reofferReceipt
  split
  · exact offerReceipt_preserves _ _ _
  · exact .refl s

theorem msgRead_preserves (p : MsgPair) (s : State) : Preserves s (msgRead p s).1 := by
  unfold msgRead
  split
  · exact .refl s
  next m _ =>
    dsimp only
    have read : Preserves s (if m.kind = .text then
          composeMessages (updateMessage p (fun m => { m with state := .read }) (reofferReceipt p s))
        else offerReceipt p .read
          (composeMessages (updateMessage p (fun m => { m with state := .read }) (reofferReceipt p s)))) := by
      have h := ((reofferReceipt_preserves p s).trans (updateMessage_preserves p (fun m => { m with state := .read }) _)).trans
        (composeMessages_preserves _)
      exact .ite h (h.trans (offerReceipt_preserves _ _ _))
    split
    · exact read
    · exact read
    all_goals exact reofferReceipt_preserves p s

theorem msgReply_preserves (p : MsgPair) (i : Nat) (s : State) : Preserves s (msgReply p i s).1 := by
  have offered := reofferReceipt_preserves p s
  unfold msgReply
  split
  · exact .refl s
  dsimp only
  split
  · exact offered
  split
  · exact offered
  split
  · exact offered
  · exact ((offered.trans (updateMessage_preserves _ _ _)).trans (composeMessages_preserves _)).trans
      (offerReceipt_preserves _ _ _)

theorem expireMessage_preserves (p : MsgPair) (s : State) : Preserves s (expireMessage p s) :=
  (((updateMessage_preserves _ _ s).trans (raise_preserves _ _ _)).trans (composeMessages_preserves _)).trans
    (reofferReceipt_preserves _ _)

theorem messageSecond_preserves (s : State) : Preserves s (messageSecond s) := by
  unfold messageSecond
  refine Preserves.trans ?_ (.foldl _ (fun s (m : Message) => expireMessage_preserves m.pair s) _ _)
  exact .of_watched (by simp [watched])

theorem messageExpiry_preserves (p : MsgPair) (s : State) : Preserves s (messageExpiry p s) := by
  unfold messageExpiry
  split
  · exact .ite (expireMessage_preserves _ _) (.refl s)
  · exact .refl s

/-! ## The host cursor (R161 to R163) -/

theorem advance_onTerminalPage {c : Cursor} (h : OnTerminalPage c) : OnTerminalPage (advance c) := by
  obtain ⟨hp, hl, hc⟩ := h
  unfold advance
  split
  · exact ⟨hp, hl, by simp; omega⟩
  split
  · exact ⟨hp, by simp; omega, by simp⟩
  · exact ⟨hp, by simp, by simp⟩

theorem advanceBy_onTerminalPage {c : Cursor} (h : OnTerminalPage c) : ∀ n, OnTerminalPage (advanceBy n c) := by
  intro n
  induction n generalizing c with
  | zero => exact h
  | succ n ih => exact ih (advance_onTerminalPage h)

/-- The cursor moves on the terminal pages alone. -/
theorem preserves_of_cursor {s t : State} (c : Cursor) (hs : watched t = watched { s with msg.cursor := c })
    (h : OnTerminalPage s.msg.cursor → OnTerminalPage c) : Preserves s t :=
  preserves_of_display { s.msg with cursor := c } hs fun ⟨hl, hp, hw, hc, he⟩ => ⟨hl, hp, hw, h hc, he⟩

theorem writeText_preserves (a : Option LineAttr) (text : List Byte) (s : State) : Preserves s (writeText a text s) := by
  induction text generalizing s with
  | nil => exact .refl s
  | cons b text ih =>
    unfold writeText
    dsimp only
    refine Preserves.trans ?_ (ih _)
    have hattr : ∀ u : State, Preserves u (a.elim u fun x => setAttr s.msg.cursor.page s.msg.cursor.line x u) := fun u => by
      cases a with
      | none => exact .refl u
      | some x => exact setAttr_preserves _ _ _ _
    have h := (setChar_preserves s.msg.cursor.page s.msg.cursor.line s.msg.cursor.col b s).trans (hattr _)
    refine h.trans (preserves_of_cursor (advance s.msg.cursor) rfl fun hc => ?_)
    refine advance_onTerminalPage ?_
    have : ∀ u : State, (a.elim u fun x => setAttr s.msg.cursor.page s.msg.cursor.line x u).msg.cursor = u.msg.cursor := by
      cases a <;> simp [setAttr]
    rw [this, (setChar_keeps_msg _ _ _ _ _).2.2.2.1] at hc
    exact hc

/-- A position that passes R161's tests stands on a terminal page. -/
theorem position_onTerminalPage {o : Option Cursor} {s : State} (h : o.all positionOk = true)
    (hs : positionStatus o s = .ok) (hc : OnTerminalPage s.msg.cursor) : OnTerminalPage (o.getD s.msg.cursor) := by
  cases o with
  | none => exact hc
  | some c =>
    obtain ⟨⟨-, hl⟩, hcol⟩ : (c.page ≤ 7 ∧ c.line ≤ 3) ∧ c.col ≤ 19 := by simpa [positionOk] using h
    refine ⟨?_, hl, hcol⟩
    by_contra hp
    rw [positionStatus, if_pos (.inr hp)] at hs
    cases hs

theorem displayWrite_preserves (o : Option Cursor) (text : List Byte) (a : Option Nat) (n : Nat) (s : State) :
    Preserves s (displayWrite o text a n s).1 := by
  unfold displayWrite
  split
  next h =>
    split
    next hs =>
      exact (preserves_of_cursor _ rfl (position_onTerminalPage h.2.1 hs)).trans (writeText_preserves _ _ _)
    · exact .refl s
  · exact .refl s

theorem displayRead_preserves (o : Option Cursor) (count n : Nat) (s : State) :
    Preserves s (displayRead o count n s).1 := by
  unfold displayRead
  split
  next h =>
    split
    next hs =>
      refine preserves_of_cursor _ rfl fun hc => ?_
      have hstart := position_onTerminalPage h.2.1 hs hc
      split
      · exact hstart
      · exact advanceBy_onTerminalPage hstart _
    · exact .refl s
  · exact .refl s

theorem displayEditBegin_preserves (s : State) : Preserves s (displayEditBegin s).1 := by
  unfold displayEditBegin
  split
  · exact .refl s
  · exact preserves_of_display { s.msg with editMark := some s.msg.cursor } rfl fun ⟨hl, hp, hw, hc, _⟩ =>
      ⟨hl, hp, hw, hc, fun c he => Option.some.inj he ▸ hc⟩

theorem displayEditEnd_preserves (s : State) : Preserves s (displayEditEnd s).1 := by
  unfold displayEditEnd
  split
  · refine preserves_of_display { s.msg with cursor := s.msg.editMark.getD s.msg.cursor } rfl
      fun ⟨hl, hp, hw, hc, he⟩ => ⟨hl, hp, hw, ?_, he⟩
    cases hm : s.msg.editMark with
    | none => exact hc
    | some c => exact he c hm
  · exact .refl s

theorem displaySelect_preserves (n : Nat) (s : State) : Preserves s (displaySelect n s).1 := by
  unfold displaySelect
  split
  next h => exact showPage_preserves h s
  · exact .refl s

/-! ## Reception (R23 to R35) -/

theorem queueJoin_length {cap : Nat} (hcap : 0 < cap) (m : QueueMode) {q : List RxEntry} (lost : Nat) (e : RxEntry)
    (h : q.length ≤ cap) : (queueJoin cap m q lost e).1.length ≤ cap := by
  unfold queueJoin
  split
  · simp; omega
  · cases m with
    | blocking => exact h
    | overwrite => simp; omega

theorem queueJoin_lost (cap : Nat) (m : QueueMode) (q : List RxEntry) {lost : Nat} (e : RxEntry) (h : lost ≤ 255) :
    (queueJoin cap m q lost e).2.1 ≤ 255 := by
  unfold queueJoin
  split
  · exact h
  · cases m <;> exact satAdd_le _ _ _

theorem receivedNotice_preserves (q : RxQueue) (b : Bool) (s : State) : Preserves s (receivedNotice q b s) :=
  .ite (raise_preserves _ _ _) (.refl s)

theorem toPriority_preserves (e : RxEntry) (s : State) : Preserves s (toPriority e s).1 := by
  unfold toPriority
  refine Preserves.trans ?_ (receivedNotice_preserves _ _ _)
  refine ⟨rfl, rfl, id, fun ⟨hu, hn, hl, ho, hs, hp, hrest⟩ => ?_, id, id, fun h => ?_, id, id, id⟩
  · exact ⟨hu, hn, hl, ho, hs, queueJoin_length (by decide) _ _ _ hp, hrest⟩
  · have hlost := queueJoin_lost Config.priorityCapacity s.rx.priorityMode s.rx.priorityQueue (lost := s.rx.priorityLost) e
    simp only [CountersFit] at h ⊢
    tauto

theorem toOrdinary_preserves (e : RxEntry) (s : State) : Preserves s (toOrdinary e s).1 := by
  unfold toOrdinary
  refine Preserves.trans ?_ (receivedNotice_preserves _ _ _)
  refine ⟨rfl, rfl, id, fun ⟨hu, hn, hl, ho, hs, hp, hr, hrest⟩ => ?_, id, id, fun h => ?_, id, id, id⟩
  · exact ⟨hu, hn, hl, ho, hs, hp, queueJoin_length (by decide) _ _ _ hr, hrest⟩
  · have hlost := queueJoin_lost Config.ordinaryCapacity s.rx.ordinaryMode s.rx.ordinaryQueue (lost := s.rx.ordinaryLost) e
    simp only [CountersFit] at h ⊢
    tauto

theorem forHost_preserves (f : RxFrame) (p : RxPayload) (s : State) : Preserves s (forHost f p s).1 := by
  unfold forHost
  split
  · exact toPriority_preserves _ _
  · exact toOrdinary_preserves _ _
  · exact .refl s

/-- Every owner of a frame kind preserves the invariants, whatever its verdict (R29). -/
theorem route_preserves {k : FrameKind} {f : RxFrame} {s : State} {r : State × Verdict} (h : route k f s = some r) :
    Preserves s r.1 := by
  cases k <;> simp only [route, Option.map_eq_some_iff, Option.some.injEq] at h
  case lack => subst h; exact .refl s
  all_goals obtain ⟨p, -, rfl⟩ := h
  case offer => exact offerHeard_preserves _ _ _
  case bid => exact bidHeard_preserves _ _ _
  case award => exact awardHeard_preserves _ _
  case withdraw => exact withdrawHeard_preserves _ _
  case message => exact messageHeard_preserves _ _ _ _ _
  case emergency => exact emergencyHeard_preserves _ _ _
  case emergencyAck => exact ackHeard_preserves _ _ _
  case beacon => exact forHost_preserves _ _ _
  case terminalData => exact forHost_preserves _ _ _
  all_goals exact .refl s

theorem countMalformed_preserves (s : State) : Preserves s (countMalformed s) := by
  refine ⟨rfl, rfl, id, id, id, id, fun h => ?_, id, id, id⟩
  have := satAdd_le 65535 s.rx.malformed 1
  simp only [CountersFit, countMalformed] at h ⊢
  tauto

theorem filterFrame_preserves (k : FrameKind) (f : RxFrame) (s : State) : Preserves s (filterFrame k f s).1 := by
  unfold filterFrame
  split
  · split
    · split
      next h => exact route_preserves h
      · exact countMalformed_preserves s
    · exact countMalformed_preserves s
  · exact .refl s

theorem useLack_preserves (f : RxFrame) (s : State) : Preserves s (useLack f s) := .ite (.of_watched rfl) (.refl s)

theorem keyLack_preserves (f : RxFrame) (s : State) : Preserves s (keyLack f s) :=
  (handBackDeferring_preserves s).trans (.of_watched rfl)

theorem hearPass_preserves (s : State) : Preserves s (hearPass s) :=
  evaluateLink_preserves_of_counts (.refl { s with link.hfc := hfcDrop s.link.hfc }) (.refl _)
    (fun ⟨hs, hh⟩ => ⟨hs, (Nat.sub_le _ _).trans hh⟩) rfl

theorem takeFrame_preserves (k : FrameKind) (f : RxFrame) (s : State) : Preserves s (takeFrame k f s).1 := by
  unfold takeFrame
  split
  · exact useLack_preserves _ _
  · exact filterFrame_preserves _ _ _

theorem endOfFrame_preserves (k : FrameKind) (f : RxFrame) (v : Verdict) (s : State) : Preserves s (endOfFrame k f v s) :=
  ((gapAfter_preserves _ s).trans (.ite (keyLack_preserves _ _) (.refl _))).trans (afterCarrier_preserves _)

theorem arrive_preserves (k : FrameKind) (f : RxFrame) (s : State) : Preserves s (arrive k f s) := by
  unfold arrive
  refine .ite (.refl s) (.ite ?_ (.of_watched rfl))
  exact (((ensureCarrier_preserves s).trans (hearPass_preserves _)).trans (takeFrame_preserves _ _ _)).trans
    (endOfFrame_preserves _ _ _ _)

theorem endOfCarrier_preserves (b : List Byte) (s : State) : Preserves s (endOfCarrier b s) := by
  unfold endOfCarrier
  split
  · exact arrive_preserves _ _ _
  · exact .ite (.refl s)
      (.ite ((ensureCarrier_preserves s).trans (unreadCarrier_preserves _ _)) (.of_watched rfl))

end Sys2Proof.Safety
end

section
/-! SUPPORT. How far the store's completions reach, in the sense of Laws/Reach.lean. -/

namespace Sys2Proof.Machine

theorem formatNext_reach (s : State) : Reach s (formatNext s) := by
  unfold formatNext
  split
  · split
    · exact Reach.trans (t := { s with store.scan := _ }) rfl (beginErase_reach _ _)
    · split
      · rfl
      · exact Reach.trans (t := { s with store.scan := _ }) rfl (haltStore_reach _)
    · exact .refl s
  · exact .refl s

theorem markRepaired_reach (s : State) : Reach s (markRepaired s) := rfl

theorem nextRepair_reach (s : State) : Reach s (nextRepair s) := by
  unfold nextRepair
  dsimp only
  split
  · exact (markRepaired_reach s).trans (beginErase_reach _ _)
  split
  · split
    · rfl
    · exact .refl s
  split
  · rfl
  split
  · refine Reach.trans ?_ (beginErase_reach _ _)
    rfl
  split
  · refine Reach.trans ?_ (beginSwap_reach _)
    rfl
  split
  · split
    · exact (markRepaired_reach s).trans (beginErase_reach _ _)
    · exact .refl s
  split
  · refine Reach.trans ?_ (formatNext_reach _)
    rfl
  · rfl

theorem continueStore_reach (s : State) : Reach s (continueStore s) := by
  unfold continueStore
  split
  · split
    · exact formatNext_reach s
    · exact nextRepair_reach s
  · exact startHead_reach s

theorem swapComplete_reach (s : State) : Reach s (swapComplete s) :=
  Reach.trans (t := { s with store.swap := none }) rfl ((raise_reach _ _ _).trans (continueStore_reach _))

theorem swapErase_reach (sw : Swap) (s : State) : Reach s (swapErase sw s) := by
  unfold swapErase
  split
  · split
    · exact Reach.trans (t := setStep sw .erase s) rfl (beginErase_reach _ _)
    · exact swapComplete_reach s
  · exact swapComplete_reach s

theorem swapHeaderFull_reach (sw : Swap) (s : State) : Reach s (swapHeaderFull sw s) := by
  unfold swapHeaderFull
  split
  · rfl
  · exact swapErase_reach sw s

theorem copyRecord_reach (r : Record) (sw : Swap) (s : State) : Reach s (copyRecord r sw s) := by
  unfold copyRecord
  split
  · rfl
  · exact haltStore_reach s

theorem swapHistory_reach (sw : Swap) (s : State) : Reach s (swapHistory sw s) := by
  unfold swapHistory
  split
  · rfl
  · split
    · split
      · exact copyRecord_reach _ _ _
      · rfl
    · rfl

theorem swapCopyNext_reach (sw : Swap) (s : State) : Reach s (swapCopyNext sw s) := by
  unfold swapCopyNext
  split
  · exact copyRecord_reach _ _ _
  · exact swapHistory_reach _ _

theorem countDropped_reach (n : Nat) (s : State) : Reach s (countDropped n s) := by
  unfold countDropped
  dsimp only
  split
  · exact .refl s
  · exact Reach.trans (t := { s with store.dropped := _ }) rfl (raise_reach _ _ _)

theorem headerDone_reach (h : HeaderWrite) (s : State) : Reach s (headerDone h s) := by
  have hput : Reach s (putHeader h s) := rfl
  unfold headerDone
  dsimp only
  refine hput.trans ?_
  split
  · split
    · exact swapCopyNext_reach _ _
    · exact swapHeaderFull_reach _ _
    · exact swapErase_reach _ _
    all_goals exact .refl _
  · split
    · split
      · rfl
      · exact nextRepair_reach _
    · exact startHead_reach _

theorem eraseDone_reach (n : Nat) (v : Bool) (s : State) : Reach s (eraseDone n v s) := by
  have hnext : ∀ s : State, Reach s (match s.store.swap with
      | some sw => swapErase sw s
      | none => continueStore s) := fun s => by
    split
    · exact swapErase_reach _ _
    · exact continueStore_reach _
  have hcount : Reach s (if (headerOf s n).isFull = true then countDropped n s else s) := by
    split
    · exact countDropped_reach n s
    · exact .refl s
  unfold eraseDone
  dsimp only
  refine hcount.trans (Reach.trans ?_ (hnext _))
  generalize (if (headerOf s n).isFull = true then countDropped n s else s) = s
  split
  · rfl
  · exact Reach.trans (t := updateSector n _ { s with store.erasing := none, store.inProgress := false }) rfl
      (raise_reach _ _ _)

theorem carriedDone_reach (sw : Swap) (s : State) : Reach s (carriedDone sw s) := by
  unfold carriedDone
  split
  · exact swapCopyNext_reach _ _
  · exact swapCopyNext_reach _ _
  · rfl
  all_goals exact .refl s

theorem offerReport_reach (u : UploadEntry) (s : State) : Reach s (offerReport u s) := by
  unfold offerReport
  split
  · exact .refl s
  next base _ =>
    dsimp only
    generalize newEntry .tripRecorder _ .normal _ base s.fleet = e
    have h := offerEntry_reach e s
    obtain ⟨⟨t, a⟩, hr⟩ : ∃ x, offerEntry e s = x := ⟨_, rfl⟩
    rw [hr] at h ⊢
    cases a with
    | joined uid => exact h.trans (setUpload_reach _ _ _)
    | full | link =>
      dsimp only
      split
      · exact h
      · exact h.trans (setUpload_reach _ _ _)

theorem offerOwedDone_reach (s : State) : Reach s (offerOwedDone s) :=
  .foldl _ (fun s (u : UploadEntry) => offerUploadDone_reach u.trip.number s) _ _

theorem uploadDoneWritten_reach (n : Nat) (s : State) : Reach s (uploadDoneWritten n s) :=
  Reach.trans (t := { s with trips := { s.trips with uploads := _, lastClosed := _ } }) rfl (raise_reach _ _ _)

theorem groupReported_reach (k : GroupKind) (s : State) : Reach s (groupReported k s) := by
  unfold groupReported
  split
  · split
    · split
      · exact offerReport_reach _ _
      · exact .refl s
    · exact .refl s
  · exact uploadDoneWritten_reach _ _
  · split
    · rfl
    · exact .refl s
  all_goals exact .refl s

theorem owedGroups_reach (s : State) : Reach s (owedGroups s) := by
  have hfree : Reach s s.useFree := rfl
  unfold owedGroups
  split
  · exact hfree.trans ((offerOwedDone_reach _).trans (reofferAlarmOpen_reach _))
  · exact hfree.trans ((reofferAlarmOpen_reach _).trans (offerOwedDone_reach _))

theorem groupWritten_reach (s : State) : Reach s (groupWritten s) := by
  unfold groupWritten
  split
  next g gs _ =>
    have hleft : Reach s { s with store.queue := gs } := rfl
    have hreact := hleft.trans ((groupReported_reach g.kind _).trans (owedGroups_reach _))
    dsimp only
    split
    · exact hreact.trans ((startHead_reach _).trans (raise_reach _ _ _))
    · exact hreact.trans (startHead_reach _)
  · exact startHead_reach s

theorem recordDone_reach (n : Nat) (s : State) : Reach s (recordDone n s) := by
  unfold recordDone
  split
  · exact carriedDone_reach _ _
  · split
    · rfl
    · exact groupWritten_reach s

theorem slotWriteComplete_reach (s : State) : Reach s (slotWriteComplete s) := by
  unfold slotWriteComplete
  split
  next w _ =>
    split
    · have hput : Reach s (putSlot w s) := rfl
      dsimp only
      refine hput.trans ?_
      split
      · rfl
      · exact Reach.trans (t := { putSlot w s with store := { (putSlot w s).store with record := none, inProgress := false } })
          rfl (recordDone_reach _ _)
    · exact .refl s
  · exact .refl s

theorem headerWriteComplete_reach (s : State) : Reach s (headerWriteComplete s) := by
  unfold headerWriteComplete
  split
  · split
    · exact headerDone_reach _ _
    · exact .refl s
  · exact .refl s

theorem eraseComplete_reach (v : Bool) (s : State) : Reach s (eraseComplete v s) := by
  unfold eraseComplete
  split
  · split
    · exact eraseDone_reach _ _ _
    · exact .refl s
  · exact .refl s

theorem completeWork_reach (s : State) : Reach s (completeWork s) := by
  unfold completeWork
  split
  · exact slotWriteComplete_reach s
  split
  · exact headerWriteComplete_reach s
  · exact eraseComplete_reach true s

theorem completeRepairs_reach (n : Nat) (s : State) : Reach s (completeRepairs n s) := by
  induction n generalizing s with
  | zero => exact .refl s
  | succ n ih =>
    unfold completeRepairs
    split
    · exact (completeWork_reach s).trans (ih _)
    · exact .refl s

end Sys2Proof.Machine
end

section
/-! SUPPORT. What the fare engine, the trip recorder, the part states and the terminal port preserve of the invariants, and the
statements that every step keeps them. -/

namespace Sys2Proof.Safety

open Sys2Proof.Machine

/-! ## The fare engine (R87 to R105) -/

theorem offerCheckpoint_preserves (s : State) : Preserves s (offerCheckpoint s) := by
  unfold offerCheckpoint
  split
  next t _ =>
    have h := offerGroup_preserves (.checkpoint t.number) [.checkpoint (checkpointOf s.fare.meter t)] s
    obtain ⟨⟨u, a⟩, hr⟩ : ∃ x, offerGroup (.checkpoint t.number) [.checkpoint (checkpointOf s.fare.meter t)] s = x :=
      ⟨_, rfl⟩
    rw [hr] at h ⊢
    cases a <;> exact h.trans (.of_watched rfl)
  · exact .refl s

/-- A trip begins as the meter leaves VACANT (R86). -/
theorem hire_preserves (n : Nat) (t : Trip) (s : State) :
    Preserves s { s with
      trips.lastTrip := n
      fare.meter := .hired
      fare.trip := some t
      fare.progress := 0
      fare.incrementsSince := 0
      fare.intervalsSince := 0
      fare.checkpointOwed := false
      fare.opening := true
      fare.restored := false } :=
  ⟨rfl, rfl, id, id, id, id, id, fun _ => ⟨nofun, nofun⟩, id, id⟩

theorem meterHire_preserves (n : Nat) (s : State) : Preserves s (meterHire n s).1 := by
  unfold meterHire
  split
  · exact .refl s
  split
  · exact .refl s
  split
  · exact .refl s
  split
  · exact .refl s
  · exact ((hire_preserves _ _ s).trans (.foldl _ (hireOnOffer_preserves _) _ _)).trans (writeFarePage_preserves _)

theorem meterTariff_preserves (n : Nat) (s : State) : Preserves s (meterTariff n s).1 := by
  unfold meterTariff
  split
  · exact .refl s
  split
  · exact .refl s
  split
  · exact .refl s
  · exact (updateTrip_preserves _ s).trans (writeFarePage_preserves _)

theorem meterStop_preserves (s : State) : Preserves s (meterStop s).1 := by
  unfold meterStop
  split
  · exact .refl s
  next h =>
    have hm : s.fare.meter = .hired := not_not.1 h
    have hstop : Preserves s { s with fare.meter := .stopped, fare.opening := false } :=
      ⟨rfl, rfl, id, id, id, id, id, fun ht => ⟨nofun, fun hn => by simp [hm] at ht; exact absurd hn ht⟩, id, id⟩
    exact ((hstop.trans (updateTrip_preserves _ _)).trans (offerCheckpoint_preserves _)).trans (writeFarePage_preserves _)

theorem meterExtra_preserves (n : Nat) (s : State) : Preserves s (meterExtra n s).1 := by
  unfold meterExtra
  split
  · exact .refl s
  split
  · exact .refl s
  split
  · exact .refl s
  split
  · exact .refl s
  · exact (updateTrip_preserves _ s).trans (writeFarePage_preserves _)

theorem addVacant_preserves (d n : Nat) (s : State) : Preserves s (addVacant d n s) := .of_watched rfl

theorem odometerPulse_preserves (s : State) : Preserves s (odometerPulse s) := by
  unfold odometerPulse
  split
  · exact .ite (.of_watched rfl) (.refl s)
  · exact .refl s

theorem chargeInterval_preserves (t : Tariff) (d : Nat) (s : State) : Preserves s (chargeInterval t d s) := by
  unfold chargeInterval
  dsimp only
  have h : Preserves s
      (updateTrip (addInterval t d) { s with fare.intervalsSince := satAdd 600 s.fare.intervalsSince 1 }) :=
    (updateTrip_preserves _ _).after rfl
  refine h.trans (.ite ?_ (.of_watched rfl))
  exact .ite ((updateTrip_preserves _ _).after rfl)
    (((updateTrip_preserves _ _).trans (writeFarePage_preserves _)).after rfl)

theorem applyPending_preserves (s : State) : Preserves s (applyPending s) := by
  unfold applyPending
  split
  · exact ((updateTrip_preserves _ _).trans (writeFarePage_preserves _)).after rfl
  · exact .refl s

theorem clampInterval_preserves (s : State) : Preserves s (clampInterval s) :=
  .ite ((updateTrip_preserves _ s).trans (addVacant_preserves _ _ _)) (.refl s)

theorem treatInterval_preserves (d : Nat) (s : State) : Preserves s (treatInterval d s) := by
  unfold treatInterval
  refine .ite ?_ (addVacant_preserves _ _ _)
  split
  · exact chargeInterval_preserves _ _ _
  · exact .refl s

theorem intervalBoundary_preserves (s : State) : Preserves s (intervalBoundary s) := by
  unfold intervalBoundary
  refine .ite ?_ (.refl s)
  dsimp only
  refine ((clampInterval_preserves s).trans (treatInterval_preserves (min 8 s.fare.metres) _)).trans ?_
  generalize treatInterval (min 8 s.fare.metres) (clampInterval s) = u
  have hp : Preserves u (if u.fare.meter = .hired then applyPending u else u) := .ite (applyPending_preserves u) (.refl u)
  refine hp.trans ?_
  generalize (if u.fare.meter = .hired then applyPending u else u) = u
  exact .ite ((offerCheckpoint_preserves _).after rfl) (.of_watched rfl)

/-! ## The trip recorder (R92, R113 to R124) -/

theorem recordClose_preserves (t : Trip) (b : Bool) (s : State) : Preserves s (recordClose t b s) := by
  unfold recordClose
  dsimp only
  exact .ite ((raise_preserves _ _ _).after rfl) (((raise_preserves _ _ _).trans (raise_preserves _ _ _)).after rfl)

theorem meterVacant_preserves (t : Trip) (s : State) : Preserves s (meterVacant t s) := by
  unfold meterVacant
  refine Preserves.trans ?_ ((closeLinked_preserves _ _).trans (writeFarePage_preserves _))
  refine ⟨rfl, rfl, id, id, id, id, fun h => ?_, fun _ => ⟨fun _ => rfl, fun _ => rfl⟩, id, id⟩
  simp only [CountersFit] at h ⊢
  simp only [Nat.zero_le, true_and]
  tauto

theorem meterClear_preserves (s : State) : Preserves s (meterClear s).1 := by
  unfold meterClear
  split
  next t _ _ =>
    dsimp only
    generalize hk : GroupKind.close t.number (listable t.number s) = k
    generalize hl : closeGroup t (listable t.number s) s = l
    have h := offerGroup_preserves k l s
    obtain ⟨⟨u, a⟩, hr⟩ : ∃ x, offerGroup k l s = x := ⟨_, rfl⟩
    rw [hr] at h ⊢
    cases a with
    | joined => exact h.trans ((recordClose_preserves _ _ _).trans (meterVacant_preserves _ _))
    | full | sectorFault => exact h
  · exact .refl s

theorem shiftOpen_preserves (s : State) : Preserves s (shiftOpen s).1 := by
  unfold shiftOpen
  split
  · exact .refl s
  · dsimp only
    generalize Shift.mk _ true _ _ _ = sh
    have h := offerGroup_preserves .shiftOpen [.shift sh s.trips.lastTrip] s
    obtain ⟨⟨u, a⟩, hr⟩ : ∃ x, offerGroup .shiftOpen [.shift sh s.trips.lastTrip] s = x := ⟨_, rfl⟩
    rw [hr] at h ⊢
    cases a with
    | joined => exact h.trans (.of_watched rfl)
    | full | sectorFault => exact h

theorem shiftClose_preserves (s : State) : Preserves s (shiftClose s).1 := by
  unfold shiftClose
  split
  · exact .refl s
  split
  · exact .refl s
  · dsimp only
    generalize hl : [RecordBody.shift _ s.trips.lastTrip, _] = l
    have h := offerGroup_preserves .shiftClose l s
    obtain ⟨⟨u, a⟩, hr⟩ : ∃ x, offerGroup .shiftClose l s = x := ⟨_, rfl⟩
    rw [hr] at h ⊢
    cases a with
    | joined => exact h.trans (.of_watched rfl)
    | full | sectorFault => exact h

theorem offerReport_preserves (u : UploadEntry) (s : State) : Preserves s (offerReport u s) := by
  unfold offerReport
  split
  · exact .refl s
  next base _ =>
    dsimp only
    generalize newEntry .tripRecorder _ .normal _ base s.fleet = e
    have h := offerEntry_preserves e s
    obtain ⟨⟨t, a⟩, hr⟩ : ∃ x, offerEntry e s = x := ⟨_, rfl⟩
    rw [hr] at h ⊢
    cases a with
    | joined uid => exact h.trans (setUpload_preserves _ _ _)
    | full | link => exact .ite h (h.trans (setUpload_preserves _ _ _))

theorem offerOwedDone_preserves (s : State) : Preserves s (offerOwedDone s) :=
  .foldl _ (fun s (u : UploadEntry) => offerUploadDone_preserves u.trip.number s) _ _

theorem rollover_preserves (s : State) : Preserves s (rollover s) := by
  unfold rollover
  dsimp only
  refine Preserves.trans ?_ (offerOwedDone_preserves _)
  split
  · exact offerReport_preserves _ _
  · exact .refl s

theorem uploadDoneWritten_preserves (n : Nat) (s : State) : Preserves s (uploadDoneWritten n s) :=
  (raise_preserves _ _ _).after rfl

theorem groupReported_preserves (k : GroupKind) (s : State) : Preserves s (groupReported k s) := by
  unfold groupReported
  split
  · split
    · exact .ite (offerReport_preserves _ _) (.refl s)
    · exact .refl s
  · exact uploadDoneWritten_preserves _ _
  · exact .ite (.of_watched rfl) (.refl s)
  all_goals exact .refl s

theorem owedGroups_preserves (s : State) : Preserves s (owedGroups s) := by
  unfold owedGroups
  exact .ite (((offerOwedDone_preserves _).trans (reofferAlarmOpen_preserves _)).after rfl)
    (((reofferAlarmOpen_preserves _).trans (offerOwedDone_preserves _)).after rfl)

theorem groupWritten_preserves (s : State) : Preserves s (groupWritten s) := by
  unfold groupWritten
  split
  next g gs hq =>
    dsimp only
    have hleft : Preserves s { s with store.queue := gs } := preserves_of_groups gs rfl fun h => by
      rw [hq, List.length_cons] at h
      omega
    have hreact := hleft.trans ((groupReported_preserves g.kind _).trans (owedGroups_preserves _))
    exact .ite (hreact.trans ((startHead_preserves _).trans (raise_preserves _ _ _)))
      (hreact.trans (startHead_preserves _))
  · exact startHead_preserves s

/-! ## The store's events (R134 to R140) -/

theorem recordDone_preserves (n : Nat) (s : State) : Preserves s (recordDone n s) := by
  unfold recordDone
  split
  · exact carriedDone_preserves _ _
  · split
    · exact .of_watched rfl
    · exact groupWritten_preserves s

theorem slotWriteComplete_preserves (s : State) : Preserves s (slotWriteComplete s) := by
  unfold slotWriteComplete
  split
  · refine .ite ?_ (.refl s)
    exact (putSlot_preserves _ s).trans (.ite (.of_watched rfl) ((recordDone_preserves _ _).after rfl))
  · exact .refl s

theorem headerWriteComplete_preserves (s : State) : Preserves s (headerWriteComplete s) := by
  unfold headerWriteComplete
  split
  · exact .ite (headerDone_preserves _ _) (.refl s)
  · exact .refl s

theorem eraseComplete_preserves (v : Bool) (s : State) : Preserves s (eraseComplete v s) := by
  unfold eraseComplete
  split
  · exact .ite (eraseDone_preserves _ _ _) (.refl s)
  · exact .refl s

theorem supplyLowAsserted_preserves (s : State) : Preserves s (supplyLowAsserted s) :=
  .ite (.refl s) (.ite (.of_watched rfl) ((raise_preserves _ _ _).after rfl))

theorem passOver_preserves (n : Nat) (s : State) : Preserves s (passOver n s) := by
  unfold passOver
  exact updateSector_preserves _ _ s

theorem resumeCut_preserves (w : RecordWrite) (s : State) : Preserves s (resumeCut w s) := by
  unfold resumeCut
  dsimp only
  refine Preserves.trans ((passOver_preserves w.sector { s with store.record := none }).after rfl) ?_
  split
  · exact copyRecord_preserves _ _ _
  · exact (startHead_preserves _).after rfl

theorem resumeStore_preserves (s : State) : Preserves s (resumeStore s) := by
  unfold resumeStore
  refine .ite (.refl s) ?_
  split
  · exact .ite (.of_watched rfl) (resumeCut_preserves _ _)
  · exact .of_watched rfl
  · exact beginErase_preserves _ _
  · exact kickStore_preserves s

theorem supplyLowReleased_preserves (s : State) : Preserves s (supplyLowReleased s) :=
  .ite (.ite (.of_watched rfl) (((raise_preserves _ _ _).trans (resumeStore_preserves _)).after rfl)) (.refl s)

/-! ## The start-up scan (R142 to R145) -/

theorem beginScan_preserves (s : State) : Preserves s (beginScan s) :=
  (nextRepair_preserves _).after (by simp [watched])

theorem completeWork_preserves (s : State) : Preserves s (completeWork s) :=
  .ite (slotWriteComplete_preserves s) (.ite (headerWriteComplete_preserves s) (eraseComplete_preserves true s))

theorem completeRepairs_preserves (n : Nat) (s : State) : Preserves s (completeRepairs n s) := by
  induction n generalizing s with
  | zero => exact .refl s
  | succ n ih => exact .ite ((completeWork_preserves s).trans (ih _)) (.refl s)

theorem restoreTrip_preserves (rs : List Record) (s : State) : Preserves s (restoreTrip rs s) := by
  unfold restoreTrip
  split
  · exact ⟨rfl, rfl, id, id, id, id, id, fun _ => ⟨nofun, nofun⟩, id, id⟩
  · exact .refl s

/-- A part state that is taken while the reset input is released (R196, R199). -/
theorem preserves_of_part {s t : State} (p : PartState) (hs : watched t = watched { s with port.part := p })
    (h : (s.port.inReset = true → s.port.part = .scanning) → s.port.inReset = false) : Preserves s t :=
  Preserves.trans (t := { s with port.part := p })
    ⟨rfl, rfl, id, id, id, id, id, id, id, fun hr ht => by rw [h hr] at ht; cases ht⟩ (.of_watched hs)

theorem startUpNotice_preserves (r : StartUp) (s : State) : Preserves s (startUpNotice r s) := by
  cases r with
  | scanned => exact .refl s
  | repaired | formatted => exact raise_preserves _ _ _

theorem restoreTrip_port (rs : List Record) (s : State) : (restoreTrip rs s).port = s.port := by
  unfold restoreTrip
  split <;> rfl

theorem handOver_preserves (c : Scan) {s : State} (h : s.port.inReset = false) : Preserves s (handOver c s) := by
  unfold handOver
  dsimp only
  refine Preserves.trans ?_ (startUpNotice_preserves _ _)
  have rebuilt : Preserves s (restoreTrip (allRecords s) (rebuildTrips (allRecords s) s)) :=
    (restoreTrip_preserves _ _).after rfl
  have hport := restoreTrip_port (allRecords s) (rebuildTrips (allRecords s) s)
  generalize restoreTrip (allRecords s) (rebuildTrips (allRecords s) s) = u at rebuilt hport
  generalize hv : { (rebuildAlarm (allRecords s) u).useFree with
      store.writeCounter := writeCounterFrom (rebuildAlarm (allRecords s) u) } = v
  have counted : Preserves u v := by
    subst hv
    exact preserves_of_writeCounter _ rfl fun _ => oneAbove_le _ _
  have hvport : v.port = s.port := by
    subst hv
    exact hport
  have passed : Preserves v ((activeSector v).elim v fun n => passOver n v) := by
    cases activeSector v with
    | none => exact .refl v
    | some n => exact passOver_preserves n v
  have hpass : ((activeSector v).elim v fun n => passOver n v).port = s.port := by
    cases activeSector v <;> simp [passOver, hvport]
  generalize ((activeSector v).elim v fun n => passOver n v) = w at passed hpass
  exact ((rebuilt.trans counted).trans passed).trans
    (preserves_of_part .unconfigured rfl fun _ => by rw [hpass]; exact h)

theorem startUpScanEnd_preserves (s : State) : Preserves s (startUpScanEnd s) := by
  unfold startUpScanEnd
  dsimp only
  have hport := (completeRepairs_reach 4000 s).keeps_port
  have h := completeRepairs_preserves 4000 s
  generalize completeRepairs 4000 s = t at h hport
  split
  · split
    next hc => exact h.trans (handOver_preserves _ (hport.2.1.trans hc.2.1))
    · exact .refl s
  · exact .refl s

/-! ## The resets and the part states (R196 to R199) -/

theorem cutStore_preserves (s : State) : Preserves s (cutStore s) := by
  unfold cutStore
  refine .ite (.ite ?_ (.of_watched rfl)) (.refl s)
  split
  · exact (putSlot_preserves _ _).after rfl
  · exact (putHeader_preserves _ _).after rfl
  · exact .refl s

theorem blankPages_fit : DisplayKeepsItsShape State.reset := by
  refine ⟨rfl, fun p hp => ?_, by decide, ⟨.inl rfl, by decide, by decide⟩, nofun⟩
  obtain rfl := (List.mem_replicate.1 hp).2
  exact blankPage_fits

theorem resetBlocks_preserves {l : List Sector} {s : State} (h : l.length = s.store.sectors.length) (b : Bool) :
    Preserves s { resetBlocks l s with port.inReset := b } where
  pending := rfl
  elapsed := rfl
  link _ := ⟨Nat.zero_le _, Nat.zero_le _, .inr (.inr rfl)⟩
  queues _ := by simp [QueuesFit, resetBlocks, Tx.reset, Rx.reset, Port.reset]
  tables ht := by
    refine ⟨Nat.zero_le _, Nat.zero_le _, Nat.zero_le _, Nat.zero_le _, Nat.zero_le _, ?_⟩
    exact h.trans ht.2.2.2.2.2
  display _ := blankPages_fit
  counters _ := by
    simp [CountersFit, resetBlocks, Tx.reset, Rx.reset, Port.reset, Link.reset, Offers.reset, Msg.reset, Emerg.reset,
      Store.reset]
  meter _ := ⟨fun _ => rfl, fun _ => rfl⟩
  alarm _ := ⟨fun _ => rfl, fun _ => rfl⟩
  reset _ _ := rfl

theorem powerOn_preserves (s : State) : Preserves s (powerOn s) := by
  unfold powerOn
  dsimp only
  have h := (cutStore_preserves s).trans
    (resetBlocks_preserves (l := clearFaults (cutStore s).store.sectors) (by simp [clearFaults]) false)
  exact h.trans ((beginScan_preserves _).after rfl)

theorem resetPin_preserves (s : State) : Preserves s (resetPin s) :=
  (cutStore_preserves s).trans (resetBlocks_preserves rfl true)

theorem resetPinRelease_preserves (s : State) : Preserves s (resetPinRelease s) := by
  unfold resetPinRelease
  refine .ite (Preserves.trans ?_ (beginScan_preserves _)) (.refl s)
  exact ⟨rfl, rfl, id, id, id, id, id, id, id, fun _ => nofun⟩

theorem becomeRunning_preserves {s : State} (h : (s.port.inReset = true → s.port.part = .scanning) → s.port.inReset = false) :
    Preserves s (becomeRunning s) := by
  have hrun : Preserves s { s with port.part := .running, tx.tickTimer := some s.tx.tick } :=
    preserves_of_part .running rfl h
  exact ((hrun.trans (startListening_preserves _)).trans (composeMessages_preserves _)).trans (refreshLamp_preserves _)

theorem wake_preserves (s : State) : Preserves s (wake s) := by
  unfold wake
  split
  next h =>
    refine becomeRunning_preserves fun hr => ?_
    by_contra hc
    have := hr (by simpa using hc)
    simp [h] at this
  · exact .refl s

theorem stopLink_preserves (s : State) : Preserves s (stopLink s) := by
  refine ⟨rfl, rfl, id, id, id, id, fun ⟨hc, hl, hs, hq, _, _, hrest⟩ => ?_, id, id, id⟩
  exact ⟨hc, hl, hs, hq, Nat.zero_le _, nofun, hrest⟩

theorem dormantExchange_preserves (s : State) : Preserves s (dormantExchange s) := by
  unfold dormantExchange
  dsimp only
  refine .ite (.refl s) ?_
  have hmark : Preserves s (if s.link.keyed = true then { s with link.runOff := some .dormant } else s) :=
    .ite (.of_watched rfl) (.refl s)
  refine hmark.trans ?_
  generalize (if s.link.keyed = true then { s with link.runOff := some .dormant } else s) = u
  split
  · refine .ite ?_ (.ite (.refl u) ((runOffEnds_preserves _ _ _).after rfl))
    exact (Preserves.ite (.refl u) (goIdle_preserves u)).trans (finishEntry_preserves _ _ _ _)
  · exact .ite (.refl u) (goIdle_preserves u)

theorem dormantQueue_preserves (s : State) : Preserves s (dormantQueue s) :=
  ((removeWhere_preserves _ _ s).trans (handBackDeferring_preserves _)).trans (dormantExchange_preserves _)

theorem enterDormant_preserves {s : State} (h : s.port.inReset = false) : Preserves s (enterDormant s).1 := by
  unfold enterDormant
  split
  · refine Preserves.trans ?_ (dormantQueue_preserves _)
    have part : Preserves s { s with port.part := .dormant, tx.tickTimer := none } := preserves_of_part .dormant rfl fun _ => h
    exact part.trans (stopLink_preserves _)
  · exact .refl s

theorem restartQueue_fits {n : Nat} {s : State} (h : QueueFits n s.tx.queue) : QueueFits n (restartQueue s) := by
  unfold restartQueue
  split
  · exact queueFits_sublist h List.filter_sublist
  · exact ⟨by simp, by simp, by simp, by simp⟩

theorem restartBlocks_preserves {s : State} (h : s.port.inReset = false) : Preserves s (restartBlocks s) where
  pending := rfl
  elapsed := rfl
  link := id
  queues := fun ⟨hu, hn, hl, ho, _⟩ => by
    obtain ⟨hu, hn, hl, ho⟩ := restartQueue_fits ⟨hu, hn, hl, ho⟩
    exact ⟨hu, hn, hl, ho, by simp [restartBlocks, restartLink, stopLink, Tx.reset, Rx.reset]⟩
  tables := fun ⟨_, _, _, _, hq, hs⟩ => ⟨Nat.zero_le _, Nat.zero_le _, Nat.zero_le _, Nat.zero_le _, hq, hs⟩
  display _ := blankPages_fit
  counters := fun ⟨_, _, hs, hq, _, _, _, _, _, _, _, _, _, _, _, _, _, hd, hw⟩ => by
    simp [CountersFit, restartBlocks, restartLink, stopLink, Tx.reset, Rx.reset, Offers.reset, Msg.reset, Emerg.reset, hs,
      hq, hd, hw]
  meter _ := ⟨fun _ => rfl, fun _ => rfl⟩
  alarm _ := ⟨fun _ => rfl, fun _ => rfl⟩
  reset _ ht := by rw [show (restartBlocks s).port.inReset = s.port.inReset from rfl, h] at ht; cases ht

theorem restart_preserves {s : State} (h : s.port.inReset = false) : Preserves s (restart s).1 := by
  unfold restart
  split
  · exact restartBlocks_preserves h
  · exact .refl s

/-! ## CONFIGURE (R194, R195) -/

theorem overflow_not_disabled (l : List Nat) : NoticeKind.overflow ∉ disabledKinds l := by
  intro h
  obtain ⟨⟨k, e⟩, hm, hk⟩ := List.mem_filterMap.1 h
  have hin : k ∈ enableKinds := (List.of_mem_zip hm).1
  have : k = .overflow := by
    dsimp only at hk
    split at hk
    · exact Option.some.inj hk
    · cases hk
  rw [this] at hin
  exact absurd hin (by decide)

/-- Shedding the disabled kinds leaves OVERFLOW, which has no enable (R191, R192). -/
theorem shedNotices_preserves {s : State} (h : NoticeKind.overflow ∉ s.port.disabled) : Preserves s (shedNotices s) := by
  refine ⟨rfl, rfl, id, fun ⟨hu, hn, hl, ho, hs, hp, hr, hfit⟩ => ?_, id, id, id, id, id, id⟩
  refine ⟨hu, hn, hl, ho, hs, hp, hr, noticesFit_sublist hfit List.filter_sublist fun n hm hk => .inl ?_⟩
  refine List.mem_filter.2 ⟨hm, ?_⟩
  rw [hk]
  simpa using h

theorem alarmStarts_preserves_restore (r : RestorePending) (s : State) :
    Preserves s (alarmStarts { s with
        emerg.number := some r.number
        emerg.source := some .restored
        emerg.nextRepeat := 32768
        emerg.ackHeard := false
        emerg.clearedSent := 0
        emerg.openRecord := .written
        emerg.openGroup := none
        emerg.restore := none
        emerg.pendingRaise := false }) :=
  alarmStarts_preserves_of_number (m := { s with
        emerg.number := some r.number
        emerg.source := some .restored
        emerg.nextRepeat := 32768
        emerg.ackHeard := false
        emerg.clearedSent := 0
        emerg.openRecord := .written
        emerg.openGroup := none
        emerg.restore := none
        emerg.pendingRaise := false }) rfl (.refl _) (n := r.number) rfl

theorem restoreAlarm_preserves (s : State) : Preserves s (restoreAlarm s) := by
  unfold restoreAlarm
  split
  · exact alarmStarts_preserves_restore _ s
  · exact .ite ((raiseAlarm_preserves _ _).after rfl) (.refl s)

theorem startRunning_preserves {s : State} (h : s.port.inReset = false) : Preserves s (startRunning s) := by
  have started : Preserves s { s with fare.clockRunning := true, fare.metres := 0, offers.idleMinutes := 0 } := by
    refine ⟨rfl, rfl, id, id, id, id, fun hc => ?_, id, id, id⟩
    simp only [CountersFit] at hc ⊢
    simp only [Nat.zero_le, true_and]
    tauto
  exact ((started.trans (becomeRunning_preserves fun _ => h)).trans (writeFarePage_preserves _)).trans
    (restoreAlarm_preserves _)

theorem configure_preserves (c : ConfigRequest) {s : State} (h : s.port.inReset = false) :
    Preserves s (configure c s).1 := by
  unfold configure
  split
  · split
    · exact .refl s
    · have taken : Preserves s (shedNotices (takeFields c s)) :=
        (shedNotices_preserves (s := takeFields c s) (overflow_not_disabled _)).after rfl
      exact taken.trans (startRunning_preserves h)
  · exact .refl s

/-! ## The switch, the beacon cycle and the clock (R55, R56, R65, R168, R190) -/

theorem switchHoldBegins_preserves (s : State) : Preserves s (switchHoldBegins s) := .ite (.of_watched rfl) (.refl s)

theorem switchRelease_preserves (s : State) : Preserves s (switchRelease s) := .of_watched rfl

theorem switchRaise_preserves (s : State) : Preserves s (switchRaise s) := .ite (raiseAlarm_preserves _ s) (.refl s)

theorem switchHoldCompletes_preserves (s : State) : Preserves s (switchHoldCompletes s) := by
  unfold switchHoldCompletes
  refine .ite ?_ (.refl s)
  dsimp only
  split
  · exact ((wake_preserves _).trans (switchRaise_preserves _)).after rfl
  · exact ((wake_preserves _).trans (switchRaise_preserves _)).after rfl
  all_goals exact .of_watched rfl

theorem offerBeacon_preserves (p : BeaconForm) (s : State) : Preserves s (offerBeacon p s) := by
  unfold offerBeacon
  refine .ite ?_ (.refl s)
  cases p with
  | full | short => exact offerEntry_preserves _ _
  | none => exact .refl s

theorem beaconTick_preserves (s : State) : Preserves s (beaconTick s) := by
  unfold beaconTick
  refine .ite ?_ (.refl s)
  dsimp only
  refine (offerBeacon_preserves (s.tx.cycleTable.getD s.tx.cycleIndex .none) s).trans ?_
  generalize offerBeacon (s.tx.cycleTable.getD s.tx.cycleIndex .none) s = u
  have h := wrapInc_le 15 u.tx.cycleIndex
  have hindex : Preserves u { u with tx.cycleIndex := wrapInc 15 u.tx.cycleIndex, tx.tickTimer := some u.tx.tick } := by
    refine ⟨rfl, rfl, id, id, id, id, fun hc => ?_, id, id, id⟩
    simp only [CountersFit] at hc ⊢
    tauto
  exact hindex.trans (.ite (rollover_preserves _) (.refl _))

theorem clockTick_preserves (s : State) : Preserves s (clockTick s) := .ite (.of_watched rfl) (.of_watched rfl)

theorem awakeSecond_preserves (s : State) : Preserves s (awakeSecond s) := by
  unfold awakeSecond
  dsimp only
  generalize hn : (if s.offers.cell.isSome = true then satAdd 65535 s.offers.positionAge 1 else s.offers.positionAge) = n
  have hage : s.offers.positionAge ≤ 65535 → n ≤ 65535 := by
    subst hn
    split
    · exact fun _ => satAdd_le _ _ _
    · exact id
  have aged : Preserves s { s with offers.positionAge := n, tx.tickTimer := s.tx.tickTimer.map (· - 1) } := by
    refine ⟨rfl, rfl, id, id, id, id, fun hc => ?_, id, id, id⟩
    simp only [CountersFit] at hc ⊢
    tauto
  exact ((aged.trans (offerSecond_preserves _)).trans (emergencySecond_preserves _)).trans (messageSecond_preserves _)

/-- A second moves the model's own count and preserves the rest (R190, log 20). -/
theorem clockSecond_preserves {s : State} (h : s.port.inReset = false) :
    Preserves { s with elapsed := s.elapsed + 1 } (clockSecond s) := by
  unfold clockSecond
  rw [if_neg (by simp [h])]
  exact (clockTick_preserves _).trans (.ite (awakeSecond_preserves _) (.refl _))

theorem idleMinute_preserves (s : State) : Preserves s (idleMinute s) := by
  refine .ite ⟨rfl, rfl, id, id, id, id, fun hc => ?_, id, id, id⟩ (.refl s)
  have := satAdd_le 255 s.offers.idleMinutes 1
  simp only [CountersFit] at hc ⊢
  tauto

/-! ## The terminal port (R187 to R193) -/

theorem respond_preserves (st : Status) (n : Nat) (r : Reply) (s : State) : Preserves s (respond st n r s) :=
  .of_watched rfl

/-- A request is counted and judged; its owner acts while the reset input is released. -/
theorem judge_preserves {t : TakenIn} {o : State → State × Status × Reply} {s : State}
    (h : ∀ u : State, u.port.inReset = false → Preserves u (o u).1) : Preserves s (judge t o s) := by
  unfold judge
  split
  · exact .refl s
  next hr =>
    dsimp only
    have hwake : (wake s).port.inReset = false := by rw [wake_port]; simpa using hr
    have counts : Preserves (wake s) { wake s with port.requestCount := wrapInc 255 s.port.requestCount } := by
      have hle := wrapInc_le 255 s.port.requestCount
      refine ⟨rfl, rfl, id, id, id, id, fun hc => ?_, id, id, id⟩
      simp only [CountersFit] at hc ⊢
      tauto
    have hc : (wake s).port.requestCount = s.port.requestCount := by rw [wake_port]
    rw [hc]
    refine ((wake_preserves s).trans counts).trans (.ite ?_ (respond_preserves _ _ _ _))
    exact (h { wake s with port.requestCount := wrapInc 255 s.port.requestCount } hwake).trans (respond_preserves _ _ _ _)

theorem badFrame_preserves (s : State) : Preserves s (badFrame s) := .ite (.refl s) (respond_preserves _ _ _ s)

theorem selectReleased_preserves (s : State) : Preserves s (selectReleased s) := .of_watched rfl

theorem getStatus_preserves (s : State) : Preserves s (getStatus s).1 := .of_watched rfl

theorem setPosition_preserves (p : PositionRequest) (s : State) : Preserves s (setPosition p s).1 := by
  unfold setPosition
  split
  · refine ⟨rfl, rfl, id, id, id, id, fun hc => ?_, id, id, id⟩
    simp only [CountersFit] at hc ⊢
    simp only [Nat.zero_le, true_and]
    tauto
  · exact .refl s

theorem setAvailable_preserves (n : Nat) (s : State) : Preserves s (setAvailable n s).1 := by
  unfold setAvailable
  split
  · exact .of_watched rfl
  · exact .refl s

theorem linkRejoin_preserves (s : State) : Preserves s (linkRejoin s).1 := by
  unfold linkRejoin
  split
  · exact enterRecovering_preserves s
  · exact .refl s

theorem sendData_preserves (dest tag : Nat) (data : List Byte) (s : State) :
    Preserves s (sendData dest tag data s).1 := by
  unfold sendData
  split
  · have h := offerEntry_preserves (dataEntry dest tag data s) s
    obtain ⟨⟨t, a⟩, hr⟩ : ∃ x, offerEntry (dataEntry dest tag data s) s = x := ⟨_, rfl⟩
    rw [hr] at h ⊢
    cases a <;> exact h
  · exact .refl s

theorem cancelSend_preserves (n : Nat) (s : State) : Preserves s (cancelSend n s).1 := by
  unfold cancelSend
  split
  · exact retract_preserves _ _
  · exact .refl s

theorem readOutcomes_preserves (s : State) : Preserves s (readOutcomes s).1 := by
  refine ⟨rfl, rfl, id, fun ⟨hu, hn, hl, ho, hs, hrest⟩ => ⟨hu, hn, hl, ho, ?_, hrest⟩, id, id, fun hc => ?_, id, id, id⟩
  · simp [readOutcomes]
    omega
  · simp only [CountersFit, readOutcomes] at hc ⊢
    simp only [Nat.zero_le, true_and]
    tauto

theorem readReceived_preserves (n : Nat) (s : State) : Preserves s (readReceived n s).1 := by
  have taken : ∀ p q : List RxEntry, p.length ≤ s.rx.priorityQueue.length → q.length ≤ s.rx.ordinaryQueue.length →
      Preserves s { s with rx.priorityQueue := p, rx.ordinaryQueue := q, rx.priorityLost := 0, rx.ordinaryLost := 0 } := by
    intro p q hp hq
    refine ⟨rfl, rfl, id, fun ⟨hu, hn, hl, ho, hs, hpq, hoq, hrest⟩ => ?_, id, id, fun hc => ?_, id, id, id⟩
    · exact ⟨hu, hn, hl, ho, hs, hp.trans hpq, hq.trans hoq, hrest⟩
    · simp only [CountersFit] at hc ⊢
      simp only [Nat.zero_le, true_and]
      tauto
  unfold readReceived
  dsimp only
  split
  · exact taken _ s.rx.ordinaryQueue (by simp) le_rfl
  · exact taken s.rx.priorityQueue _ le_rfl (by simp)
  · exact .refl s

theorem readTrip_preserves (n : Nat) (s : State) : Preserves s (readTrip n s).1 := by
  unfold readTrip
  split <;> exact .refl s

theorem readNotices_preserves (s : State) : Preserves s (readNotices s).1 := by
  unfold readNotices
  dsimp only
  generalize hn : (if (s.port.notices.take 8).any (fun n => n.kind == .overflow) then 0 else s.port.lost) = n
  have hle : s.port.lost ≤ 255 → n ≤ 255 := by
    subst hn
    split
    · exact fun _ => Nat.zero_le _
    · exact id
  refine ⟨rfl, rfl, id, fun ⟨hu, ht, hl, ho, hs, hp, hr, hfit⟩ => ?_, id, id, fun hc => ?_, id, id, id⟩
  · refine ⟨hu, ht, hl, ho, hs, hp, hr, noticesFit_sublist hfit (List.drop_sublist 8 _) fun _ _ _ => .inr ?_⟩
    have := hfit.1
    simp
    omega
  · simp only [CountersFit] at hc ⊢
    tauto

/-! ## Every command -/

theorem exec_settled (c : Instr) (s : State) : ∃ t, exec c s = .next (settle t) := by
  cases c <;> exact ⟨_, rfl⟩

/-- Every command but CLOCK_SECOND preserves what the invariants say, the queue of commands and the count of seconds. -/
theorem exec_preserves {c : Instr} (hc : c ≠ .clockSecond) (s : State) : ∃ t, exec c s = .next t ∧ Preserves s t := by
  have settled : ∀ {t : State}, exec c s = .next (settle t) → Preserves s t → ∃ t, exec c s = .next t ∧ Preserves s t :=
    fun he hp => ⟨_, he, hp.trans (settle_preserves _)⟩
  have judged : ∀ {t : TakenIn} {o : State → State × Status × Reply}, exec c s = .next (settle (judge t o s)) →
      (∀ u : State, u.port.inReset = false → Preserves u (o u).1) → ∃ t, exec c s = .next t ∧ Preserves s t :=
    fun he hp => settled he (judge_preserves hp)
  cases c with
  | clockSecond => exact absurd rfl hc
  | powerOn => exact settled rfl (powerOn_preserves s)
  | resetPin => exact settled rfl (resetPin_preserves s)
  | resetPinRelease => exact settled rfl (resetPinRelease_preserves s)
  | startUpScanEnd => exact settled rfl (startUpScanEnd_preserves s)
  | slotBoundary => exact settled rfl (slotBoundary_preserves s)
  | carrierAppears => exact settled rfl (carrierAppears_preserves s)
  | endOfCarrier b => exact settled rfl (endOfCarrier_preserves b s)
  | deferralCountRunOut => exact settled rfl (deferralCountRunOut_preserves s)
  | bidSlotArrives id => exact settled rfl (bidSlotArrives_preserves id s)
  | bidKeyingBoundary => exact settled rfl (bidKeyingBoundary_preserves s)
  | bidWindowEnd id => exact settled rfl (bidWindowEnd_preserves id s)
  | keyingFault => exact settled rfl (keyingFault_preserves s)
  | endOfAirtime => exact settled rfl (endOfAirtime_preserves s)
  | ackGapCloses => exact settled rfl (ackGapCloses_preserves s)
  | idleGapCloses => exact settled rfl (idleGapCloses_preserves s)
  | gapCloses => exact settled rfl (gapCloses_preserves s)
  | quietSpanCompletes => exact settled rfl (quietSpanCompletes_preserves s)
  | listenInCompletes => exact settled rfl (listenInCompletes_preserves s)
  | lack f => exact settled rfl (arrive_preserves _ f s)
  | offer f => exact settled rfl (arrive_preserves _ f s)
  | bid f => exact settled rfl (arrive_preserves _ f s)
  | award f => exact settled rfl (arrive_preserves _ f s)
  | withdraw f => exact settled rfl (arrive_preserves _ f s)
  | message f => exact settled rfl (arrive_preserves _ f s)
  | emergency f => exact settled rfl (arrive_preserves _ f s)
  | emergencyAck f => exact settled rfl (arrive_preserves _ f s)
  | beacon f => exact settled rfl (arrive_preserves _ f s)
  | terminalData f => exact settled rfl (arrive_preserves _ f s)
  | unownedFrame k f => exact settled rfl (arrive_preserves _ f s)
  | beaconTick => exact settled rfl (beaconTick_preserves s)
  | awardTimerExpiry id => exact settled rfl (awardTimerExpiry_preserves id s)
  | acceptTimerExpiry id => exact settled rfl (acceptTimerExpiry_preserves id s)
  | idleMinute => exact settled rfl (idleMinute_preserves s)
  | messageExpiry p => exact settled rfl (messageExpiry_preserves p s)
  | odometerPulse => exact settled rfl (odometerPulse_preserves s)
  | intervalBoundary => exact settled rfl (intervalBoundary_preserves s)
  | slotWriteComplete => exact settled rfl (slotWriteComplete_preserves s)
  | headerWriteComplete => exact settled rfl (headerWriteComplete_preserves s)
  | eraseComplete v => exact settled rfl (eraseComplete_preserves v s)
  | supplyLowAsserted => exact settled rfl (supplyLowAsserted_preserves s)
  | supplyLowReleased => exact settled rfl (supplyLowReleased_preserves s)
  | switchHoldBegins => exact settled rfl (switchHoldBegins_preserves s)
  | switchRelease => exact settled rfl (switchRelease_preserves s)
  | switchHoldCompletes => exact settled rfl (switchHoldCompletes_preserves s)
  | repeatTimerExpiry => exact settled rfl (repeatTimerExpiry_preserves s)
  | spacingTimerExpiry => exact settled rfl (spacingTimerExpiry_preserves s)
  | markerTimerExpiry => exact settled rfl (markerTimerExpiry_preserves s)
  | relayStale id k => exact settled rfl (relayStale_preserves id k s)
  | relayEntryAgedOut id => exact settled rfl (relayEntryAgedOut_preserves id s)
  | roofLampPhase => exact settled rfl (roofLampPhase_preserves s)
  | selectReleased => exact settled rfl (selectReleased_preserves s)
  | badFrame => exact settled rfl (badFrame_preserves s)
  | configure f => exact judged rfl fun _ hu => configure_preserves f hu
  | getStatus => exact judged rfl fun u _ => getStatus_preserves u
  | restart => exact judged rfl fun _ hu => restart_preserves hu
  | enterDormant => exact judged rfl fun _ hu => enterDormant_preserves hu
  | setPosition f => exact judged rfl fun u _ => setPosition_preserves f u
  | setAvailable v => exact judged rfl fun u _ => setAvailable_preserves v u
  | linkRejoin => exact judged rfl fun u _ => linkRejoin_preserves u
  | sendData d t b => exact judged rfl fun u _ => sendData_preserves d t b u
  | cancelSend t => exact judged rfl fun u _ => cancelSend_preserves t u
  | readOutcomes => exact judged rfl fun u _ => readOutcomes_preserves u
  | readReceived q => exact judged rfl fun u _ => readReceived_preserves q u
  | listOffers => exact judged rfl fun u _ => .refl u
  | acceptJob id => exact judged rfl fun u _ => acceptJob_preserves id u
  | refuseJob id => exact judged rfl fun u _ => refuseJob_preserves id u
  | meterHire n => exact judged rfl fun u _ => meterHire_preserves n u
  | meterTariff n => exact judged rfl fun u _ => meterTariff_preserves n u
  | meterStop => exact judged rfl fun u _ => meterStop_preserves u
  | meterExtra n => exact judged rfl fun u _ => meterExtra_preserves n u
  | meterClear => exact judged rfl fun u _ => meterClear_preserves u
  | shiftOpen => exact judged rfl fun u _ => shiftOpen_preserves u
  | shiftClose => exact judged rfl fun u _ => shiftClose_preserves u
  | readTrip n => exact judged rfl fun u _ => readTrip_preserves n u
  | readTotals => exact judged rfl fun u _ => .refl u
  | msgList => exact judged rfl fun u _ => .refl u
  | msgRead p => exact judged rfl fun u _ => msgRead_preserves p u
  | msgReply p i => exact judged rfl fun u _ => msgReply_preserves p i u
  | displaySelect n => exact judged rfl fun u _ => displaySelect_preserves n u
  | displayWrite p t a n => exact judged rfl fun u _ => displayWrite_preserves p t a n u
  | displayRead p c n => exact judged rfl fun u _ => displayRead_preserves p c n u
  | displayEditBegin => exact judged rfl fun u _ => displayEditBegin_preserves u
  | displayEditEnd => exact judged rfl fun u _ => displayEditEnd_preserves u
  | raiseAlarm => exact judged rfl fun u _ => hostRaise_preserves u
  | clearAlarm => exact judged rfl fun u _ => clearAlarm_preserves u
  | readNotices => exact judged rfl fun u _ => readNotices_preserves u

/-- CLOCK_SECOND preserves the same of the state whose count of seconds has moved, or leaves the state. -/
theorem exec_clockSecond_preserves (s : State) :
    ∃ n t, exec .clockSecond s = .next t ∧ Preserves { s with elapsed := n } t := by
  cases hr : s.port.inReset with
  | false => exact ⟨_, _, rfl, (clockSecond_preserves hr).trans (settle_preserves _)⟩
  | true =>
    refine ⟨s.elapsed, _, rfl, Preserves.trans ?_ (settle_preserves _)⟩
    rw [clockSecond, if_pos hr]
    exact .refl s

/-- An invariant that reads neither the queue of commands nor the count of seconds, and that every preserving change keeps, is
kept by every step. -/
theorem kept_of_preserves {Inv : State → Prop} (hq : ∀ s l, Inv s → Inv { s with pending := l })
    (he : ∀ s n, Inv s → Inv { s with elapsed := n }) (h : ∀ s t, Preserves s t → Inv s → Inv t) :
    KeptByEveryStep Inv := by
  intro s t hstep hs
  unfold step at hstep
  split at hstep
  · cases hstep
    exact hs
  next c rest _ =>
    by_cases hc : c = .clockSecond
    · subst hc
      obtain ⟨n, u, hu, hp⟩ := exec_clockSecond_preserves { s with pending := rest }
      rw [hu] at hstep
      cases hstep
      exact h _ _ hp (he _ _ (hq _ _ hs))
    · obtain ⟨u, hu, hp⟩ := exec_preserves hc { s with pending := rest }
      rw [hu] at hstep
      cases hstep
      exact h _ _ hp (hq _ _ hs)

/-! ## The statements -/

/-- Settles O56: every command preserves it, and an idle step changes nothing. -/
theorem linkStateStaysNamed : Obligations.LinkStateStaysNamed :=
  kept_of_preserves (fun _ _ => id) (fun _ _ => id) fun _ _ h => h.link

/-- Settles O57, as O56. -/
theorem queuesStayWithinCapacity : Obligations.QueuesStayWithinCapacity :=
  kept_of_preserves (fun _ _ => id) (fun _ _ => id) fun _ _ h => h.queues

/-- Settles O58, as O56. -/
theorem tablesAndDisplayKeepTheirShape : Obligations.TablesAndDisplayKeepTheirShape :=
  ⟨kept_of_preserves (fun _ _ => id) (fun _ _ => id) fun _ _ h => h.tables,
    kept_of_preserves (fun _ _ => id) (fun _ _ => id) fun _ _ h => h.display⟩

/-- Settles O59, as O56. -/
theorem countersAndModesAgree : Obligations.CountersAndModesAgree :=
  ⟨kept_of_preserves (fun _ _ => id) (fun _ _ => id) fun _ _ h => h.counters,
    kept_of_preserves (fun _ _ => id) (fun _ _ => id) fun _ _ h => h.modes⟩

/-- Settles O2: what a command preserves includes the queue of commands and, but for CLOCK_SECOND, the count of seconds. -/
theorem everyCommandLeavesTheQueue : Obligations.EveryCommandLeavesTheQueue := by
  intro c s
  by_cases hc : c = .clockSecond
  · subst hc
    obtain ⟨n, t, ht, hp⟩ := exec_clockSecond_preserves s
    exact ⟨t, ht, hp.pending, fun h => absurd rfl h⟩
  · obtain ⟨t, ht, hp⟩ := exec_preserves hc s
    exact ⟨t, ht, hp.pending, fun _ => hp.elapsed⟩

/-- The model's pattern is the table's (R183). -/
theorem lampPattern_eq_lampTable (s : State) : lampPattern s = Claims.lampTable s := by
  unfold lampPattern Claims.lampTable
  by_cases hp : s.port.part = .running
  · cases ha : s.emerg.alarm <;> simp [hp]
  · simp [hp]

theorem lampTable_settle (s : State) : Claims.lampTable (settle s) = Claims.lampTable s := by
  simp [Claims.lampTable]

/-- Settles O3: every command ends in `settle`, which gives the lamp its pattern and the bus the shown page. -/
theorem lampAndDisplayFollowEveryCommand : Obligations.LampAndDisplayFollowEveryCommand := by
  intro c s
  obtain ⟨t, ht⟩ := exec_settled c s
  refine ⟨_, ht, ?_, ?_⟩
  · rw [lampTable_settle, ← lampPattern_eq_lampTable, settle_emerg]
  · simp [settle_msg, State.lit, pageOf]

/-- Settles O1: both clauses are the two cases of a step. -/
theorem stepRunsTheFrontCommand : Obligations.StepRunsTheFrontCommand :=
  ⟨fun c rest s h => by rw [step, h], fun s h => by rw [step, h]⟩

/-- Settles O55, invariant by invariant. -/
theorem invariantsHoldAtReset : Obligations.InvariantsHoldAtReset := by
  refine ⟨⟨Nat.zero_le _, Nat.zero_le _, .inr (.inr rfl)⟩, ?_,
    ⟨Nat.zero_le _, Nat.zero_le _, Nat.zero_le _, Nat.zero_le _, by decide, by decide⟩, blankPages_fit, ?_,
    ⟨⟨fun _ => rfl, fun _ => rfl⟩, ⟨fun _ => rfl, fun _ => rfl⟩, nofun⟩⟩
  · simp [QueuesFit, State.reset, Tx.reset, Rx.reset, Port.reset]
  · simp [CountersFit, State.reset, Tx.reset, Rx.reset, Port.reset, Link.reset, Offers.reset, Msg.reset, Emerg.reset,
      Store.reset]

end Sys2Proof.Safety
end

section
/-! SUPPORT. The frame of a statement, composed: what is touched along a chain of operations, and the state an event leaves
where it changes nothing. -/

namespace Sys2Proof.Claims

open Sys2Proof.Machine

theorem kept_trans {b : Block} {s t u : State} (h : Kept b s t) (k : Kept b t u) : Kept b s u := by
  cases b with
  | msg =>
    simp only [Kept] at h k ⊢
    rw [← h, ← k]
  | emerg =>
    simp only [Kept] at h k ⊢
    rw [← h, ← k]
  | _ => exact Eq.trans k h

/-- What each of two steps may touch is what both may touch. -/
theorem onlyTouches_trans {may : List Block} {s t u : State} (h : OnlyTouches may s t) (k : OnlyTouches may t u) :
    OnlyTouches may s u :=
  ⟨k.1.trans h.1, fun b => (h.2 b).elim .inl fun hb => (k.2 b).imp id (kept_trans hb)⟩

/-- A block that the list holds but that stands as it was can be left out. -/
theorem onlyTouches_of_kept {may less : List Block} {s t : State} (h : OnlyTouches may s t)
    (hk : ∀ b ∈ may, b ∈ less ∨ Kept b s t) : OnlyTouches less s t :=
  ⟨h.1, fun b => (h.2 b).elim (hk b) .inr⟩

theorem onlyTouches_foldl {α : Type} {may : List Block} (f : State → α → State) (hf : ∀ s a, OnlyTouches may s (f s a))
    (l : List α) (s : State) : OnlyTouches may s (l.foldl f s) := by
  induction l generalizing s with
  | nil => exact onlyTouches_refl may s
  | cons a l ih => exact onlyTouches_trans (hf s a) (ih (f s a))

/-- A command that leaves the state as it is but for what follows every event. -/
theorem completes_nothing {c : Instr} {s : State} (h : exec c s = .next (settle s)) :
    Completes c s fun t => OnlyTouches [] s t :=
  completes_of h (onlyTouches_settle (onlyTouches_refl [] s))

/-- A command that writes the link controller alone. -/
theorem completes_link {c : Instr} {s : State} {l : Link} (h : exec c s = .next (settle { s with link := l })) :
    Completes c s fun t => t.link = l ∧ OnlyTouches [.link] s t :=
  completes_of h ⟨by simp, touches_link s l⟩

theorem raise_touches (k : NoticeKind) (j : Subject) (s : State) : OnlyTouches [.port] s (raise k j s) :=
  ⟨by simp, fun b => by cases b <;> simp [Kept]⟩

end Sys2Proof.Claims
end

section
/-! SUPPORT. The slots of the channel (R1, R9, R10): the count of a deferral, and what a carrier does to it (R3, R9, R22). -/

namespace Sys2Proof.Claims

open Sys2Proof.Machine

theorem channelFree_eq_false {s : State} (h : ¬ FreeSlots s) : channelFree s = false := by
  rwa [← channelFree_iff, Bool.not_eq_true] at h

/-- A boundary in neither the listen-in nor RECOVERING counts the deferral alone. -/
theorem slotBoundary_counts {s : State} (hc : s.link.slotClock = true) (hl : s.link.listenIn = none)
    (hr : s.link.state ≠ .recovering) : slotBoundary s = countSlot s := by
  have hk : (countSlot s).link.listenIn = s.link.listenIn ∧ (countSlot s).link.state = s.link.state := by
    unfold countSlot
    repeat' split
    all_goals simp
  simp [slotBoundary, hc, hk, hl, hr]

theorem countSlot_free {d : Deferral} {s : State} (hd : s.link.deferral = some d) (h : channelFree s = true) :
    countSlot s = { s with link := { s.link with
      deferral := some (if d.started then ⟨d.slots - 1, true⟩ else ⟨d.slots, true⟩) } } := by
  obtain ⟨n, b⟩ := d
  cases b <;> simp [countSlot, hd, h]

theorem countSlot_busy {s : State} (h : channelFree s = false) : countSlot s = s := by
  unfold countSlot
  split <;> simp [h]

/-- Settles O24, by whether the channel is free at the boundary. -/
theorem deferralIsCountedAtFreeSlots : Obligations.DeferralIsCountedAtFreeSlots := by
  intro d s hc hl hr hd
  have hexec : exec .slotBoundary s = .next (settle (countSlot s)) := by
    rw [← slotBoundary_counts hc hl hr]
    rfl
  constructor
  · intro hfree
    rw [countSlot_free hd ((channelFree_iff s).2 ⟨hc, hl, hfree⟩)] at hexec
    exact completes_link hexec
  · intro hbusy
    rw [countSlot_busy (channelFree_eq_false fun h => hbusy h.2.2)] at hexec
    exact completes_nothing hexec

/-- The link controller as another's carrier appears (R3, R9, R20, R22). -/
def carrierHeard (l : Link) : Link :=
  { l with
    carrier := true, carrierInAckGap := decide (l.gap = some .ack ∨ l.gap = some .ownAck), partialSpan := 0,
    listenIn := l.listenIn.map fun _ => 0 }

theorem carrierAppears_up {s : State} (h : Up s) (hk : s.link.keyed = false) (hc : s.link.carrier = false) :
    carrierAppears s = handBackDeferring { s with link := carrierHeard s.link } := by
  simp [carrierAppears, hk, hc, running_of_up h, carrierHeard, Bool.decide_or]

theorem updateWhere_deferring (q : List PendEntry) :
    updateWhere (fun e => e.state == .deferring) (fun e => { e with state := .waiting }) q = handedBack q := by
  simp [updateWhere, handedBack]

theorem handBackDeferring_held {s : State} (h : s.link.side = .deferring) :
    handBackDeferring s =
      { s with
        link := { s.link with side := .idle, deferral := none }
        tx := { s.tx with queue := handedBack s.tx.queue } } := by
  rw [handBackDeferring, if_pos h, updateWhere_deferring]

theorem handBackDeferring_none {s : State} (h : s.link.side ≠ .deferring) : handBackDeferring s = s := by
  rw [handBackDeferring, if_neg h]

/-- Settles O26, by whether an entry is held for its wait. -/
theorem carrierHandsTheDeferralBack : Obligations.CarrierHandsTheDeferralBack := by
  intro s hs hk hc
  have hexec : exec .carrierAppears s = .next (settle (handBackDeferring { s with link := carrierHeard s.link })) := by
    rw [← carrierAppears_up hs hk hc]
    rfl
  constructor
  · intro hd
    refine completes_of hexec ?_
    rw [handBackDeferring_held (by exact hd)]
    exact ⟨by simp [carrierHeard], by simp [handedBack],
      onlyTouches_settle ⟨rfl, fun b => by cases b <;> simp [Kept]⟩⟩
  · intro hd
    rw [handBackDeferring_none (by exact hd)] at hexec
    exact completes_link hexec

end Sys2Proof.Claims
end

section
/-! SUPPORT. The reset values (R22, R39, R59, R83, R110, R147, R165, R186, R199). -/

namespace Sys2Proof.Claims

open Sys2Proof.Machine

/-- Settles O40: the reset values are definitions, and each is what its rule says. -/
theorem resetValuesAreTheRules : Obligations.ResetValuesAreTheRules := by
  unfold Obligations.ResetValuesAreTheRules BlocksAtReset
  repeat' constructor

end Sys2Proof.Claims
end

section
/-! SUPPORT. A request's command, from what its owner answers (R187, R188). -/

namespace Sys2Proof.Claims

open Sys2Proof.Machine

/-- A request in RUNNING completes in the state its owner left, with the answer, the lamp and the bus following. -/
theorem completes_request {c : Instr} {t : TakenIn} {o : State → State × Status × Reply} {s u : State} {st : Status}
    {r : Reply} {P : State → Prop} (hc : exec c s = .next (settle (judge t o s))) (hs : Up s)
    (ho : o (counted s) = (u, st, r)) (hp : P (settle (respond st (wrapInc 255 s.port.requestCount) r u))) :
    Completes c s P := by
  refine completes_of (hc.trans (congrArg _ (settle_judge_up t o hs))) ?_
  rw [ho]
  exact hp

/-- The same for an owner that answers without data. -/
theorem completes_plain {c : Instr} {t : TakenIn} {o : State → State × Status} {s u : State} {st : Status}
    {P : State → Prop} (hc : exec c s = .next (settle (judge t (plain o) s))) (hs : Up s)
    (ho : o (counted s) = (u, st)) (hp : P (settle (respond st (wrapInc 255 s.port.requestCount) .bare u))) :
    Completes c s P :=
  completes_request hc hs (by rw [plain, ho]) hp

/-- An owner that leaves the port as it was gives the count and the answer there. -/
theorem justAnswered_respond {s u : State} (st : Status) (r : Reply) (h : u.port = (counted s).port) :
    JustAnswered st r s (settle (respond st (wrapInc 255 s.port.requestCount) r u)) := by
  simp [JustAnswered, h]

theorem answered_respond {s u : State} (st : Status) (r : Reply)
    (h : u.port.requestCount = wrapInc 255 s.port.requestCount) :
    Answered st r s (settle (respond st (wrapInc 255 s.port.requestCount) r u)) := by
  simp [Answered, h]

/-- What the owner touches is what the command touches, beside the port. -/
theorem onlyTouches_request {may : List Block} (hp : .port ∈ may) {s u : State} (n : Nat) (st : Status) (r : Reply)
    (h : OnlyTouches may (counted s) u) : OnlyTouches may s (settle (respond st n r u)) := by
  have hport : ∀ b ∈ [Block.port], b ∈ may := by simpa using hp
  have hcount : OnlyTouches may s (counted s) := onlyTouches_mono (touches_port s _) hport
  have hanswer : OnlyTouches may u (respond st n r u) := onlyTouches_mono (touches_port u _) hport
  exact onlyTouches_settle (onlyTouches_trans (onlyTouches_trans hcount h) hanswer)

end Sys2Proof.Claims
end

section
/-! SUPPORT. CONFIGURE turned away (R194, R195), the reads that change nothing, GET_STATUS (R189), and the host's inputs (R20,
R38, R64, R65, R190). -/

namespace Sys2Proof.Claims

open Sys2Proof.Machine

/-! ## CONFIGURE turned away -/

/-- The first field out of range is the first check that fails. -/
theorem firstBadField_of_first {c : ConfigRequest} {n : Nat} (hn : n < (configChecks c).length)
    (hbad : (configChecks c)[n]? = some false) (hgood : ∀ m : Nat, m < n → (configChecks c)[m]? = some true) :
    firstBadField c = some (n + 1) := by
  have hfind : (configChecks c).findIdx? (fun ok => !ok) = some n := by
    rw [List.findIdx?_eq_some_iff_getElem]
    refine ⟨hn, ?_, fun m hm => ?_⟩
    · rw [List.getElem?_eq_getElem hn] at hbad
      simpa using hbad
    · have h := hgood m hm
      rw [List.getElem?_eq_getElem (hm.trans hn)] at h
      simpa using h
  simp [firstBadField, hfind]

/-- Settles O5, by the part state: UNCONFIGURED judges the fields, RUNNING does not. -/
theorem configureRefusesTheFirstBadField : Obligations.ConfigureRefusesTheFirstBadField := by
  intro c s hr
  constructor
  · intro hp n hn hbad hgood
    have ho : configure c (counted s) = (counted s, .range, .badField (n + 1)) := by
      simp [configure, hp, firstBadField_of_first hn hbad hgood]
    refine completes_of (t := settle (judge .unconfiguredToo (configure c) s)) rfl ?_
    rw [judge_taken _ _ hr (by simp [hp]) (by simp [hp, takenIn]), ho]
    exact nothingBut_respond s _ _
  · intro hp
    refine completes_request rfl ⟨hp, hr⟩ ?_ (nothingBut_respond s _ _)
    simp [configure, hp]

/-! ## Reads -/

/-- Settles O14: each of these owners returns the state it was given. -/
theorem readsChangeNothing : Obligations.ReadsChangeNothing := by
  intro s hs
  refine ⟨completes_unchanged rfl hs rfl, completes_unchanged rfl hs rfl,
    completes_request rfl hs rfl (nothingBut_respond s _ _),
    fun n u hu => ?_, fun n r hn hr => ?_⟩
  · refine completes_unchanged rfl hs ?_
    simp [readTrip, tripNumbered, findUpload, hu]
  · have hnone : findUpload n s = none := by simpa [findUpload] using hn
    by_cases h : r.number = n
    · have ho : readTrip n (counted s) = (counted s, .ok, .trip r) := by
        simp [readTrip, tripNumbered, show findUpload n (counted s) = none from hnone, hr, Option.filter, h]
      simpa only [if_pos h] using completes_unchanged rfl hs ho
    · have ho : readTrip n (counted s) = (counted s, .unknownId, .bare) := by
        simp [readTrip, tripNumbered, show findUpload n (counted s) = none from hnone, hr, Option.filter, h]
      simpa only [if_neg h] using completes_unchanged rfl hs ho

/-! ## GET_STATUS -/

/-- Settles O7: the report is read off the state as counted, and the fault kind alone is written. -/
theorem getStatusReadsAndMarksTheFault : Obligations.GetStatusReadsAndMarksTheFault := by
  intro s hr hd
  refine completes_of (t := settle (judge .always getStatus s)) rfl ?_
  rw [judge_taken _ _ hr hd (by cases s.port.part <;> rfl)]
  refine ⟨statusReport (counted s), justAnswered_respond _ _ rfl, by simp [getStatus, setFault],
    onlyTouches_request (by simp) _ _ _ ⟨rfl, fun b => by cases b <;> simp [Kept, getStatus, setFault]⟩, ?_⟩
  simp +contextual [statusReport, meterReport, storeReport, alarmReport, relayReport, State.held]

/-! ## The host's inputs -/

/-- One zone joins the set at its end, unless it stands there. -/
def withZone (l : List Nat) (z : Nat) : List Nat := if l.contains z then l else l ++ [z]

theorem zoneSet_eq (own : Nat) (adjoining : List Nat) : zoneSet own adjoining = adjoining.foldl withZone [own] := rfl

theorem mem_withZone {l : List Nat} {z a : Nat} : a ∈ withZone l z ↔ a ∈ l ∨ a = z := by
  unfold withZone
  split
  next h => exact ⟨.inl, fun ha => ha.elim id fun e => by simpa [e] using h⟩
  · simp

theorem nodup_withZone {l : List Nat} {z : Nat} (h : l.Nodup) : (withZone l z).Nodup := by
  unfold withZone
  split
  · exact h
  next hz =>
    simp only [List.contains_eq_mem, decide_eq_true_eq] at hz
    exact List.nodup_append.2 ⟨h, by simp, fun a ha b hb => by rintro rfl; simp_all⟩

theorem head?_withZone {l : List Nat} {z a : Nat} (h : l.head? = some a) : (withZone l z).head? = some a := by
  unfold withZone
  split <;> simp [h]

/-- The zone set keeps its first zone and its lack of duplicates as zones join. -/
theorem foldl_withZone (adjoining : List Nat) {l : List Nat} {own : Nat} (hd : l.Nodup) (hh : l.head? = some own) :
    (adjoining.foldl withZone l).Nodup ∧ (adjoining.foldl withZone l).head? = some own
      ∧ ∀ z, z ∈ adjoining.foldl withZone l ↔ z ∈ l ∨ z ∈ adjoining := by
  induction adjoining generalizing l with
  | nil => simp [hd, hh]
  | cons a rest ih =>
    obtain ⟨hnodup, hhead, hmem⟩ := ih (nodup_withZone (z := a) hd) (head?_withZone hh)
    refine ⟨hnodup, hhead, fun z => ?_⟩
    rw [List.foldl_cons, hmem, mem_withZone, List.mem_cons, or_assoc]

theorem positionInRange_of {p : PositionRequest} (hx : p.cell.x ≤ 4095) (hy : p.cell.y ≤ 4095) (hz : p.zone ≤ 255)
    (ha : p.adjoining.length ≤ 4) (hall : ∀ z ∈ p.adjoining, z ≤ 255) (hc : p.clock ≤ 4294967295) :
    positionInRange p = true := by
  simp [positionInRange, cellOk, inRange, hx, hy, hz, ha, hc]
  exact hall

theorem setPosition_refused {p : PositionRequest} (h : 4095 < p.cell.x ∨ 4095 < p.cell.y ∨ 4 < p.adjoining.length)
    (s : State) : setPosition p s = (s, .range) := by
  have hout : positionInRange p = false := by
    simp [positionInRange, cellOk, inRange]
    omega
  simp [setPosition, hout]

theorem positionAndAvailabilityAreSet : PositionAndAvailabilityAreSet := by
  intro s hs
  refine ⟨fun p hx hy hz ha hall hc => ?_, fun p h => ?_, fun b => ?_, fun v hv => ?_⟩
  · have ho : setPosition p (counted s) = ({ counted s with
        rx.zones := zoneSet p.zone p.adjoining, offers.cell := some p.cell, offers.positionAge := 0,
        port.clock := p.clock }, .ok) := by
      simp [setPosition, positionInRange_of hx hy hz ha hall hc]
    obtain ⟨hnodup, hhead, hmem⟩ := foldl_withZone p.adjoining (l := [p.zone]) (by simp) rfl
    rw [← zoneSet_eq] at hnodup hhead hmem
    refine completes_plain rfl hs ho ⟨by simp, by simp, by simp, by simpa, by simpa, by simpa using hmem,
      onlyTouches_request (by simp) _ _ _ ⟨rfl, fun b => ?_⟩⟩
    cases b <;> simp [Kept]
  · exact completes_unchanged rfl hs (by rw [plain, setPosition_refused h])
  · have ho : setAvailable (if b then 1 else 0) (counted s) =
        ({ counted s with offers.available := b }, .ok) := by
      cases b <;> simp [setAvailable]
    refine completes_plain rfl hs ho ⟨justAnswered_respond _ _ rfl, by simp,
      onlyTouches_request (by simp) _ _ _ ⟨rfl, fun b => ?_⟩⟩
    cases b <;> simp [Kept]
  · refine completes_unchanged rfl hs ?_
    rw [plain, setAvailable, if_neg (by omega)]

theorem linkRejoinLeavesSilentAlone : LinkRejoinLeavesSilentAlone := by
  intro s hs
  constructor
  · intro h
    have ho : linkRejoin (counted s) = (raise .linkState .link { counted s with
        link := { s.link with state := .recovering, quietSpans := 0, partialSpan := 0 } }, .ok) := by
      simp [linkRejoin, enterRecovering, setLink, h]
    refine completes_plain rfl hs ho ⟨by simp,
      answeredWithNotice_respond _ _ _ _ (raise_port _ _ _ _ rfl), onlyTouches_request (by simp) _ _ _ ?_⟩
    refine onlyTouches_trans (t := { counted s with
        link := { s.link with state := .recovering, quietSpans := 0, partialSpan := 0 } })
      ⟨rfl, fun b => ?_⟩ (onlyTouches_mono (raise_touches _ _ _) (by simp))
    cases b <;> simp [Kept]
  · intro h
    refine completes_unchanged rfl hs ?_
    rw [plain, linkRejoin, if_neg (by exact h)]

/-- Settles O9. -/
theorem hostInputsAreTaken : Obligations.HostInputsAreTaken :=
  ⟨positionAndAvailabilityAreSet, linkRejoinLeavesSilentAlone⟩

end Sys2Proof.Claims
end

section
/-! SUPPORT. How every request is judged: what it is in every part state (R187, R188, R197). -/

namespace Sys2Proof.Claims

open Sys2Proof.Machine

/-- Every request is judged, by its owner and in its part states (section 10.3). -/
theorem exec_request {c : Instr} (h : isRequest c = true) :
    ∃ (t : TakenIn) (o : State → State × Status × Reply), (∀ s, exec c s = .next (settle (judge t o s)))
      ∧ (takenInAll c = false → t ≠ .always) ∧ (takenUnconfigured c = false → t = .running) := by
  cases c
  case getStatus => exact ⟨.always, _, fun _ => rfl, nofun, nofun⟩
  case configure fields => exact ⟨.unconfiguredToo, _, fun _ => rfl, fun _ => nofun, nofun⟩
  case readTotals => exact ⟨.unconfiguredToo, _, fun _ => rfl, fun _ => nofun, nofun⟩
  all_goals first
    | exact absurd h Bool.false_ne_true
    | exact ⟨.running, _, fun _ => rfl, fun _ => nofun, fun _ => rfl⟩

theorem takenIn_scanning {t : TakenIn} (h : t ≠ .always) : takenIn t .scanning = false := by
  cases t with
  | always => exact absurd rfl h
  | unconfiguredToo | running => rfl

theorem notConfiguredOutsideItsStates : NotConfiguredOutsideItsStates := by
  intro c s hc hr hstate
  obtain ⟨t, o, hexec, hall, hunconf⟩ := exec_request hc
  have hout : s.port.part ≠ .dormant ∧ takenIn t s.port.part = false := by
    obtain ⟨hp, h⟩ | ⟨hp, h⟩ := hstate
    · simp [hp, takenIn_scanning (hall h)]
    · simp [hp, hunconf h, takenIn]
  refine completes_of (hexec s) ?_
  rw [judge_not_configured t o hr hout.1 hout.2]
  exact nothingBut_respond s _ _

theorem wake_of_dormant {s : State} (h : s.port.part = .dormant) : wake s = becomeRunning s := if_pos h

theorem refreshLamp_touches (s : State) : OnlyTouches [] s (refreshLamp s) := by
  unfold refreshLamp
  split
  · exact onlyTouches_refl [] s
  · exact ⟨rfl, fun b => by cases b <;> simp [Kept]⟩

theorem becomeRunning_touches (s : State) : OnlyTouches [.link, .tx, .msg, .port] s (becomeRunning s) := by
  refine onlyTouches_trans ⟨?_, fun b => ?_⟩ (onlyTouches_mono (refreshLamp_touches _) (by simp))
  · simp [startListening]
  · cases b <;> simp [Kept, startListening]

theorem requestInDormantIsJudgedInRunning : RequestInDormantIsJudgedInRunning := by
  intro c s hc hr hd
  obtain ⟨t, o, hexec, -, -⟩ := exec_request hc
  refine ⟨by rw [hexec, hexec, judge_wake t o hr], ?_, ?_, ?_, ?_, ?_⟩
  · rw [wake_port, if_pos hd]
  · simp [wake_of_dormant hd, becomeRunning, startListening]
  · simp [wake_of_dormant hd, becomeRunning, startListening]
  · rw [wake_of_dormant hd, becomeRunning_lamp, Safety.lampPattern_eq_lampTable]
  · rw [wake_of_dormant hd]
    exact becomeRunning_touches s

theorem badFrameAndSelectReleaseTouchTheResponse : BadFrameAndSelectReleaseTouchTheResponse := by
  refine ⟨fun s hr => ?_, fun s => ?_⟩
  · have hexec : exec .badFrame s = .next (settle (respond .badFrame s.port.requestCount .bare s)) := by
      rw [show exec .badFrame s = .next (settle (badFrame s)) from rfl, badFrame, hr]
      rfl
    exact completes_of hexec ⟨by simp, onlyTouches_settle (touches_port s _)⟩
  · exact completes_of (t := settle (selectReleased s)) rfl
      ⟨by simp [selectReleased], onlyTouches_settle (touches_port s _)⟩

/-- Settles O4. -/
theorem requestsAreJudgedInOrder : Obligations.RequestsAreJudgedInOrder :=
  ⟨notConfiguredOutsideItsStates, requestInDormantIsJudgedInRunning, badFrameAndSelectReleaseTouchTheResponse⟩

end Sys2Proof.Claims
end

section
/-! SUPPORT. What each shared operation may touch, block by block. -/

namespace Sys2Proof.Claims

open Sys2Proof.Machine

theorem OnlyTouches.kept {may : List Block} {s t : State} (h : OnlyTouches may s t) {b : Block} (hb : b ∉ may) :
    Kept b s t :=
  (h.2 b).resolve_left hb

theorem OnlyTouches.widen {may more : List Block} {s t : State} (h : OnlyTouches may s t) (hm : ∀ b ∈ may, b ∈ more) :
    OnlyTouches more s t :=
  onlyTouches_mono h hm

theorem OnlyTouches.trans {may : List Block} {s t u : State} (h : OnlyTouches may s t) (k : OnlyTouches may t u) :
    OnlyTouches may s u :=
  onlyTouches_trans h k

/-- A state that agrees with the result in every block is touched as little. -/
theorem OnlyTouches.before {may : List Block} {s t u : State} (h : OnlyTouches may t u) (hs : t.pending = s.pending)
    (hk : ∀ b, b ∈ may ∨ Kept b s t) : OnlyTouches may s u :=
  onlyTouches_trans ⟨hs, hk⟩ h

theorem kept_msg_queue {s t : State} (h : Kept .msg s t) : t.msg.queue = s.msg.queue := by
  have h : { t.msg with bus := s.msg.bus } = s.msg := h
  rw [← h]

/-! ## The pending queue and the link controller -/

theorem updateEntry_touches (u : Nat) (f : PendEntry → PendEntry) (s : State) : OnlyTouches [.tx] s (updateEntry u f s) :=
  ⟨rfl, fun b => by cases b <;> simp [Kept]⟩

theorem dequeue_touches (u : Nat) (s : State) : OnlyTouches [.tx] s (dequeue u s) :=
  ⟨rfl, fun b => by cases b <;> simp [Kept]⟩

theorem handBackDeferring_touches (s : State) : OnlyTouches [.link, .tx] s (handBackDeferring s) := by
  unfold handBackDeferring
  split
  · exact ⟨rfl, fun b => by cases b <;> simp [Kept]⟩
  · exact onlyTouches_refl _ s

theorem accessOpportunity_touches (b : Bool) (s : State) : OnlyTouches [.link, .tx] s (accessOpportunity b s) := by
  unfold accessOpportunity
  split
  · split
    · exact (presented_present _ b s).2
    · exact onlyTouches_refl _ s
  · exact onlyTouches_refl _ s

theorem displace_touches (b : Bool) (s : State) : OnlyTouches [.link, .tx] s (displace b s) := by
  unfold displace
  split
  · split
    · exact (handBackDeferring_touches s).trans (accessOpportunity_touches b _)
    · exact onlyTouches_refl _ s
  · exact onlyTouches_refl _ s

theorem channelBecomesFree_touches (s : State) : OnlyTouches [.link, .tx] s (channelBecomesFree s) := by
  unfold channelBecomesFree
  split
  · split
    · exact ⟨rfl, fun b => by cases b <;> simp [Kept]⟩
    · exact accessOpportunity_touches true s
  · exact onlyTouches_refl _ s

theorem joinEntry_touches (e : PendEntry) (s : State) : OnlyTouches [.link, .tx] s (joinEntry e s) := by
  have join : OnlyTouches [.link, .tx] s { s with
      nextUid := s.nextUid + 1
      tx.queue := s.tx.queue ++ [{ e with uid := s.nextUid, state := .waiting, attempts := 0, seq := none }] } :=
    ⟨rfl, fun b => by cases b <;> simp [Kept]⟩
  unfold joinEntry
  dsimp only
  split
  · split
    · exact join.trans (accessOpportunity_touches false _)
    · exact join
  · exact join.trans (displace_touches false _)

theorem offerEntry_touches (e : PendEntry) (s : State) : OnlyTouches [.link, .tx] s (offerEntry e s).1 := by
  unfold offerEntry
  repeat' split
  · exact onlyTouches_refl _ s
  · exact onlyTouches_refl _ s
  · exact joinEntry_touches e s

/-! ## Notices and pages -/

theorem setPage_touches (n : Nat) (l : List Line) (s : State) : OnlyTouches [.msg] s (setPage n l s) :=
  ⟨rfl, fun b => by cases b <;> simp [Kept]⟩

theorem writeJobPage_touches (s : State) : OnlyTouches [.msg] s (writeJobPage s) :=
  setPage_touches _ _ s

theorem writeFarePage_touches (s : State) : OnlyTouches [.msg, .port] s (writeFarePage s) :=
  ((setPage_touches _ _ s).widen (by simp)).trans ((raise_touches _ _ _).widen (by simp))

/-! ## The store -/

/-- An operation that gives the store other contents, and may draw free values. -/
theorem touches_store {s t : State} (h : t = { s with store := t.store, free := t.free }) : OnlyTouches [.store] s t := by
  rw [h]
  exact ⟨rfl, fun b => by cases b <;> simp [Kept]⟩

theorem beginErase_touches (n : Nat) (s : State) : OnlyTouches [.store] s (beginErase n s) :=
  touches_store (by unfold beginErase; dsimp only; split <;> rfl)

theorem haltStore_touches (s : State) : OnlyTouches [.store, .port] s (haltStore s) := by
  unfold haltStore
  exact ((raise_touches _ _ _).widen (by simp)).before rfl fun b => by cases b <;> simp [Kept]

theorem beginSwap_touches (s : State) : OnlyTouches [.store, .port] s (beginSwap s) := by
  unfold beginSwap
  split
  · exact (touches_store rfl).widen (by simp)
  · split
    · exact (beginErase_touches _ s).widen (by simp)
    · exact haltStore_touches s

theorem startHead_touches (s : State) : OnlyTouches [.store, .port] s (startHead s) := by
  unfold startHead
  repeat' split
  case _ => exact (touches_store rfl).widen (by simp)
  case _ => exact (touches_store rfl).widen (by simp)
  case _ => exact (touches_store rfl).widen (by simp)
  case _ => exact (touches_store rfl).widen (by simp)
  case _ => exact beginSwap_touches s
  case _ => exact beginSwap_touches s

theorem kickStore_touches (s : State) : OnlyTouches [.store, .port] s (kickStore s) := by
  unfold kickStore
  split
  · exact startHead_touches s
  · exact onlyTouches_refl _ s

theorem offerGroup_touches (k : GroupKind) (l : List RecordBody) (s : State) :
    OnlyTouches [.store, .port] s (offerGroup k l s).1 := by
  unfold offerGroup
  repeat' split
  case _ => exact onlyTouches_refl _ s
  case _ => exact (kickStore_touches _).before rfl fun b => by cases b <;> simp [Kept]
  case _ => exact onlyTouches_refl _ s
  case _ => exact (kickStore_touches _).before rfl fun b => by cases b <;> simp [Kept]

/-- After a change of the store alone, an operation touches what it touches there. -/
theorem OnlyTouches.afterStore {s t u : State} (h : OnlyTouches [.store, .port] t u)
    (ht : t = { s with store := t.store, free := t.free }) : OnlyTouches [.store, .port] s u :=
  ((touches_store ht).widen (by simp)).trans h

theorem formatNext_touches (s : State) : OnlyTouches [.store, .port] s (formatNext s) := by
  unfold formatNext
  repeat' split
  · exact ((beginErase_touches _ _).widen (by simp)).afterStore rfl
  · exact (touches_store rfl).widen (by simp)
  · exact (haltStore_touches _).afterStore rfl
  · exact onlyTouches_refl _ s
  · exact onlyTouches_refl _ s

theorem nextRepair_touches (s : State) : OnlyTouches [.store, .port] s (nextRepair s) := by
  unfold nextRepair
  dsimp only
  repeat' split
  · exact ((beginErase_touches _ _).widen (by simp)).afterStore rfl
  · exact (touches_store rfl).widen (by simp)
  · exact onlyTouches_refl _ s
  · exact (touches_store rfl).widen (by simp)
  · exact ((beginErase_touches _ _).widen (by simp)).afterStore rfl
  · exact (beginSwap_touches _).afterStore rfl
  · exact ((beginErase_touches _ _).widen (by simp)).afterStore rfl
  · exact onlyTouches_refl _ s
  · exact (formatNext_touches _).afterStore rfl
  · exact (touches_store rfl).widen (by simp)

theorem beginScan_touches (s : State) : OnlyTouches [.store, .port] s (beginScan s) :=
  (nextRepair_touches _).afterStore rfl

end Sys2Proof.Claims
end

section
/-! SUPPORT. The odometer (R95): the metres a pulse completes, and Q after each of the resets. -/

namespace Sys2Proof.Claims

open Sys2Proof.Machine

/-- A pulse with Q below the pulse constant completes at most two metres. -/
theorem metres_of_pulse_le {k q : Nat} (hk : 500 ≤ k) (hq : q < k) : (q + 1000) / k ≤ 2 := by
  rw [← Nat.lt_succ_iff, Nat.div_lt_iff_lt_mul (by omega)]
  omega

theorem mayLeaveRunning_iff (s : State) : mayLeaveRunning s = true ↔ MayStop s := by
  simp [mayLeaveRunning, MayStop, and_assoc]

theorem odometerPulse_completes {k : Nat} {s : State} (hk : s.fare.pulseConstant = some k) (hlow : 500 ≤ k)
    (hq : s.fare.q < k) (hc : s.fare.clockRunning = true) :
    Completes .odometerPulse s fun t =>
      t.fare = { s.fare with q := t.fare.q, metres := t.fare.metres } ∧ t.fare.q < k
        ∧ s.fare.metres ≤ t.fare.metres ∧ t.fare.metres ≤ s.fare.metres + 2
        ∧ t.fare.q + k * (t.fare.metres - s.fare.metres) = s.fare.q + 1000 ∧ OnlyTouches [.fare] s t := by
  have hpulse : odometerPulse s = { s with fare := { s.fare with
      q := (s.fare.q + 1000) % k, metres := s.fare.metres + (s.fare.q + 1000) / k } } := by
    simp [odometerPulse, hk, hc]
  refine completes_of (t := settle (odometerPulse s)) rfl ?_
  rw [hpulse]
  refine ⟨by simp, ?_, by simp, ?_, ?_, onlyTouches_settle ⟨rfl, fun b => by cases b <;> simp [Kept]⟩⟩
  · simpa using Nat.mod_lt _ (by omega : k > 0)
  · simpa using metres_of_pulse_le hlow hq
  · simpa using Nat.mod_add_div (s.fare.q + 1000) k

theorem powerOn_fare (s : State) : (powerOn s).fare = .reset := by
  have h : Kept .fare _ (powerOn s) := (beginScan_touches _).kept (by simp)
  exact h

/-- Settles O46. -/
theorem pulsesCompleteMetres : Obligations.PulsesCompleteMetres := by
  refine ⟨fun k s => odometerPulse_completes, fun s hc => ?_, fun s => ⟨?_, ?_, fun hs hm => ?_⟩⟩
  · have hpulse : odometerPulse s = s := by
      unfold odometerPulse
      split <;> simp [hc]
    exact completes_nothing (congrArg (fun t => Host.Outcome.next (settle t)) hpulse)
  · exact completes_of (t := settle (powerOn s)) rfl (by simp [powerOn_fare, Fare.reset])
  · exact completes_of (t := settle (resetPin s)) rfl (by simp [resetPin, resetBlocks, Fare.reset])
  · have ho : restart (counted s) = (restartBlocks (counted s), .ok) := by
      rw [restart, if_pos ((mayLeaveRunning_iff (counted s)).2 hm)]
    exact completes_plain rfl hs ho (by simp [restartBlocks, Fare.reset])

end Sys2Proof.Claims
end

section
/-! SUPPORT. The measuring interval (R96 to R105): the clamp, what a charged interval does to the trip, the pending tariff and
the checkpoint that falls due. -/

namespace Sys2Proof.Claims

open Sys2Proof.Machine

/-! ## Distance that is not charged (R96, R97, R119) -/

@[simp] theorem addVacant_keeps (d n : Nat) (s : State) :
    (addVacant d n s).link = s.link ∧ (addVacant d n s).rx = s.rx ∧ (addVacant d n s).tx = s.tx
      ∧ (addVacant d n s).offers = s.offers ∧ (addVacant d n s).fare = s.fare ∧ (addVacant d n s).store = s.store
      ∧ (addVacant d n s).msg = s.msg ∧ (addVacant d n s).emerg = s.emerg ∧ (addVacant d n s).port = s.port
      ∧ (addVacant d n s).pending = s.pending := by
  simp [addVacant]

theorem satAdd_satAdd (limit a b c : Nat) : satAdd limit (satAdd limit a b) c = satAdd limit a (b + c) := by
  unfold satAdd
  omega

/-- Two additions to the totals are one. -/
theorem Totals.addVacant_addVacant (d e m n : Nat) (t : Totals) :
    (t.addVacant d m).addVacant e n = t.addVacant (d + e) (m + n) := by
  simp [Totals.addVacant, satAdd_satAdd]

theorem addVacant_addVacant (d e m n : Nat) (s : State) :
    addVacant e n (addVacant d m s) = addVacant (d + e) (m + n) s := by
  by_cases ho : s.trips.shift.isOpen = true <;> simp [addVacant, Totals.addVacant_addVacant, ho]

theorem addVacant_shift (d n : Nat) (s : State) :
    (addVacant d n s).trips.shift =
      if s.trips.shift.isOpen then { s.trips.shift with totals := s.trips.shift.totals.addVacant d n }
      else s.trips.shift := by
  unfold addVacant
  split <;> rfl

/-- The totals after an interval that is not charged: its metres, at most 8, and an anomaly above. -/
def uncharged (s : State) : State := addVacant (min 8 s.fare.metres) (if 8 < s.fare.metres then 1 else 0) s

theorem addVacant_clampInterval_trips (s : State) :
    (addVacant (min 8 s.fare.metres) 0 (clampInterval s)).trips = (uncharged s).trips := by
  unfold clampInterval uncharged
  split
  · rw [addVacant_addVacant, Nat.zero_add]
    rfl
  · rfl

theorem uncharged_distanceIsAdded {s t : State} (h : t.trips = (uncharged s).trips) : DistanceIsAdded s t := by
  unfold DistanceIsAdded
  rw [h]
  refine ⟨rfl, fun ho => ?_, fun ho => ?_, rfl, rfl⟩
  · rw [uncharged, addVacant_shift, if_neg (by simp [ho])]
  · rw [uncharged, addVacant_shift, if_pos ho]
    rfl

/-! ## The parts of a boundary -/

/-- A trip as an interval above 8 metres leaves it (R96). -/
def marked (metres : Nat) (t : Trip) : Trip :=
  { t with flags.pulseAnomaly := t.flags.pulseAnomaly || decide (8 < metres) }

theorem clampInterval_fare (s : State) :
    (clampInterval s).fare = { s.fare with trip := s.fare.trip.map (marked s.fare.metres) } := by
  unfold clampInterval marked
  split
  next h => simp [updateTrip, h]
  next h => cases ht : s.fare.trip <;> simp [h, ← ht]

theorem clampInterval_touches (s : State) : OnlyTouches [.fare, .trips] s (clampInterval s) := by
  unfold clampInterval
  split
  · exact ⟨rfl, fun b => by cases b <;> simp [Kept, updateTrip]⟩
  · exact onlyTouches_refl _ s

theorem clampInterval_of_le {s : State} (h : s.fare.metres ≤ 8) : clampInterval s = s := by
  simp [clampInterval, Nat.not_lt.2 h]

/-- The fare engine after a charged interval of `d` metres (R98 to R100). -/
def charged (f : Tariff) (d : Nat) (a : Fare) : Fare :=
  let p := a.progress + intervalProgress f d
  { a with
    trip := a.trip.map fun t => if tariffWorth f ≤ p then earn f.A (addInterval f d t) else addInterval f d t
    intervalsSince := satAdd 600 a.intervalsSince 1
    progress := if tariffWorth f ≤ p then p - tariffWorth f else p
    incrementsSince := if tariffWorth f ≤ p then satAdd 16 a.incrementsSince 1 else a.incrementsSince }

theorem chargeInterval_fare (f : Tariff) (d : Nat) (s : State) : (chargeInterval f d s).fare = charged f d s.fare := by
  unfold chargeInterval charged
  dsimp only
  split
  · split <;> simp [updateTrip, Function.comp_def]
  · simp [updateTrip]

theorem chargeInterval_touches (f : Tariff) (d : Nat) (s : State) :
    OnlyTouches [.fare, .msg, .port] s (chargeInterval f d s) := by
  unfold chargeInterval
  dsimp only
  split
  · split
    · exact ⟨rfl, fun b => by cases b <;> simp [Kept, updateTrip]⟩
    · exact ((writeFarePage_touches _).widen (by simp)).before rfl fun b => by cases b <;> simp [Kept, updateTrip]
  · exact ⟨rfl, fun b => by cases b <;> simp [Kept, updateTrip]⟩

@[simp] theorem chargeInterval_msg_queue (f : Tariff) (d : Nat) (s : State) :
    (chargeInterval f d s).msg.queue = s.msg.queue := by
  unfold chargeInterval
  dsimp only
  repeat' split
  all_goals simp [updateTrip]

/-- A trip with the tariff that was pending (R103). -/
def withTariff (n : Nat) (t : Trip) : Trip :=
  { t with
    tariff := n, pendingTariff := none
    tariffList := if n ∈ t.tariffList then t.tariffList else t.tariffList ++ [n] }

theorem applyPending_some {n : Nat} {s : State} (h : s.fare.trip.bind (·.pendingTariff) = some n) :
    applyPending s = writeFarePage { s with fare := { s.fare with progress := 0, trip := s.fare.trip.map (withTariff n) } } := by
  have hw : withTariff n = fun t : Trip => { t with
      tariff := n, pendingTariff := none,
      tariffList := if t.tariffList.contains n then t.tariffList else t.tariffList ++ [n] } := by
    funext t
    simp [withTariff]
  rw [applyPending, h, hw]
  rfl

theorem applyPending_none {s : State} (h : s.fare.trip.bind (·.pendingTariff) = none) : applyPending s = s := by
  rw [applyPending, h]

theorem applyPending_touches (s : State) : OnlyTouches [.fare, .msg, .port] s (applyPending s) := by
  cases h : s.fare.trip.bind (·.pendingTariff) with
  | none => rw [applyPending_none h]; exact onlyTouches_refl _ s
  | some n =>
    rw [applyPending_some h]
    exact ((writeFarePage_touches _).widen (by simp)).before rfl fun b => by cases b <;> simp [Kept]

@[simp] theorem applyPending_msg_queue (s : State) : (applyPending s).msg.queue = s.msg.queue := by
  cases h : s.fare.trip.bind (·.pendingTariff) with
  | none => rw [applyPending_none h]
  | some n => simp [applyPending_some h]

/-- What a pending tariff leaves of the meter, the trip's number and the counts (R103). -/
theorem applyPending_fare (s : State) :
    (applyPending s).fare.meter = s.fare.meter ∧ (applyPending s).fare.checkpointOwed = s.fare.checkpointOwed
      ∧ (applyPending s).fare.incrementsSince = s.fare.incrementsSince
      ∧ (applyPending s).fare.intervalsSince = s.fare.intervalsSince
      ∧ (applyPending s).fare.trip.map (·.number) = s.fare.trip.map (·.number) := by
  cases h : s.fare.trip.bind (·.pendingTariff) with
  | none => simp [applyPending_none h]
  | some n => simp [applyPending_some h, Function.comp_def, withTariff]

/-! ## The boundary up to its checkpoint -/

/-- The state as the boundary leaves it before a checkpoint is judged (R96 to R103). -/
def boundaryLeft (s : State) : State :=
  let u := treatInterval (min 8 s.fare.metres) (clampInterval s)
  let v := if u.fare.meter = .hired then applyPending u else u
  { v with fare.metres := 0, fare.opening := false }

theorem intervalBoundary_eq {s : State} (h : s.fare.clockRunning = true) :
    intervalBoundary s =
      if checkpointDue (boundaryLeft s) then offerCheckpoint (boundaryLeft s) else boundaryLeft s := by
  rw [intervalBoundary, if_pos h]
  rfl

/-- An interval that is not charged is a vacant one (R88, R97). -/
theorem treatInterval_uncharged {s : State} (h : ¬ (s.fare.meter = .hired ∧ s.fare.opening = false)) (d : Nat) :
    treatInterval d s = addVacant d 0 s := by
  rw [treatInterval, if_neg h]

theorem treatInterval_charged {f : Tariff} {s : State} (h : s.fare.meter = .hired) (ho : s.fare.opening = false)
    (hf : tariffInForce s = some f) (d : Nat) : treatInterval d s = chargeInterval f d s := by
  rw [treatInterval, if_pos ⟨h, ho⟩, hf]

/-- The fare engine of an uncharged boundary that no pending tariff ends. -/
theorem boundaryLeft_uncharged {s : State} (h : ¬ (s.fare.meter = .hired ∧ s.fare.opening = false))
    (hp : s.fare.meter = .hired → s.fare.trip.bind (·.pendingTariff) = none) :
    boundaryLeft s =
      { addVacant (min 8 s.fare.metres) 0 (clampInterval s) with
        fare := { s.fare with
          metres := 0, opening := false, trip := s.fare.trip.map (marked s.fare.metres) } } := by
  have htreat : treatInterval (min 8 s.fare.metres) (clampInterval s) =
      addVacant (min 8 s.fare.metres) 0 (clampInterval s) :=
    treatInterval_uncharged (by simpa [clampInterval_fare] using h) _
  have hpending : s.fare.meter = .hired → (clampInterval s).fare.trip.bind (·.pendingTariff) = none := by
    intro hm
    simpa [clampInterval_fare, Option.bind_map, Function.comp_def, marked] using hp hm
  have hkeep : (if (addVacant (min 8 s.fare.metres) 0 (clampInterval s)).fare.meter = .hired then
      applyPending (addVacant (min 8 s.fare.metres) 0 (clampInterval s))
      else addVacant (min 8 s.fare.metres) 0 (clampInterval s)) =
      addVacant (min 8 s.fare.metres) 0 (clampInterval s) := by
    split
    next hm =>
      refine applyPending_none ?_
      simpa using hpending (by simpa [clampInterval_fare] using hm)
    · rfl
  unfold boundaryLeft
  simp only [htreat, hkeep]
  simp [clampInterval_fare]

theorem uncharged_touches (s : State) (a : Fare) :
    OnlyTouches [.fare, .trips] s { addVacant (min 8 s.fare.metres) 0 (clampInterval s) with fare := a } :=
  (clampInterval_touches s).trans ⟨by simp, fun b => by cases b <;> simp [Kept]⟩

/-- The fare engine of a charged boundary (R98 to R103). -/
theorem boundaryLeft_charged {f : Tariff} {s : State} (h : s.fare.meter = .hired) (ho : s.fare.opening = false)
    (hf : tariffInForce s = some f) :
    boundaryLeft s =
      let v := applyPending (chargeInterval f (min 8 s.fare.metres) (clampInterval s))
      { v with fare.metres := 0, fare.opening := false } := by
  have hc := clampInterval_fare s
  have hf' : tariffInForce (clampInterval s) = some f := by
    rw [← hf]
    cases ht : s.fare.trip <;> simp [tariffInForce, tariffNo, hc, ht, marked]
  have hm : (chargeInterval f (min 8 s.fare.metres) (clampInterval s)).fare.meter = .hired := by
    simp [chargeInterval_fare, charged, hc, h]
  unfold boundaryLeft
  rw [treatInterval_charged (by simp [hc, h]) (by simp [hc, ho]) hf']
  dsimp only
  rw [if_pos hm]

theorem treatInterval_touches (d : Nat) (s : State) :
    OnlyTouches [.fare, .trips, .msg, .port] s (treatInterval d s) ∧ (treatInterval d s).msg.queue = s.msg.queue := by
  unfold treatInterval
  split
  · split
    · exact ⟨(chargeInterval_touches _ _ s).widen (by simp), by simp⟩
    · exact ⟨onlyTouches_refl _ s, rfl⟩
  · exact ⟨⟨by simp, fun b => by cases b <;> simp [Kept]⟩, by simp⟩

/-- A boundary changes the fare engine, the totals and the FARE page with its notice (R96 to R108). -/
theorem boundaryLeft_touches (s : State) :
    OnlyTouches [.fare, .trips, .msg, .port] s (boundaryLeft s) ∧ (boundaryLeft s).msg.queue = s.msg.queue := by
  have hclamp := clampInterval_touches s
  have hq : (clampInterval s).msg.queue = s.msg.queue := kept_msg_queue (hclamp.kept (by simp))
  obtain ⟨htreat, htreatq⟩ := treatInterval_touches (min 8 s.fare.metres) (clampInterval s)
  have h := (hclamp.widen (by simp)).trans htreat
  rw [hq] at htreatq
  generalize hu : treatInterval (min 8 s.fare.metres) (clampInterval s) = u at h htreatq
  have hpend : OnlyTouches [.fare, .trips, .msg, .port] s (if u.fare.meter = .hired then applyPending u else u)
      ∧ (if u.fare.meter = .hired then applyPending u else u).msg.queue = s.msg.queue := by
    split
    · exact ⟨h.trans ((applyPending_touches u).widen (by simp)), by simpa using htreatq⟩
    · exact ⟨h, htreatq⟩
  unfold boundaryLeft
  rw [hu]
  dsimp only
  generalize (if u.fare.meter = .hired then applyPending u else u) = v at hpend
  obtain ⟨hv, hvq⟩ := hpend
  exact ⟨hv.trans ⟨rfl, fun b => by cases b <;> simp [Kept]⟩, hvq⟩

theorem checkpointDue_of_trip {t : Trip} {s : State} (h : s.fare.trip = some t) :
    checkpointDue s = true ↔
      s.fare.checkpointOwed = true ∨ 16 ≤ s.fare.incrementsSince ∨ 600 ≤ s.fare.intervalsSince := by
  simp [checkpointDue, h, or_assoc]

theorem checkpointDue_of_none {s : State} (h : s.fare.trip = none) : checkpointDue s = false := by
  simp [checkpointDue, h]

/-- A boundary with no checkpoint due ends where it left the state. -/
theorem exec_intervalBoundary_left {s : State} (h : s.fare.clockRunning = true) (hd : checkpointDue (boundaryLeft s) = false) :
    exec .intervalBoundary s = .next (settle (boundaryLeft s)) := by
  rw [show exec .intervalBoundary s = .next (settle (intervalBoundary s)) from rfl, intervalBoundary_eq h, hd]
  rfl

/-! ## The statements -/

theorem vacantIntervalsAddDistance : VacantIntervalsAddDistance := by
  intro s hc hm ht
  have hleft := boundaryLeft_uncharged (s := s) (by simp [hm]) (by simp [hm])
  have hd : checkpointDue (boundaryLeft s) = false := checkpointDue_of_none (by rw [hleft]; simp [ht])
  refine completes_of (exec_intervalBoundary_left hc hd) ?_
  have hadd : DistanceIsAdded s (settle (boundaryLeft s)) := by
    refine uncharged_distanceIsAdded ?_
    rw [← addVacant_clampInterval_trips, hleft]
    simp
  obtain ⟨htotals, hclosed, hopen, hlast, huploads⟩ := hadd
  refine ⟨?_, ?_, hclosed, hopen, hlast, huploads, ?_⟩
  · rw [hleft]
    simp [ht]
  · rw [htotals]
    split <;> rfl
  · rw [hleft]
    exact onlyTouches_settle (uncharged_touches s _)

end Sys2Proof.Claims
end

section
/-! SUPPORT. A charged interval (R98 to R103), an interval that is not (R88, R97), and the checkpoint that falls due at the
boundary (R104, R105, R133). -/

namespace Sys2Proof.Claims

open Sys2Proof.Machine

/-! ## An increment on the trip (R99 to R101) -/

/-- What an earned increment leaves of a trip. -/
theorem earn_keeps (a : Nat) (t : Trip) :
    (earn a t).number = t.number ∧ (earn a t).hiredDistance = t.hiredDistance ∧ (earn a t).waiting = t.waiting
      ∧ (earn a t).extras = t.extras ∧ (earn a t).startTime = t.startTime ∧ (earn a t).tariff = t.tariff
      ∧ (earn a t).tariffList = t.tariffList ∧ (earn a t).pendingTariff = t.pendingTariff
      ∧ (earn a t).earned = satAdd 999999 t.earned 1 := by
  unfold earn spendIncrement
  repeat' split
  all_goals simp

theorem earn_free {t : Trip} (h : 0 < t.freeLeft) (a : Nat) :
    earn a t = { t with
      earned := satAdd 999999 t.earned 1, freeLeft := t.freeLeft - 1, freeUsed := t.freeUsed + 1 } := by
  simp [earn, spendIncrement, h]

theorem earn_limited {t : Trip} (h : t.freeLeft = 0) (hl : t.flags.fareLimit = true) (a : Nat) :
    earn a t = { t with earned := satAdd 999999 t.earned 1 } := by
  simp [earn, spendIncrement, h, hl]

theorem earn_charges {a : Nat} {t : Trip} (h : t.freeLeft = 0) (hl : t.flags.fareLimit = false) (ha : t.fare + a ≤ 999999) :
    earn a t = { t with
      earned := satAdd 999999 t.earned 1, fare := t.fare + a, charged := satAdd 999999 t.charged 1 } := by
  simp [earn, spendIncrement, h, hl, Config.fareLimit, ha]

theorem earn_limits {a : Nat} {t : Trip} (h : t.freeLeft = 0) (hl : t.flags.fareLimit = false) (ha : 999999 < t.fare + a) :
    earn a t = { t with
      earned := satAdd 999999 t.earned 1, fare := 999999, flags := { t.flags with fareLimit := true } } := by
  simp [earn, spendIncrement, h, hl, Config.fareLimit, Nat.not_le.2 ha]

/-! ## The pending tariff (R103) -/

/-- A trip with its pending tariff, if any, in force. -/
def inForce (t : Trip) : Trip := t.pendingTariff.elim t (withTariff · t)

theorem inForce_keeps (t : Trip) :
    (inForce t).number = t.number ∧ (inForce t).hiredDistance = t.hiredDistance ∧ (inForce t).waiting = t.waiting
      ∧ (inForce t).extras = t.extras ∧ (inForce t).startTime = t.startTime ∧ (inForce t).earned = t.earned
      ∧ (inForce t).charged = t.charged ∧ (inForce t).fare = t.fare ∧ (inForce t).freeLeft = t.freeLeft
      ∧ (inForce t).freeUsed = t.freeUsed ∧ (inForce t).flags = t.flags := by
  cases h : t.pendingTariff <;> simp [inForce, h, withTariff]

theorem inForce_none {t : Trip} (h : t.pendingTariff = none) : inForce t = t := by simp [inForce, h]

theorem inForce_some {n : Nat} {t : Trip} (h : t.pendingTariff = some n) : inForce t = withTariff n t := by
  simp [inForce, h]

/-- The fare engine of a trip's pending tariff: the progress starts again. -/
theorem applyPending_fare_of_trip {t : Trip} {s : State} (h : s.fare.trip = some t) :
    (applyPending s).fare = { s.fare with
      trip := some (inForce t), progress := if t.pendingTariff.isSome then 0 else s.fare.progress } := by
  cases hp : t.pendingTariff with
  | none => simp [applyPending_none (s := s) (by simp [h, hp]), inForce_none hp, ← h]
  | some n => simp [applyPending_some (s := s) (n := n) (by simp [h, hp]), inForce_some hp, h]

/-! ## The charged boundary -/

/-- A trip after a charged interval of `d` metres that brings the progress to `p` (R98 to R100). -/
def chargedTrip (f : Tariff) (d p : Nat) (t : Trip) : Trip :=
  if tariffWorth f ≤ p then earn f.A (addInterval f d t) else addInterval f d t

theorem chargedTrip_keeps (f : Tariff) (d p : Nat) (t : Trip) :
    (chargedTrip f d p t).number = t.number ∧ (chargedTrip f d p t).extras = t.extras
      ∧ (chargedTrip f d p t).startTime = t.startTime ∧ (chargedTrip f d p t).tariff = t.tariff
      ∧ (chargedTrip f d p t).tariffList = t.tariffList ∧ (chargedTrip f d p t).pendingTariff = t.pendingTariff
      ∧ (chargedTrip f d p t).hiredDistance = min 9999999 (t.hiredDistance + d)
      ∧ (chargedTrip f d p t).waiting = (if f.D < d * f.T then t.waiting else min 864000 (t.waiting + 1)) := by
  unfold chargedTrip
  split <;> simp [earn_keeps, addInterval, satAdd]

theorem charged_of_trip {f : Tariff} {d : Nat} {a : Fare} {t : Trip} (h : a.trip = some t) :
    charged f d a =
      let p := a.progress + intervalProgress f d
      { a with
        trip := some (chargedTrip f d p t), intervalsSince := satAdd 600 a.intervalsSince 1
        progress := if tariffWorth f ≤ p then p - tariffWorth f else p
        incrementsSince := if tariffWorth f ≤ p then satAdd 16 a.incrementsSince 1 else a.incrementsSince } := by
  simp [charged, h, chargedTrip]

/-- The fare engine after a charged boundary of at most 8 metres. -/
theorem boundaryLeft_charged_fare {f : Tariff} {t : Trip} {s : State} (h : s.fare.meter = .hired)
    (ho : s.fare.opening = false) (hf : tariffInForce s = some f) (ht : s.fare.trip = some t) (hm : s.fare.metres ≤ 8) :
    (boundaryLeft s).fare =
      let p := s.fare.progress + intervalProgress f s.fare.metres
      { s.fare with
        metres := 0, opening := false, trip := some (inForce (chargedTrip f s.fare.metres p t))
        intervalsSince := satAdd 600 s.fare.intervalsSince 1
        progress := if t.pendingTariff.isSome then 0 else if tariffWorth f ≤ p then p - tariffWorth f else p
        incrementsSince :=
          if tariffWorth f ≤ p then satAdd 16 s.fare.incrementsSince 1 else s.fare.incrementsSince } := by
  have hc : (chargeInterval f s.fare.metres s).fare = _ := (chargeInterval_fare _ _ _).trans (charged_of_trip ht)
  have hp := applyPending_fare_of_trip (s := chargeInterval f s.fare.metres s) (by rw [hc])
  rw [boundaryLeft_charged h ho hf, clampInterval_of_le hm, Nat.min_eq_right hm]
  simp only [hp, hc, chargedTrip_keeps]

theorem chargeInterval_applyPending_touches {f : Tariff} {s : State} (h : s.fare.meter = .hired) (ho : s.fare.opening = false)
    (hf : tariffInForce s = some f) (hm : s.fare.metres ≤ 8) : OnlyTouches [.fare, .msg, .port] s (boundaryLeft s) := by
  rw [boundaryLeft_charged h ho hf, clampInterval_of_le hm]
  exact ((chargeInterval_touches _ _ s).trans (applyPending_touches _)).trans ⟨rfl, fun b => by cases b <;> simp [Kept]⟩

theorem hiredIntervalsEarnIncrements : HiredIntervalsEarnIncrements := by
  intro trip f s hc hm ho ht hf h8 howed hinc hint d p
  have hfare := boundaryLeft_charged_fare hm ho hf ht h8
  have hp : s.fare.progress + intervalProgress f s.fare.metres = p := rfl
  have hw : f.D * f.T = tariffWorth f := rfl
  rw [hp] at hfare
  have hd : checkpointDue (boundaryLeft s) = false := by
    rw [← Bool.not_eq_true, checkpointDue_of_trip (t := inForce (chargedTrip f s.fare.metres p trip)) (by rw [hfare])]
    simp only [hfare, howed, satAdd]
    split <;> simp <;> omega
  obtain ⟨hnum, hext, hstart, htar, hlist, hpend, hdist, hwait⟩ := chargedTrip_keeps f s.fare.metres p trip
  obtain ⟨knum, kdist, kwait, kext, kstart, kearn, kchg, kfare, kfree, kused, kflags⟩ :=
    inForce_keeps (chargedTrip f s.fare.metres p trip)
  refine completes_of (exec_intervalBoundary_left hc hd) ⟨inForce (chargedTrip f s.fare.metres p trip), ?_⟩
  simp only [settle_keeps, settle_keeps_msg, hfare, knum, kdist, kwait, kext, kstart, kearn, kchg, kfare, kfree, kused,
    kflags, hnum, hext, hstart, hdist, hwait, hm, hw, true_and]
  refine ⟨rfl, rfl, rfl, fun hn => ?_, fun n hn => ?_, fun hlt => ?_, fun hle => ?_,
    onlyTouches_settle (chargeInterval_applyPending_touches hm ho hf h8), (boundaryLeft_touches s).2⟩
  · rw [inForce_none (hpend.trans hn)]
    exact ⟨htar, hlist, by simp [hn]⟩
  · rw [inForce_some (hpend.trans hn)]
    simp [withTariff, hn, hlist]
  · simp [chargedTrip, Nat.not_le.2 hlt, addInterval]
  · simp only [chargedTrip, if_pos hle]
    refine ⟨by simp [earn_keeps, addInterval, satAdd], rfl, fun hfree => ?_, fun hnone hlim => ?_,
      fun hnone hlim hfits => ?_, fun hnone hlim hover => ?_⟩
    · rw [earn_free (t := addInterval f s.fare.metres trip) hfree]
      simp [addInterval]
    · rw [earn_limited (t := addInterval f s.fare.metres trip) hnone hlim]
      simp [addInterval]
    · rw [earn_charges (t := addInterval f s.fare.metres trip) hnone hlim hfits]
      simp [addInterval, satAdd]
    · rw [earn_limits (t := addInterval f s.fare.metres trip) hnone hlim hover]
      simp [addInterval]

/-! ## The boundary of an interval that is not charged -/

theorem boundaryLeft_uncharged_trips {s : State} (h : ¬ (s.fare.meter = .hired ∧ s.fare.opening = false)) :
    (boundaryLeft s).trips = (uncharged s).trips := by
  rw [← addVacant_clampInterval_trips]
  unfold boundaryLeft
  rw [treatInterval_uncharged (by simpa [clampInterval_fare] using h)]
  dsimp only
  split
  · exact (applyPending_touches _).kept (b := .trips) (by simp)
  · rfl

/-- The fare engine as an interval with a trip ends uncharged: a pending tariff takes effect in HIRED alone. -/
theorem boundaryLeft_uncharged_fare {t : Trip} {s : State} (h : ¬ (s.fare.meter = .hired ∧ s.fare.opening = false))
    (hm : s.fare.meter = .hired) (ht : s.fare.trip = some t) :
    (boundaryLeft s).fare = { s.fare with
      metres := 0, opening := false, trip := some (inForce (marked s.fare.metres t))
      progress := if t.pendingTariff.isSome then 0 else s.fare.progress } := by
  have hc := clampInterval_fare s
  unfold boundaryLeft
  rw [treatInterval_uncharged (by simpa [hc] using h)]
  dsimp only
  rw [if_pos (by simp [hc, hm]), applyPending_fare_of_trip (t := marked s.fare.metres t) (by simp [hc, ht])]
  simp [hc, marked]

theorem unchargedIntervalsAddDistance : UnchargedIntervalsAddDistance := by
  intro trip s hc ht howed hinc hint marked'
  have hnot : ∀ {t : Trip}, (boundaryLeft s).fare.trip = some t →
      (boundaryLeft s).fare.checkpointOwed = s.fare.checkpointOwed →
      (boundaryLeft s).fare.incrementsSince = s.fare.incrementsSince →
      (boundaryLeft s).fare.intervalsSince = s.fare.intervalsSince → checkpointDue (boundaryLeft s) = false := by
    intro t htrip ho hi hv
    rw [← Bool.not_eq_true, checkpointDue_of_trip htrip, ho, hi, hv, howed]
    simp
    omega
  constructor
  · intro h
    have huncharged : ¬ (s.fare.meter = .hired ∧ s.fare.opening = false) := by
      rintro ⟨hm, ho⟩
      obtain hm' | ⟨-, ho', -⟩ := h
      · simp [hm] at hm'
      · simp [ho] at ho'
    have hpending : s.fare.meter = .hired → s.fare.trip.bind (·.pendingTariff) = none := by
      intro hm
      obtain hm' | ⟨-, -, hp⟩ := h
      · simp [hm] at hm'
      · simp [ht, hp]
    have hleft := boundaryLeft_uncharged huncharged hpending
    refine completes_of (exec_intervalBoundary_left hc (hnot (t := marked') ?_ ?_ ?_ ?_)) ⟨?_, ?_, ?_⟩
    · rw [hleft]; simp [ht, marked, marked']
    · rw [hleft]
    · rw [hleft]
    · rw [hleft]
    · rw [hleft]; simp [ht, marked, marked']
    · exact uncharged_distanceIsAdded (by simpa using boundaryLeft_uncharged_trips huncharged)
    · rw [hleft]
      exact onlyTouches_settle (uncharged_touches s _)
  · intro n hm ho hp
    have huncharged : ¬ (s.fare.meter = .hired ∧ s.fare.opening = false) := by simp [ho]
    have hfare := boundaryLeft_uncharged_fare huncharged hm ht
    rw [inForce_some (n := n) (by simpa [marked] using hp)] at hfare
    refine completes_of (exec_intervalBoundary_left hc (hnot (t := withTariff n (marked s.fare.metres trip)) ?_ ?_ ?_ ?_))
      ⟨?_, ?_, onlyTouches_settle (boundaryLeft_touches s).1, by simpa using (boundaryLeft_touches s).2⟩
    · rw [hfare]
    · rw [hfare]
    · rw [hfare]
    · rw [hfare]
    · simp [hfare, hp, withTariff, marked, marked']
    · exact uncharged_distanceIsAdded (by simpa using boundaryLeft_uncharged_trips huncharged)

/-! ## A checkpoint offered (R105, R132, R133) -/

theorem rotation_congr {s t : State} (h : t.store = s.store) : rotation t = rotation s := by
  simp [Machine.rotation, sectorOf, h]

theorem isWaitingCheckpointOf_checkpoint (n : Nat) (g : Group) :
    g.isWaitingCheckpointOf (.checkpoint n) = (g.kind == .checkpoint n && !g.writing) := rfl

theorem any_isWaitingCheckpoint (n : Nat) (s : State) :
    s.store.queue.any (Group.isWaitingCheckpointOf (.checkpoint n)) = true ↔ Waits (.checkpoint n) s := by
  simp [isWaitingCheckpointOf_checkpoint, Waits]

/-- The write queue with a new checkpoint of the trip in the place of a waiting one (R133). -/
def withCheckpoint (n : Nat) (l : List RecordBody) (q : List Group) : List Group :=
  (q.filter fun g => !(g.kind == .checkpoint n && !g.writing)) ++ [⟨.checkpoint n, l, false⟩]

/-- A checkpoint joins a store at work where there is room, or where one of its trip waits and gives way (R132, R133). -/
theorem offerGroup_checkpoint_joins {n : Nat} {s : State} (l : List RecordBody) (h : StoreTakesGroups s)
    (hb : s.store.activity ≠ .idle) (hq : s.store.queue.length < 6 ∨ Waits (.checkpoint n) s) :
    offerGroup (.checkpoint n) l s = ({ s with store.queue := withCheckpoint n l s.store.queue }, .joined) := by
  by_cases hw : Waits (.checkpoint n) s
  · rw [offerGroup, if_neg (by omega), if_pos ((any_isWaitingCheckpoint n s).2 hw)]
    dsimp only
    rw [kickStore_busy (by exact hb)]
    rfl
  · have hany : s.store.queue.any (Group.isWaitingCheckpointOf (.checkpoint n)) = false := by
      rw [← Bool.not_eq_true, any_isWaitingCheckpoint]
      exact hw
    have hkeep : (s.store.queue.filter fun g => !(g.kind == .checkpoint n && !g.writing)) = s.store.queue := by
      rw [List.filter_eq_self]
      intro g hg
      have := (List.any_eq_false.1 hany) g hg
      simpa [isWaitingCheckpointOf_checkpoint, imp_iff_not_or] using this
    rw [offerGroup_joins _ _ h hany (hq.resolve_right hw), kickStore_busy (by exact hb), withCheckpoint, hkeep]

/-- Otherwise it is refused, and nothing changes (R132). -/
theorem offerGroup_checkpoint_refused {n : Nat} {s : State} (l : List RecordBody)
    (h : ¬ StoreTakesGroups s ∨ (6 ≤ s.store.queue.length ∧ ¬ Waits (.checkpoint n) s)) :
    ∃ a, offerGroup (.checkpoint n) l s = (s, a) ∧ a ≠ .joined := by
  by_cases hr : StoreTakesGroups s
  · obtain ⟨hq, hw⟩ := h.resolve_left (not_not.2 hr)
    rw [← any_isWaitingCheckpoint, Bool.not_eq_true] at hw
    exact ⟨_, offerGroup_full _ _ hr hw hq, nofun⟩
  · exact ⟨_, offerGroup_fault _ _ (Nat.lt_of_not_le hr), nofun⟩

theorem offerCheckpoint_joins {t : Trip} {s : State} (ht : s.fare.trip = some t) (h : StoreTakesGroups s)
    (hb : s.store.activity ≠ .idle) (hq : s.store.queue.length < 6 ∨ Waits (.checkpoint t.number) s) :
    offerCheckpoint s = { s with
      store := { s.store with
        queue := withCheckpoint t.number [.checkpoint (checkpointOf s.fare.meter t)] s.store.queue }
      fare := { s.fare with incrementsSince := 0, intervalsSince := 0, checkpointOwed := false } } := by
  rw [offerCheckpoint, ht]
  dsimp only
  rw [offerGroup_checkpoint_joins _ h hb hq]

theorem offerCheckpoint_owed {t : Trip} {s : State} (ht : s.fare.trip = some t)
    (h : ¬ StoreTakesGroups s ∨ (6 ≤ s.store.queue.length ∧ ¬ Waits (.checkpoint t.number) s)) :
    offerCheckpoint s = { s with fare := { s.fare with checkpointOwed := true } } := by
  obtain ⟨a, ho, ha⟩ := offerGroup_checkpoint_refused [.checkpoint (checkpointOf s.fare.meter t)] h
  rw [offerCheckpoint, ht]
  dsimp only
  rw [ho]
  cases a with
  | joined => exact absurd rfl ha
  | full | sectorFault => rfl

/-! ## The checkpoint that falls due at a boundary -/

theorem treatInterval_fare (d : Nat) (s : State) :
    (treatInterval d s).fare.meter = s.fare.meter ∧ (treatInterval d s).fare.checkpointOwed = s.fare.checkpointOwed
      ∧ (treatInterval d s).fare.trip.map (·.number) = s.fare.trip.map (·.number) := by
  unfold treatInterval
  repeat' split
  · simp only [chargeInterval_fare, charged, Option.map_map, true_and]
    congr 1
    funext t
    simp only [Function.comp_apply]
    split <;> simp [earn_keeps, addInterval]
  · simp
  · simp

/-- What a boundary leaves of the meter, of an owed checkpoint and of the trip's number. -/
theorem boundaryLeft_fare_keeps (s : State) :
    (boundaryLeft s).fare.meter = s.fare.meter ∧ (boundaryLeft s).fare.checkpointOwed = s.fare.checkpointOwed
      ∧ (boundaryLeft s).fare.metres = 0 ∧ (boundaryLeft s).fare.trip.map (·.number) = s.fare.trip.map (·.number) := by
  obtain ⟨hmeter, howed, hnumber⟩ := treatInterval_fare (min 8 s.fare.metres) (clampInterval s)
  have hc := clampInterval_fare s
  have hmarked : (clampInterval s).fare.trip.map (·.number) = s.fare.trip.map (·.number) := by
    simp [hc, Function.comp_def, marked]
  simp only [hc] at hmeter howed
  rw [hmarked] at hnumber
  unfold boundaryLeft
  dsimp only
  split
  · obtain ⟨pmeter, powed, -, -, pnumber⟩ :=
      applyPending_fare (treatInterval (min 8 s.fare.metres) (clampInterval s))
    exact ⟨pmeter.trans hmeter, powed.trans howed, rfl, pnumber.trans hnumber⟩
  · exact ⟨hmeter, howed, rfl, hnumber⟩

theorem boundaryLeft_trip {t : Trip} {s : State} (ht : s.fare.trip = some t) :
    ∃ u : Trip, (boundaryLeft s).fare.trip = some u ∧ u.number = t.number := by
  have h := (boundaryLeft_fare_keeps s).2.2.2
  rw [ht, Option.map_some, Option.map_eq_some_iff] at h
  exact h

/-- The counts after a charged boundary (R104). -/
theorem boundaryLeft_charged_counts {f : Tariff} {s : State} (h : s.fare.meter = .hired) (ho : s.fare.opening = false)
    (hf : tariffInForce s = some f) :
    (boundaryLeft s).fare.intervalsSince = satAdd 600 s.fare.intervalsSince 1
      ∧ (boundaryLeft s).fare.incrementsSince =
        (if tariffWorth f ≤ s.fare.progress + intervalProgress f (min 8 s.fare.metres)
          then satAdd 16 s.fare.incrementsSince 1 else s.fare.incrementsSince) := by
  rw [boundaryLeft_charged h ho hf]
  simp [applyPending_fare, chargeInterval_fare, charged, clampInterval_fare]

theorem checkpointDue_boundaryLeft {t : Trip} {s : State} (ht : s.fare.trip = some t) (h : CheckpointFallsDue s) :
    checkpointDue (boundaryLeft s) = true := by
  obtain ⟨u, hu, -⟩ := boundaryLeft_trip ht
  obtain ⟨-, howed, -, -⟩ := boundaryLeft_fare_keeps s
  rw [checkpointDue_of_trip hu, howed]
  obtain h | ⟨hm, ho, f, hf, hlimit⟩ := h
  · exact .inl h
  · obtain ⟨hintervals, hincrements⟩ := boundaryLeft_charged_counts hm ho hf
    rw [hintervals, hincrements]
    obtain h | ⟨hinc, hp⟩ := hlimit
    · exact .inr (.inr (by simp [satAdd]; omega))
    · have hreach : tariffWorth f ≤ s.fare.progress + intervalProgress f (min 8 s.fare.metres) := hp
      exact .inr (.inl (by rw [if_pos hreach]; simp [satAdd]; omega))

theorem checkpointJoinsOrIsOwed : CheckpointJoinsOrIsOwed := by
  intro trip s hc ht hm hdue kind
  obtain ⟨u, hu, hnum⟩ := boundaryLeft_trip ht
  obtain ⟨hmeter, -, hmetres, -⟩ := boundaryLeft_fare_keeps s
  obtain ⟨htouch, hmsg⟩ := boundaryLeft_touches s
  have hstore : (boundaryLeft s).store = s.store := htouch.kept (b := .store) (by simp)
  have hexec : exec .intervalBoundary s = .next (settle (offerCheckpoint (boundaryLeft s))) := by
    rw [show exec .intervalBoundary s = .next (settle (intervalBoundary s)) from rfl, intervalBoundary_eq hc,
      if_pos (checkpointDue_boundaryLeft ht hdue)]
  have hrotation : rotation (boundaryLeft s) = rotation s := rotation_congr hstore
  have hwaits : Waits (.checkpoint u.number) (boundaryLeft s) ↔ Waits kind s := by
    rw [hnum, Waits, Waits, hstore]
  constructor
  · intro htakes hbusy hroom
    rw [offerCheckpoint_joins hu (by rw [StoreTakesGroups, hrotation]; exact htakes) (by rwa [hstore])
      (by rwa [hwaits, hstore])] at hexec
    refine completes_of hexec ⟨⟨u, by simpa using hu, hnum, ?_⟩, by simp, by simp, by simp, by simpa using hmetres,
      by simpa using hmeter, onlyTouches_settle ?_, by simpa using hmsg⟩
    · simp [hstore, hmeter, hnum, withCheckpoint, kind]
    · exact (htouch.widen (by simp)).trans ⟨rfl, fun b => by cases b <;> simp [Kept]⟩
  · intro hfull
    rw [offerCheckpoint_owed hu (by rwa [StoreTakesGroups, hrotation, hwaits, hstore])] at hexec
    refine completes_of hexec ⟨⟨u, by simpa using hu, hnum⟩, by simp, by simpa using hmetres, by simpa using hmeter,
      onlyTouches_settle ?_, by simpa using hmsg⟩
    exact htouch.trans ⟨rfl, fun b => by cases b <;> simp [Kept]⟩

/-- Settles O47. -/
theorem intervalsAreCharged : Obligations.IntervalsAreCharged :=
  ⟨vacantIntervalsAddDistance, hiredIntervalsEarnIncrements, unchargedIntervalsAddDistance, checkpointJoinsOrIsOwed⟩

end Sys2Proof.Claims
end

section
/-! SUPPORT. METER_TARIFF, METER_STOP and METER_EXTRA (R89, R90, R91, R101, R105). -/

namespace Sys2Proof.Claims

open Sys2Proof.Machine

theorem tariffNo_eq_none {n : Nat} {s : State} (h : n = 0 ∨ s.fare.tariffs.length < n) : tariffNo n s = none := by
  unfold tariffNo
  split
  · rfl
  · rw [List.getElem?_eq_none]
    omega

theorem tariffNo_eq_some {n : Nat} {s : State} (h : 1 ≤ n) (hn : n ≤ s.fare.tariffs.length) :
    ∃ f, tariffNo n s = some f := by
  rw [tariffNo, if_neg (by omega), List.getElem?_eq_getElem (by omega)]
  exact ⟨_, rfl⟩

/-- An owner that rewrites the FARE page last raises FARE_CHANGED and changes the pages alone after it. -/
theorem answeredWithNotice_writeFarePage (st : Status) (r : Reply) {s u : State} (h : u.port = (counted s).port) :
    AnsweredWithNotice .fareChanged .meter st r s
      (settle (respond st (wrapInc 255 s.port.requestCount) r (writeFarePage u))) :=
  answeredWithNotice_respond _ _ _ _ ((writeFarePage_port u).trans (raise_port _ _ _ _ h))

theorem meterTariff_changes {n : Nat} {f : Tariff} {t : Trip} {s : State} (hm : s.fare.meter = .hired)
    (hf : tariffNo n s = some f) (ht : s.fare.trip = some t) (hp : pendingAfter n t ≠ t.pendingTariff) :
    meterTariff n s =
      (writeFarePage { s with fare := { s.fare with trip := some { t with pendingTariff := pendingAfter n t } } },
        .ok) := by
  simp [meterTariff, hm, hf, ht, hp, updateTrip]

theorem meterTariff_stands {n : Nat} {f : Tariff} {t : Trip} {s : State} (hm : s.fare.meter = .hired)
    (hf : tariffNo n s = some f) (ht : s.fare.trip = some t) (hp : pendingAfter n t = t.pendingTariff) :
    meterTariff n s = (s, .ok) := by
  simp [meterTariff, hm, hf, ht, hp]

theorem meterTariffSetsThePendingTariff : MeterTariffSetsThePendingTariff := by
  intro n trip s hs
  refine ⟨fun hm ht h1 hn => ?_, fun hm => ?_, fun hm hn => ?_⟩
  · obtain ⟨f, hf⟩ := tariffNo_eq_some (s := s) h1 hn
    by_cases hp : pendingAfter n trip = trip.pendingTariff
    · have hp' : (if n = trip.tariff then none else some n) = trip.pendingTariff := hp
      simp only [hp', if_true]
      refine completes_plain rfl hs (meterTariff_stands (s := counted s) hm hf ht hp) (nothingBut_respond s _ _)
    · have hp' : (if n = trip.tariff then none else some n) ≠ trip.pendingTariff := hp
      simp only [hp', if_false]
      refine completes_plain rfl hs (meterTariff_changes (s := counted s) hm hf ht hp)
        ⟨answeredWithNotice_writeFarePage _ _ rfl, by simp [pendingAfter], onlyTouches_request (by simp) _ _ _ ?_,
          by simp⟩
      exact ((writeFarePage_touches _).widen (by simp)).before rfl fun b => by cases b <;> simp [Kept]
  · refine completes_plain rfl hs ?_ (nothingBut_respond s _ _)
    rw [meterTariff, if_pos (by exact hm)]
  · refine completes_plain rfl hs ?_ (nothingBut_respond s _ _)
    rw [meterTariff, if_neg (by simpa using hm), tariffNo_eq_none (s := counted s) hn]
    rfl

/-! ## METER_STOP -/

/-- The state as METER_STOP leaves it before the checkpoint: STOPPED, with no tariff pending (R90). -/
def stopped (t : Trip) (s : State) : State :=
  { s with fare := { s.fare with meter := .stopped, opening := false, trip := some { t with pendingTariff := none } } }

theorem meterStop_eq {t : Trip} {s : State} (hm : s.fare.meter = .hired) (ht : s.fare.trip = some t) :
    meterStop s = (writeFarePage (offerCheckpoint (stopped t s)), .ok) := by
  simp [meterStop, hm, updateTrip, ht, stopped]

theorem not_waits_iff (n : Nat) (s : State) :
    (∀ g ∈ s.store.queue, ¬ (g.kind = .checkpoint n ∧ g.writing = false)) ↔ ¬ Waits (.checkpoint n) s := by
  simp [Waits]

theorem meterStopFreezesTheFare : MeterStopFreezesTheFare := by
  intro trip s hs
  refine ⟨fun hm ht hbusy => ?_, fun hm => ?_⟩
  · have ho := meterStop_eq (s := counted s) hm ht
    have htrip : (stopped trip (counted s)).fare.trip = some { trip with pendingTariff := none } := rfl
    rw [not_waits_iff]
    by_cases hfull : ¬ StoreTakesGroups s ∨ (6 ≤ s.store.queue.length ∧ ¬ Waits (.checkpoint trip.number) s)
    · rw [offerCheckpoint_owed htrip (by exact hfull)] at ho
      refine completes_plain rfl hs ho ⟨answeredWithNotice_writeFarePage _ _ rfl, by simp [stopped], by simp [stopped],
        by simp [stopped], by simpa using hfull, by simp, by simp [stopped], by simp [stopped], by simp [stopped],
        by simp [stopped], onlyTouches_request (by simp) _ _ _ ?_, by simp [stopped]⟩
      exact ((writeFarePage_touches _).widen (by simp)).before rfl fun b => by cases b <;> simp [Kept, stopped]
    · obtain ⟨htakes, hroom⟩ := not_or.1 hfull
      have hroom' : s.store.queue.length < 6 ∨ Waits (.checkpoint trip.number) s := by
        by_contra hc
        obtain ⟨hlen, hw⟩ := not_or.1 hc
        exact hroom ⟨by omega, hw⟩
      rw [offerCheckpoint_joins htrip (by exact not_not.1 htakes) (by exact hbusy) (by exact hroom')] at ho
      refine completes_plain rfl hs ho ⟨answeredWithNotice_writeFarePage _ _ rfl, by simp [stopped], by simp [stopped],
        by simp [stopped], by simpa using hfull, fun _ =>
          ⟨⟨.checkpoint trip.number, [.checkpoint (checkpointOf .stopped { trip with pendingTariff := none })], false⟩, ?_,
            rfl, rfl⟩, by simp [stopped], by simp [stopped],
        by simp [stopped], by simp [stopped], onlyTouches_request (by simp) _ _ _ ?_, by simp [stopped]⟩
      · simp [withCheckpoint, stopped]
      · exact ((writeFarePage_touches _).widen (by simp)).before rfl fun b => by cases b <;> simp [Kept, stopped]
  · refine completes_plain rfl hs ?_ (nothingBut_respond s _ _)
    rw [meterStop, if_pos (by exact hm)]

/-! ## METER_EXTRA -/

theorem addExtra_eq (e : Extra) (t : Trip) :
    addExtra e t = { t with
      extras := t.extras ++ [e]
      fare := if t.flags.fareLimit then t.fare else min 999999 (t.fare + e.amount)
      flags := { t.flags with fareLimit := t.flags.fareLimit || decide (999999 < t.fare + e.amount) } } := by
  unfold addExtra Config.fareLimit
  by_cases hl : t.flags.fareLimit = true
  · simp [hl]
    rw [← hl]
  · rw [Bool.not_eq_true] at hl
    by_cases hf : t.fare + e.amount ≤ 999999
    · simp [hl, hf, Nat.not_lt.2 hf]
      rw [← hl]
    · simp [hl, hf, Nat.not_le.1 hf]
      omega

theorem meterExtraJoinsAndIsCharged : MeterExtraJoinsAndIsCharged := by
  intro e trip s hs
  refine ⟨fun hm ht he => ⟨fun hlen => ?_, fun hlen => ?_⟩, fun hm => ?_, fun hm ht hno => ?_⟩
  · have ho : meterExtra e.code (counted s) =
        (writeFarePage { counted s with fare := { s.fare with trip := some (addExtra e trip) } }, .ok) := by
      simp [meterExtra, ht, hm, he, Nat.not_le.2 hlen, updateTrip]
    refine completes_plain rfl hs ho ⟨answeredWithNotice_writeFarePage _ _ rfl, by simp [addExtra_eq],
      onlyTouches_request (by simp) _ _ _ ?_, by simp⟩
    exact ((writeFarePage_touches _).widen (by simp)).before rfl fun b => by cases b <;> simp [Kept]
  · refine completes_plain rfl hs ?_ (nothingBut_respond s _ _)
    simp [meterExtra, ht, hm, he, hlen]
  · refine completes_plain rfl hs ?_ (nothingBut_respond s _ _)
    unfold meterExtra
    split
    · rfl
    · rw [if_pos (by exact hm)]
  · have hnone : s.fare.catalogue.find? (fun a => a.code == e.code) = none := by simpa using hno
    refine completes_plain rfl hs ?_ (nothingBut_respond s _ _)
    simp [meterExtra, ht, hm, hnone]

/-- Settles O17. -/
theorem meterRequestsWhileATripIsOpen : Obligations.MeterRequestsWhileATripIsOpen :=
  ⟨meterTariffSetsThePendingTariff, meterStopFreezesTheFare, meterExtraJoinsAndIsCharged⟩

end Sys2Proof.Claims
end

section
/-! SUPPORT. One change of an entry of the offer table, said for an entry that stands once under its id (R60, R61, R63, R71, R77,
R81), and the port along a chain of notices (R191). -/

namespace Sys2Proof.Claims

open Sys2Proof.Machine

/-! ## Notices in a row -/

theorem raise_counted (k : NoticeKind) (j : Subject) (s : State) :
    (raise k j (counted s)).port = (counted (raise k j s)).port := by
  rw [raise_counted_port]
  simp

/-- A notice judged on a port that stands as counted leaves the port as counted. -/
theorem raise_port_counted {k : NoticeKind} {j : Subject} {u v : State} (h : u.port = (counted v).port) :
    (raise k j u).port = (counted (raise k j v)).port :=
  (raise_port _ _ _ _ h).trans (raise_counted k j v)

/-- The answer after notices that the owner raised. -/
theorem justAnswered_after {s u v : State} (st : Status) (r : Reply) (h : u.port = (counted v).port)
    (hc : v.port.requestCount = s.port.requestCount) :
    JustAnswered st r v (settle (respond st (wrapInc 255 s.port.requestCount) r u)) := by
  simp [JustAnswered, h, hc]

/-! ## The table -/

/-- The table with every entry of `o`'s id as `o'`. -/
theorem updateWhere_offer (o o' : OfferEntry) (s : State) :
    updateWhere (fun a => a.id == o.id) (fun _ => o') s.offers.table = tableWith o o' s := by
  simp [updateWhere, tableWith]

theorem tableWith_congr {o o' : OfferEntry} {s t : State} (h : t.offers.table = s.offers.table) :
    tableWith o o' t = tableWith o o' s := by
  rw [tableWith, h]

/-- A second change of the entry stands in the place of the first. -/
theorem tableWith_tableWith {o o' o'' : OfferEntry} {s t : State} (h : t.offers.table = tableWith o o' s)
    (hid : o'.id = o.id) : tableWith o' o'' t = tableWith o o'' s := by
  rw [tableWith, h, tableWith, List.map_map]
  refine List.map_congr_left fun a _ => ?_
  by_cases ha : a.id = o.id <;> simp [ha, hid]

theorem listed_tableWith {o o' : OfferEntry} {s t : State} (hl : Listed o s) (h : t.offers.table = tableWith o o' s)
    (hid : o'.id = o.id) : Listed o' t := by
  obtain ⟨hm, -⟩ := hl
  rw [Listed, h]
  constructor
  · exact List.mem_map.2 ⟨o, hm, if_pos rfl⟩
  · intro a ha haid
    obtain ⟨b, -, hb⟩ := List.mem_map.1 ha
    split at hb
    · exact hb.symm
    next hbid => rw [← hb, hid] at haid; exact absurd haid hbid

theorem listed_congr {o : OfferEntry} {s t : State} (h : t.offers.table = s.offers.table) (hl : Listed o s) : Listed o t := by
  rw [Listed, h]
  exact hl

/-! ## A change of an entry -/

/-- The offer engine with the entry `o` as `o'`, the held-job reference following its state (R63). -/
def withOffer (o o' : OfferEntry) (s : State) : State :=
  { s with offers := { s.offers with
      table := tableWith o o' s, heldJob := heldAfter o.id o'.state s.offers.heldJob } }

theorem updateOffer_listed {o : OfferEntry} {s : State} (h : Listed o s) (f : OfferEntry → OfferEntry) :
    updateOffer o.id f s =
      writeJobPage (if (stopTimers (f o)).state = o.state then withOffer o (stopTimers (f o)) s
        else raise .offerChanged (.offer o.id) (withOffer o (stopTimers (f o)) s)) := by
  simp only [updateOffer, findOffer_of_listed h, updateWhere_offer, withOffer]

theorem withOffer_touches (o o' : OfferEntry) (s : State) : OnlyTouches [.offers] s (withOffer o o' s) :=
  ⟨rfl, fun b => by cases b <;> simp [Kept, withOffer]⟩

/-- The offer engine after a change of an entry. -/
theorem updateOffer_offers {o o' : OfferEntry} {s : State} (h : Listed o s) {f : OfferEntry → OfferEntry}
    (hf : stopTimers (f o) = o') :
    (updateOffer o.id f s).offers =
      { s.offers with table := tableWith o o' s, heldJob := heldAfter o.id o'.state s.offers.heldJob } := by
  rw [updateOffer_listed h, hf]
  split <;> simp [withOffer]

/-- OFFER_CHANGED is raised as the state changes, and not otherwise (R61). -/
theorem updateOffer_port {o o' : OfferEntry} {s : State} (h : Listed o s) {f : OfferEntry → OfferEntry}
    (hf : stopTimers (f o) = o') :
    (updateOffer o.id f s).port =
      if o'.state = o.state then s.port else (raise .offerChanged (.offer o.id) s).port := by
  rw [updateOffer_listed h, hf]
  split
  · simp [withOffer]
  · simpa using raise_port _ _ (withOffer o o' s) s rfl

theorem updateOffer_touches (id : OfferId) (f : OfferEntry → OfferEntry) (s : State) :
    OnlyTouches [.offers, .msg, .port] s (updateOffer id f s) := by
  unfold updateOffer
  dsimp only
  split
  · exact onlyTouches_refl _ s
  · refine OnlyTouches.trans ?_ ((writeJobPage_touches _).widen (by simp))
    split
    · exact ⟨rfl, fun b => by cases b <;> simp [Kept]⟩
    · exact ((raise_touches _ _ _).widen (by simp)).before rfl fun b => by cases b <;> simp [Kept]

/-- A change that leaves the entry's state raises no notice. -/
theorem updateOffer_touches_of_state {o : OfferEntry} {s : State} (h : Listed o s) {f : OfferEntry → OfferEntry}
    (hf : (f o).state = o.state) : OnlyTouches [.offers, .msg] s (updateOffer o.id f s) := by
  rw [updateOffer_listed h, if_pos (by simpa [stopTimers] using hf)]
  exact ((withOffer_touches _ _ s).widen (by simp)).trans ((writeJobPage_touches _).widen (by simp))

@[simp] theorem updateOffer_msg (id : OfferId) (f : OfferEntry → OfferEntry) (s : State) :
    (updateOffer id f s).msg.queue = s.msg.queue ∧ (updateOffer id f s).msg.shown = s.msg.shown := by
  unfold updateOffer
  dsimp only
  repeat' split
  all_goals simp

@[simp] theorem updateOffer_nextUid (id : OfferId) (f : OfferEntry → OfferEntry) (s : State) :
    (updateOffer id f s).nextUid = s.nextUid ∧ (updateOffer id f s).elapsed = s.elapsed := by
  unfold updateOffer
  dsimp only
  repeat' split
  all_goals simp

end Sys2Proof.Claims
end

section
/-! SUPPORT. METER_CLEAR (R78, R92, R116, R117, R119). -/

namespace Sys2Proof.Claims

open Sys2Proof.Machine

/-! ## The close group -/

theorem listable_iff (n : Nat) (s : State) : listable n s = true ↔ ListedAs true n s := by
  rw [listable, Bool.and_eq_true, decide_eq_true_iff, List.all_eq_true]
  simp [ListedAs, Config.uploadCapacity]

theorem listable_of_listedAs {listed : Bool} {n : Nat} {s : State} (h : ListedAs listed n s) : listable n s = listed := by
  cases listed with
  | true => exact (listable_iff n s).2 h
  | false =>
    rw [← Bool.not_eq_true, listable_iff]
    rintro ⟨hlen, hall⟩
    obtain hfull | ⟨u, hu, hn⟩ := h
    · omega
    · exact hall u hu hn

/-- The close group of a trip. -/
def closing (t : Trip) (listed : Bool) (s : State) : Group := ⟨.close t.number listed, closeGroup t listed s, false⟩

theorem offerGroup_close_joins {t : Trip} {listed : Bool} {s : State} (h : StoreTakesGroups s)
    (hq : s.store.queue.length < 6) (hb : s.store.activity ≠ .idle) :
    offerGroup (.close t.number listed) (closeGroup t listed s) s =
      ({ s with store := { s.store with queue := s.store.queue ++ [closing t listed s] } }, .joined) := by
  rw [offerGroup_joins _ _ h (no_waiting_checkpoint (by simp) _) hq, kickStore_busy (by exact hb)]
  rfl

/-! ## The close -/

/-- The trip's record as the upload list holds it. -/
def closedRecord (t : Trip) (listed : Bool) (s : State) : TripRecord :=
  tripRecordOf t s.port.clock (if listed then .storing else .notListed)

/-- The state as the close group has joined and the meter is VACANT, before the linked job is treated (R92, R117). -/
def cleared (t : Trip) (listed : Bool) (s : State) : State :=
  let v := recordClose t listed { s with store := { s.store with queue := s.store.queue ++ [closing t listed s] } }
  { v with
    fare.meter := .vacant
    fare.trip := none
    fare.progress := 0
    fare.incrementsSince := 0
    fare.intervalsSince := 0
    fare.checkpointOwed := false
    fare.restored := false
    offers.idleMinutes := 0 }

theorem meterClear_joined {t : Trip} {listed : Bool} {s : State} (hm : s.fare.meter = .stopped) (ht : s.fare.trip = some t)
    (h : StoreTakesGroups s) (hq : s.store.queue.length < 6) (hb : s.store.activity ≠ .idle)
    (hl : ListedAs listed t.number s) :
    meterClear s = (writeFarePage (closeLinked t.number (cleared t listed s)), .ok) := by
  rw [meterClear, hm, ht]
  simp only [listable_of_listedAs hl, offerGroup_close_joins h hq hb]
  rfl

theorem recordClose_keeps (t : Trip) (listed : Bool) (s : State) :
    (recordClose t listed s).link = s.link ∧ (recordClose t listed s).rx = s.rx ∧ (recordClose t listed s).tx = s.tx
      ∧ (recordClose t listed s).offers = s.offers ∧ (recordClose t listed s).fare = s.fare
      ∧ (recordClose t listed s).store = s.store ∧ (recordClose t listed s).msg = s.msg
      ∧ (recordClose t listed s).emerg = s.emerg ∧ (recordClose t listed s).pending = s.pending
      ∧ (recordClose t listed s).trips = { s.trips with
          totals := s.trips.totals.addTrip t, shift := shiftAfter t s, lastClosedNumber := t.number
          uploads := if listed then s.trips.uploads ++ [⟨closedRecord t listed s, false⟩] else s.trips.uploads
          lastClosed := some (closedRecord t listed s) } := by
  unfold recordClose
  cases listed <;> simp [closedRecord]

theorem recordClose_port (t : Trip) (listed : Bool) {s v : State} (h : s.port = (counted v).port) :
    (recordClose t listed s).port = (counted (closeSaid listed t.number v)).port := by
  unfold recordClose closeSaid
  cases listed with
  | true => exact raise_port_counted h
  | false => exact raise_port_counted (raise_port_counted h)

theorem closeSaid_keeps (listed : Bool) (n : Nat) (s : State) :
    (closeSaid listed n s).port.requestCount = s.port.requestCount := by
  unfold closeSaid
  cases listed <;> simp

theorem cleared_touches (t : Trip) (listed : Bool) (s : State) :
    OnlyTouches [.offers, .fare, .trips, .store, .port] s (cleared t listed s) := by
  refine ⟨by simp [cleared, recordClose_keeps], fun b => ?_⟩
  cases b <;> simp [Kept, cleared, recordClose_keeps]

/-- What the close leaves is what the statement of a close says, whatever becomes of the linked job. -/
theorem tripIsClosed_of {t : Trip} {listed : Bool} {s u : State} (hfare : u.fare = (cleared t listed (counted s)).fare)
    (htrips : u.trips = (cleared t listed (counted s)).trips) (hstore : u.store = (cleared t listed (counted s)).store) :
    TripIsClosed listed t s u := by
  rw [TripIsClosed, hfare, htrips, hstore]
  refine ⟨by simp [cleared], by simp [cleared], by simp [cleared, recordClose_keeps],
    by simp [cleared, recordClose_keeps, shiftAfter], by simp [cleared, recordClose_keeps],
    by simp [cleared, recordClose_keeps], closedRecord t listed s, ?_⟩
  cases listed <;> simp [cleared, recordClose_keeps, closedRecord, tripRecordOf, closing, closeGroup, shiftAfter]

/-! ## The linked job (R78) -/

theorem closeLinked_none {n : Nat} {s : State}
    (h : ∀ e ∈ s.offers.table, e.linkedTrip = some n → e.state = .withdrawn ∨ e.state = .lost) : closeLinked n s = s := by
  have hnone : s.offers.table.find? (fun e => e.linkedTrip == some n && e.state.isJobHeld) = none := by
    rw [List.find?_eq_none]
    intro e he hc
    simp only [Bool.and_eq_true, beq_iff_eq] at hc
    obtain hs | hs := h e he hc.1 <;> simp [hs, OfferState.isJobHeld] at hc
  rw [closeLinked, hnone]

theorem closeLinked_held {n : Nat} {o : OfferEntry} {s : State} (hl : Listed o s) (ho : o.linkedTrip = some n)
    (hone : ∀ e ∈ s.offers.table, e.linkedTrip = some n → e = o)
    (hs : o.state = .accepting ∨ o.state = .held ∨ o.state = .heldUnconfirmed) :
    closeLinked n s = updateOffer o.id (fun e => { e with state := .done }) s := by
  have hheld : o.state.isJobHeld = true := by
    obtain h | h | h := hs <;> simp [h, OfferState.isJobHeld]
  have hfind : s.offers.table.find? (fun e => e.linkedTrip == some n && e.state.isJobHeld) = some o := by
    cases hf : s.offers.table.find? (fun e => e.linkedTrip == some n && e.state.isJobHeld) with
    | none => exact absurd (List.find?_eq_none.1 hf o hl.1) (by simp [ho, hheld])
    | some e =>
      have hp := List.find?_some hf
      simp only [Bool.and_eq_true, beq_iff_eq] at hp
      rw [hone e (List.mem_of_find?_eq_some hf) hp.1]
  rw [closeLinked, hfind]

/-! ## The statements -/

theorem meterClearTreatsTheLinkedJob : MeterClearTreatsTheLinkedJob := by
  intro listed trip s hs hm ht htakes hq hb hl
  have ho := meterClear_joined (s := counted s) hm ht htakes hq hb hl
  have hport : (cleared trip listed (counted s)).port = (counted (closeSaid listed trip.number s)).port :=
    recordClose_port trip listed (s := { counted s with
      store := { s.store with queue := s.store.queue ++ [closing trip listed (counted s)] } }) rfl
  have hoffers : (cleared trip listed (counted s)).offers = { s.offers with idleMinutes := 0 } := by
    simp [cleared, recordClose_keeps]
  have hmsg : (cleared trip listed (counted s)).msg = s.msg :=
    by simp [cleared, recordClose_keeps]
  have htouch := (cleared_touches trip listed (counted s)).widen (more := [.offers, .fare, .trips, .store, .msg, .port])
    (by simp)
  constructor
  · intro hnone
    rw [closeLinked_none (by rw [hoffers]; exact hnone)] at ho
    refine completes_plain rfl hs ho ⟨tripIsClosed_of (by simp) (by simp) (by simp), by simp [hoffers],
      justAnswered_after _ _ ((writeFarePage_port _).trans (raise_port_counted hport)) (by simp [closeSaid_keeps]),
      onlyTouches_request (by simp) _ _ _ (htouch.trans ((writeFarePage_touches _).widen (by simp))), by simp [hmsg]⟩
  · intro o hlo hlink hone hstate hheld
    have hlo' : Listed o (cleared trip listed (counted s)) := listed_congr (by rw [hoffers]) hlo
    have hdone : stopTimers { o with state := .done } =
        { o with state := .done, awardTimer := none, acceptTimer := none } := by
      simp [stopTimers]
    rw [closeLinked_held hlo' hlink (by rw [hoffers]; exact hone) hstate] at ho
    have hafter := updateOffer_offers hlo' (f := fun e => { e with state := .done }) hdone
    have htouched := updateOffer_touches o.id (fun e => { e with state := .done }) (cleared trip listed (counted s))
    have hkept_fare : _ = (cleared trip listed (counted s)).fare := htouched.kept (b := .fare) (by simp)
    have hkept_trips : _ = (cleared trip listed (counted s)).trips := htouched.kept (b := .trips) (by simp)
    have hkept_store : _ = (cleared trip listed (counted s)).store := htouched.kept (b := .store) (by simp)
    have hsaid : (updateOffer o.id (fun e => { e with state := .done }) (cleared trip listed (counted s))).port =
        (counted (raise .offerChanged (.offer o.id) (closeSaid listed trip.number s))).port := by
      rw [updateOffer_port hlo' hdone, if_neg]
      · exact raise_port_counted hport
      · obtain h | h | h := hstate <;> simp [h]
    refine completes_plain rfl hs ho ⟨tripIsClosed_of ?_ ?_ ?_, ?_,
      justAnswered_after _ _ ((writeFarePage_port _).trans (raise_port_counted hsaid)) (by simp [closeSaid_keeps]),
      onlyTouches_request (by simp) _ _ _
        (htouch.trans ((htouched.widen (by simp)).trans ((writeFarePage_touches _).widen (by simp)))), by simp [hmsg]⟩
    · simpa using hkept_fare
    · simpa using hkept_trips
    · simpa using hkept_store
    · simp [hafter, hoffers, tableWith, heldAfter, OfferState.isJobHeld, hheld]

theorem meterClear_refused {t : Trip} {s : State} (hm : s.fare.meter = .stopped) (ht : s.fare.trip = some t)
    (h : StoreTakesGroups s) (hq : 6 ≤ s.store.queue.length) : meterClear s = (s, .storeBusy) := by
  rw [meterClear, hm, ht]
  simp only [offerGroup_full _ _ h (no_waiting_checkpoint (k := .close t.number (listable t.number s)) (by simp) _) hq]

theorem meterClear_fault {t : Trip} {s : State} (hm : s.fare.meter = .stopped) (ht : s.fare.trip = some t)
    (h : ¬ StoreTakesGroups s) : meterClear s = (s, .storeFault) := by
  rw [meterClear, hm, ht]
  simp only [offerGroup_fault _ _ (Nat.lt_of_not_le h)]

theorem meterClearClosesTheTrip : MeterClearClosesTheTrip := by
  intro trip s hs hm ht
  refine ⟨fun htakes hq hb hlen hnew hnolink => ?_,
    fun htakes hq => completes_plain rfl hs (meterClear_refused (s := counted s) hm ht htakes hq)
      (nothingBut_respond s _ _),
    fun htakes => completes_plain rfl hs (meterClear_fault (s := counted s) hm ht htakes) (nothingBut_respond s _ _)⟩
  have ho := meterClear_joined (listed := true) (s := counted s) hm ht htakes hq hb ⟨hlen, hnew⟩
  have hoffers : (cleared trip true (counted s)).offers = { s.offers with idleMinutes := 0 } := by
    simp [cleared, recordClose_keeps]
  rw [closeLinked_none (by rw [hoffers]; exact fun e he hl => absurd hl (hnolink e he))] at ho
  have htouch := (cleared_touches trip true (counted s)).widen (more := [.offers, .fare, .trips, .store, .msg, .port])
    (by simp)
  have hcount : (cleared trip true (counted s)).port.requestCount = wrapInc 255 s.port.requestCount := by
    simp [cleared, recordClose]
  refine completes_plain rfl hs ho ⟨answered_respond _ _ ?_, by simp [cleared], by simp [cleared], by simp [cleared],
    by simp [cleared, recordClose_keeps], by simp [cleared, recordClose_keeps], by simp [hoffers],
    by simp [cleared, recordClose_keeps], by simp [cleared, recordClose_keeps, shiftAfter],
    by simp [cleared, recordClose_keeps], by simp [cleared, recordClose_keeps],
    ⟨closedRecord trip true s, ?_⟩,
    onlyTouches_request (by simp) _ _ _ (htouch.trans ((writeFarePage_touches _).widen (by simp))),
    by simp [cleared, recordClose_keeps]⟩
  · rw [writeFarePage_port]
    simpa using hcount
  · simp [cleared, recordClose_keeps, closedRecord, tripRecordOf, closing, closeGroup, shiftAfter]

theorem meterClearNeedsAStoppedMeter : MeterClearNeedsAStoppedMeter := by
  intro s hs hm
  refine completes_plain rfl hs ?_ (nothingBut_respond s _ _)
  unfold meterClear
  split
  next h _ => exact absurd h hm
  · rfl

/-- Settles O18. -/
theorem meterClearFollowsItsGroup : Obligations.MeterClearFollowsItsGroup :=
  ⟨meterClearClosesTheTrip, meterClearTreatsTheLinkedJob, meterClearNeedsAStoppedMeter⟩

end Sys2Proof.Claims
end

section
/-! SUPPORT. What joins the pending queue without a presentation (R41), and what is taken out of it or asked back for an entry of
the offer table (R46, R50, R51, R68, R70, R75). -/

namespace Sys2Proof.Claims

open Sys2Proof.Machine

/-! ## Joining quietly -/

/-- The state with an entry joined, WAITING with no attempt made. -/
def joined (e : PendEntry) (s : State) : State :=
  { s with
    nextUid := s.nextUid + 1
    tx := { s.tx with
      queue := s.tx.queue ++ [{ e with uid := s.nextUid, state := .waiting, attempts := 0, seq := none }] } }

@[simp] theorem joined_keeps (e : PendEntry) (s : State) :
    (joined e s).link = s.link ∧ (joined e s).rx = s.rx ∧ (joined e s).offers = s.offers ∧ (joined e s).fare = s.fare
      ∧ (joined e s).trips = s.trips ∧ (joined e s).store = s.store ∧ (joined e s).msg = s.msg
      ∧ (joined e s).emerg = s.emerg ∧ (joined e s).port = s.port ∧ (joined e s).elapsed = s.elapsed
      ∧ (joined e s).pending = s.pending := by
  simp [joined]

theorem joined_touches (e : PendEntry) (s : State) : OnlyTouches [.tx] s (joined e s) :=
  ⟨rfl, fun b => by cases b <;> simp [Kept]⟩

theorem quiescent_of_busy {s : State} (hi : s.link.side = .idle) (hc : s.link.carrier = true) : Quiescent s :=
  .inr (.inr (.inr ⟨hi, by simp [channelFree, hc]⟩))

/-- An entry with room in the queue, whose class the link state does not refuse, joins a quiescent part. -/
theorem offerEntry_quiet {e : PendEntry} {s : State} (hlen : s.tx.queue.length < 20)
    (hord : (s.tx.queue.filter fun e => !e.isEmergency).length < 18) (hq : Quiescent s)
    (hl : refusedLink s.link.state e.cls = false) : offerEntry e s = (joined e s, .joined s.nextUid) := by
  rw [offerEntry_joins e (refusedFull_eq_false hlen hord) hl, joinEntry_quiescent e hq]
  rfl

theorem offerEntry_reply_quiet {id : OfferId} {p : TxPayload} {s : State} (h : ReplyJoinsQuietly s) :
    offerEntry (replyEntry id p s) s = (joined (replyEntry id p s) s, .joined s.nextUid) := by
  obtain ⟨hlen, hord, hi, hc⟩ := h
  exact offerEntry_quiet hlen hord (quiescent_of_busy hi hc) rfl

theorem replyJoined_joined {id : OfferId} {p : TxPayload} {s t : State} (h : t.tx = (joined (replyEntry id p s) s).tx) :
    ReplyJoined p id.base s t :=
  ⟨_, h, rfl, rfl, rfl, rfl, rfl, rfl, rfl⟩

/-! ## The held-job reference (R63) -/

theorem heldAfter_jobHeld {id : OfferId} {st : OfferState} (h : st.isJobHeld = true) (held : Option OfferId) :
    heldAfter id st held = some id := by
  simp [heldAfter, h]

theorem heldAfter_free {id : OfferId} {st : OfferState} (h : st.isJobHeld = false) (held : Option OfferId) :
    heldAfter id st held = if held = some id then none else held := by
  simp [heldAfter, h]

/-- Two changes of an entry give the reference of the last, when the first state held no job or the reference named it. -/
theorem heldAfter_heldAfter {id : OfferId} {a b : OfferState} {held : Option OfferId}
    (h : a.isJobHeld = false ∨ held = some id) : heldAfter id b (heldAfter id a held) = heldAfter id b held := by
  unfold heldAfter
  obtain h | h := h
  · split
    · rfl
    · split <;> simp_all
  · subst h
    split
    · rfl
    · split <;> simp

/-- Two changes of an entry, the first of which leaves its state: the entry and the notice are those of the second. -/
theorem updateOffer_twice {o o1 o2 : OfferEntry} {f g : OfferEntry → OfferEntry} {s u : State} (hl : Listed o s)
    (hf : stopTimers (f o) = o1) (hid : o1.id = o.id) (hst : o1.state = o.state) (hg : stopTimers (g o1) = o2)
    (hh : o.state.isJobHeld = false ∨ s.offers.heldJob = some o.id) (ho : u.offers = (updateOffer o.id f s).offers)
    (hp : u.port = (updateOffer o.id f s).port) :
    (updateOffer o.id g u).offers =
        { s.offers with table := tableWith o o2 s, heldJob := heldAfter o.id o2.state s.offers.heldJob }
      ∧ (updateOffer o.id g u).port =
        if o2.state = o.state then s.port else (raise .offerChanged (.offer o.id) s).port := by
  rw [updateOffer_offers hl hf] at ho
  rw [updateOffer_port hl hf, if_pos hst] at hp
  have hl1 : Listed o1 u := listed_tableWith hl (by rw [ho]) hid
  have htable := tableWith_tableWith (o := o) (o' := o1) (o'' := o2) (s := s) (t := u) (by rw [ho]) hid
  have h2 := updateOffer_offers hl1 hg
  have p2 := updateOffer_port hl1 hg
  rw [hid] at h2 p2
  constructor
  · rw [h2, htable, ho, hst, heldAfter_heldAfter hh]
  · rw [p2, hp, hst]
    exact if_congr Iff.rfl rfl (raise_port _ _ _ _ hp)

/-! ## A REFUSE for an own entry (R77, R78, R79) -/

/-- The entry as it is refused. -/
def refusedFor (r : RefuseReason) (f : Option QueuedFrame) (o : OfferEntry) : OfferEntry :=
  { o with
    state := .refused, reason := some (.refusal r), awardTimer := none, acceptTimer := none, replyFrame := f }

/-- What a change of an entry leaves, `v` being the state with its frame sent or taken out: the offer engine, the port and the
frame. -/
structure OfferMoved (o o' : OfferEntry) (v s t : State) : Prop where
  offers : t.offers = { s.offers with table := tableWith o o' s, heldJob := heldAfter o.id o'.state s.offers.heldJob }
  port : t.port = if o'.state = o.state then s.port else (raise .offerChanged (.offer o.id) s).port
  touches : OnlyTouches [.offers, .msg, .port] v t
  queue : t.msg.queue = s.msg.queue

/-- The REFUSE joins: the entry names it (R75, R76). -/
theorem refuseOwn_joins {o : OfferEntry} {r : RefuseReason} {s : State} (hl : Listed o s) (hq : ReplyJoinsQuietly s)
    (hh : o.state.isJobHeld = false ∨ s.offers.heldJob = some o.id) :
    OfferMoved o (refusedFor r (some ⟨s.nextUid, none⟩) o) (joined (replyEntry o.id (.refuse o.id r) s) s) s
      (refuseOwn o.id r s) := by
  generalize hv : joined (replyEntry o.id (.refuse o.id r) s) s = v
  have hvo : v.offers = s.offers := by rw [← hv]; simp
  have hvp : v.port = s.port := by rw [← hv]; simp
  have hvm : v.msg = s.msg := by rw [← hv]; simp
  have hrefuse : refuseOwn o.id r s =
      updateOffer o.id (fun e => { e with state := .refused, reason := some (.refusal r) })
        (updateOffer o.id (fun e => { e with replyFrame := some ⟨s.nextUid, none⟩ }) v) := by
    simp only [refuseOwn, offerRefuse, offerEntry_reply_quiet hq, hv]
  obtain ⟨hoffers, hport⟩ := updateOffer_twice (o2 := refusedFor r (some ⟨s.nextUid, none⟩) o)
    (f := fun e => { e with replyFrame := some ⟨s.nextUid, none⟩ })
    (g := fun e => { e with state := .refused, reason := some (.refusal r) }) (listed_congr (by rw [hvo]) hl) rfl rfl rfl
    (by simp [stopTimers, refusedFor]) (by rwa [hvo]) rfl rfl
  rw [hrefuse]
  refine ⟨?_, ?_, (updateOffer_touches _ _ _).trans (updateOffer_touches _ _ _), by simp [hvm]⟩
  · rw [hoffers, hvo, tableWith_congr (s := s) (t := v) (by rw [hvo])]
  · rw [hport, hvp]
    exact if_congr Iff.rfl rfl (raise_port _ _ _ _ hvp)

/-- The queue is full: the REFUSE is not sent, and the entry is refused all the same (R42). -/
theorem refuseOwn_full {o : OfferEntry} {r : RefuseReason} {s : State} (hl : Listed o s) (hq : 20 ≤ s.tx.queue.length) :
    OfferMoved o (refusedFor r o.replyFrame o) s s (refuseOwn o.id r s) := by
  have hf : stopTimers { o with state := .refused, reason := some (.refusal r) } = refusedFor r o.replyFrame o := by
    simp [stopTimers, refusedFor]
  have hrefuse : refuseOwn o.id r s =
      updateOffer o.id (fun e => { e with state := .refused, reason := some (.refusal r) }) s := by
    simp only [refuseOwn, offerRefuse, offerEntry_full _ (.inl hq)]
  rw [hrefuse]
  exact ⟨updateOffer_offers hl hf, updateOffer_port hl hf, updateOffer_touches _ _ _, by simp⟩

/-! ## An entry taken out of the pending queue, or asked back (R46, R50, R51) -/

/-- The state with an entry taken out of the queue; one held for its wait leaves the link controller IDLE (R8, R50). -/
def takenOut (b : PendEntry) (s : State) : State :=
  { s with
    link := if b.state = .deferring then { s.link with side := .idle, deferral := none } else s.link
    tx := { s.tx with queue := s.tx.queue.filter fun a => a.uid != b.uid } }

@[simp] theorem takenOut_keeps (b : PendEntry) (s : State) :
    (takenOut b s).rx = s.rx ∧ (takenOut b s).offers = s.offers ∧ (takenOut b s).fare = s.fare
      ∧ (takenOut b s).trips = s.trips ∧ (takenOut b s).store = s.store ∧ (takenOut b s).msg = s.msg
      ∧ (takenOut b s).emerg = s.emerg ∧ (takenOut b s).port = s.port ∧ (takenOut b s).nextUid = s.nextUid
      ∧ (takenOut b s).elapsed = s.elapsed ∧ (takenOut b s).pending = s.pending := by
  simp [takenOut]

theorem takenOut_touches (b : PendEntry) (s : State) : OnlyTouches [.link, .tx] s (takenOut b s) :=
  ⟨rfl, fun c => by cases c <;> simp [Kept]⟩

theorem takenOut_waiting {b : PendEntry} (h : b.state ≠ .deferring) (s : State) :
    takenOut b s = { s with tx := { s.tx with queue := s.tx.queue.filter fun a => a.uid != b.uid } } := by
  simp [takenOut, h]

theorem takenOut_waiting_touches {b : PendEntry} (h : b.state ≠ .deferring) (s : State) :
    OnlyTouches [.tx] s (takenOut b s) := by
  rw [takenOut_waiting h]
  exact ⟨rfl, fun c => by cases c <;> simp [Kept]⟩

/-- What is touched apart from the link controller and the queue stays what is touched once the entry is out. -/
theorem takenOut_mono {b : PendEntry} {may : List Block} {s t : State} (hl : .link ∉ may) (hx : .tx ∉ may)
    (h : OnlyTouches may s t) : OnlyTouches may (takenOut b s) (takenOut b t) := by
  have hlink : t.link = s.link := h.kept hl
  have htx : t.tx = s.tx := h.kept hx
  refine ⟨h.1, fun c => (h.2 c).imp id fun hc => ?_⟩
  cases c with
  | link => simp only [Kept, takenOut, hlink]
  | tx => simp only [Kept, takenOut, htx]
  | _ => exact hc

theorem removeUnkeyed_eq (b : PendEntry) (o : TxOutcome) (r : Bool) (s : State) :
    removeUnkeyed b o r s = report ⟨b, o, r⟩ (takenOut b s) := by
  unfold removeUnkeyed finishEntry takenOut
  split <;> rfl

theorem findEntry_uid {u : Nat} {b : PendEntry} {s : State} (h : findEntry u s = some b) : b.uid = u := by
  simpa using List.find?_some h

theorem findEntry_mem {u : Nat} {b : PendEntry} {s : State} (h : findEntry u s = some b) : b ∈ s.tx.queue :=
  List.mem_of_find?_eq_some h

theorem findEntry_congr {u : Nat} {s t : State} (h : t.tx.queue = s.tx.queue) : findEntry u t = findEntry u s := by
  rw [findEntry, h, findEntry]

/-- An entry that is not in an exchange comes back at once (R50). -/
theorem retract_unkeyed {u : Nat} {b : PendEntry} {s : State} (h : findEntry u s = some b)
    (hs : b.state = .waiting ∨ b.state = .deferring) : retract u s = report ⟨b, .retracted, true⟩ (takenOut b s) := by
  rw [retract, h]
  obtain hs | hs := hs <;> simp only [hs, removeUnkeyed_eq]

/-- An entry in an exchange is asked back at its end (R51). -/
theorem retract_keyed {u : Nat} {b : PendEntry} {s : State} (h : findEntry u s = some b)
    (hs : b.state = .onAir ∨ b.state = .awaitLack) :
    retract u s = updateEntry u (fun e => { e with state := .retractPending }) s := by
  rw [retract, h]
  obtain hs | hs := hs <;> simp only [hs]

theorem retract_pending {u : Nat} {b : PendEntry} {s : State} (h : findEntry u s = some b)
    (hs : b.state = .retractPending) : retract u s = s := by
  rw [retract, h]
  simp only [hs]

/-! ## The frames of an offer entry (R60) -/

theorem offerOfFrame_owned {o : OfferEntry} {u : Nat} {s : State} (hl : Listed o s) (hown : OwnsFrame o u s)
    (hu : (o.bidFrame.any (·.uid == u) || o.replyFrame.any (·.uid == u)) = true) : offerOfFrame u s = some o := by
  unfold offerOfFrame
  cases hf : s.offers.table.find? fun e => e.bidFrame.any (·.uid == u) || e.replyFrame.any (·.uid == u) with
  | none => exact absurd hu (List.find?_eq_none.1 hf o hl.1)
  | some a =>
    have hp := List.find?_some (p := fun e : OfferEntry => e.bidFrame.any (·.uid == u) || e.replyFrame.any (·.uid == u)) hf
    rw [hown a (List.mem_of_find?_eq_some hf) hp]

theorem ownsFrame_tableWith {o o' : OfferEntry} {u : Nat} {s t : State} (h : OwnsFrame o u s)
    (ht : t.offers.table = tableWith o o' s) : OwnsFrame o' u t := by
  intro a ha hu
  rw [ht] at ha
  obtain ⟨b, hb, hab⟩ := List.mem_map.1 ha
  split at hab
  · exact hab.symm
  next hid =>
    subst hab
    exact absurd (congrArg OfferEntry.id (h b hb hu)) hid

theorem ownsFrame_congr {o : OfferEntry} {u : Nat} {s t : State} (h : t.offers.table = s.offers.table)
    (ho : OwnsFrame o u s) : OwnsFrame o u t := by
  rw [OwnsFrame, h]
  exact ho

/-- The result of an entry's BID goes to the entry (R68). -/
theorem report_bid {o : OfferEntry} {b : PendEntry} {s : State} (out : TxOutcome) (r : Bool) (hl : Listed o s)
    (hown : OwnsFrame o b.uid s) (hf : o.bidFrame.any (·.uid == b.uid) = true) (hb : b.owner = .offerEngine) :
    report ⟨b, out, r⟩ s = updateOffer o.id (bidResult s.offers.awardTimeout out) s := by
  simp only [report, hb, offerResult, offerOfFrame_owned hl hown (by simp [hf]), hf, if_true]

/-- The result of an entry's ACCEPT or REFUSE goes to the entry (R75, R76). -/
theorem report_reply {o : OfferEntry} {b : PendEntry} {s : State} (out : TxOutcome) (r : Bool) (hl : Listed o s)
    (hown : OwnsFrame o b.uid s) (hn : o.bidFrame = none) (hf : o.replyFrame.any (·.uid == b.uid) = true)
    (hb : b.owner = .offerEngine) :
    report ⟨b, out, r⟩ s = updateOffer o.id (replyResult (b.payload.kind == .accept) out) s := by
  simp only [report, hb, offerResult, offerOfFrame_owned hl hown (by simp [hf]), hn, Option.any_none,
    Bool.false_eq_true, if_false]

/-! ## A BID asked back (R70) -/

theorem retractBid_eq {o : OfferEntry} {f : QueuedFrame} {s : State} (why : RetractReason) (hl : Listed o s)
    (hf : o.bidFrame = some f) :
    retractBid why o.id s =
      retract f.uid (updateOffer o.id (fun e => { e with bidFrame := e.bidFrame.map (recordReason why) }) s) := by
  simp [retractBid, findOffer_of_listed hl, hf]

theorem recordReason_uid (why : RetractReason) (f : QueuedFrame) : (recordReason why f).uid = f.uid := by
  unfold recordReason
  split <;> rfl

/-- An entry with the reason of a retraction recorded for its BID. -/
def asking (why : RetractReason) (o : OfferEntry) : OfferEntry :=
  stopTimers { o with bidFrame := o.bidFrame.map (recordReason why) }

/-- A BID that is not in an exchange leaves the queue, and its entry moves by the reason recorded (R50, R70). -/
theorem retractBid_unkeyed {o : OfferEntry} {b : PendEntry} {r : Option RetractReason} {s : State} (why : RetractReason)
    (hl : Listed o s) (hf : o.bidFrame = some ⟨b.uid, r⟩) (hown : OwnsFrame o b.uid s) (hb : findEntry b.uid s = some b)
    (ho : b.owner = .offerEngine) (hs : b.state = .waiting ∨ b.state = .deferring)
    (hh : o.state.isJobHeld = false ∨ s.offers.heldJob = some o.id) :
    OfferMoved o (stopTimers (bidResult s.offers.awardTimeout .retracted (asking why o))) (takenOut b s) s
      (retractBid why o.id s) := by
  generalize hv : updateOffer o.id (fun e => { e with bidFrame := e.bidFrame.map (recordReason why) }) s = v
  have hoffers := updateOffer_offers hl (f := fun e => { e with bidFrame := e.bidFrame.map (recordReason why) }) rfl
  have hpart := updateOffer_touches o.id (fun e => { e with bidFrame := e.bidFrame.map (recordReason why) }) s
  have hmsg := (updateOffer_msg o.id (fun e => { e with bidFrame := e.bidFrame.map (recordReason why) }) s).1
  rw [hv] at hoffers hpart hmsg
  have hlink : v.link = s.link := hpart.kept (b := .link) (by simp)
  have htx : v.tx = s.tx := hpart.kept (b := .tx) (by simp)
  have htable : (takenOut b v).offers.table = tableWith o (asking why o) s := by
    simp only [takenOut_keeps, hoffers, asking]
  have hlv : Listed (asking why o) (takenOut b v) := listed_tableWith hl htable rfl
  have hretract : retractBid why o.id s =
      updateOffer o.id (bidResult s.offers.awardTimeout .retracted) (takenOut b v) := by
    have hown' : OwnsFrame (asking why o) b.uid (takenOut b v) := ownsFrame_tableWith hown htable
    have htimeout : (takenOut b v).offers.awardTimeout = s.offers.awardTimeout := by simp [hoffers]
    have hreport := report_bid .retracted true hlv hown' (by simp [asking, stopTimers, hf, recordReason_uid]) ho
    rw [htimeout] at hreport
    refine (retractBid_eq why hl hf).trans ?_
    rw [hv]
    exact (retract_unkeyed ((findEntry_congr (by rw [htx])).trans hb) hs).trans hreport
  obtain ⟨hmoved, hport⟩ := updateOffer_twice (u := takenOut b v) (o1 := asking why o)
    (f := fun e => { e with bidFrame := e.bidFrame.map (recordReason why) })
    (g := bidResult s.offers.awardTimeout .retracted) hl rfl rfl rfl rfl hh (by simp [hv]) (by simp [hv])
  rw [hretract]
  refine ⟨hmoved, hport, (takenOut_mono (by simp) (by simp) hpart).trans (updateOffer_touches _ _ _), by simp [hmsg]⟩

/-- The queue with an entry's retraction asked for its exchange's end (R51). -/
def askedBack (u : Nat) (q : List PendEntry) : List PendEntry :=
  q.map fun a => if a.uid = u then { a with state := .retractPending } else a

theorem updateWhere_askedBack (u : Nat) (q : List PendEntry) :
    updateWhere (fun e => e.uid == u) (fun e => { e with state := .retractPending }) q = askedBack u q := by
  simp [updateWhere, askedBack]

/-- A BID in an exchange stays until its end, its entry keeping its state with the reason recorded (R51, R70). -/
theorem retractBid_keyed {o : OfferEntry} {b : PendEntry} {r : Option RetractReason} {s : State} (why : RetractReason)
    (hl : Listed o s) (hf : o.bidFrame = some ⟨b.uid, r⟩) (hb : findEntry b.uid s = some b)
    (hs : b.state = .onAir ∨ b.state = .awaitLack) :
    (retractBid why o.id s).offers =
        { s.offers with table := tableWith o (asking why o) s, heldJob := heldAfter o.id o.state s.offers.heldJob }
      ∧ (retractBid why o.id s).tx = { s.tx with queue := askedBack b.uid s.tx.queue }
      ∧ OnlyTouches [.tx, .offers, .msg] s (retractBid why o.id s)
      ∧ (retractBid why o.id s).msg.queue = s.msg.queue := by
  generalize hv : updateOffer o.id (fun e => { e with bidFrame := e.bidFrame.map (recordReason why) }) s = v
  have hoffers := updateOffer_offers hl (f := fun e => { e with bidFrame := e.bidFrame.map (recordReason why) }) rfl
  have hpart := updateOffer_touches_of_state hl (f := fun e => { e with bidFrame := e.bidFrame.map (recordReason why) }) rfl
  have hmsg := (updateOffer_msg o.id (fun e => { e with bidFrame := e.bidFrame.map (recordReason why) }) s).1
  rw [hv] at hoffers hpart hmsg
  have htx : v.tx = s.tx := hpart.kept (b := .tx) (by simp)
  have hretract : retractBid why o.id s = updateEntry b.uid (fun e => { e with state := .retractPending }) v := by
    refine (retractBid_eq why hl hf).trans ?_
    rw [hv]
    exact retract_keyed ((findEntry_congr (by rw [htx])).trans hb) hs
  rw [hretract]
  refine ⟨by simp [hoffers, asking, stopTimers], ?_,
    (hpart.widen (by simp)).trans ((updateEntry_touches _ _ _).widen (by simp)), by simp [hmsg]⟩
  rw [updateEntry_tx, htx, updateWhere_askedBack]

/-- A BID whose retraction was asked already: the reason alone is recorded (R51, R70). -/
theorem retractBid_pending {o : OfferEntry} {b : PendEntry} {r : Option RetractReason} {s : State} (why : RetractReason)
    (hl : Listed o s) (hf : o.bidFrame = some ⟨b.uid, r⟩) (hb : findEntry b.uid s = some b) (hs : b.state = .retractPending) :
    OnlyTouches [.offers, .msg] s (retractBid why o.id s) := by
  have hpart := updateOffer_touches_of_state hl (f := fun e => { e with bidFrame := e.bidFrame.map (recordReason why) }) rfl
  have htx : (updateOffer o.id (fun e => { e with bidFrame := e.bidFrame.map (recordReason why) }) s).tx = s.tx :=
    hpart.kept (b := .tx) (by simp)
  have hretract : retractBid why o.id s =
      updateOffer o.id (fun e => { e with bidFrame := e.bidFrame.map (recordReason why) }) s :=
    (retractBid_eq why hl hf).trans (retract_pending ((findEntry_congr (by rw [htx])).trans hb) hs)
  rw [hretract]
  exact hpart

end Sys2Proof.Claims
end

section
/-! SUPPORT. A treatment of the offer entries in table order, one change each (R78, R79). -/

namespace Sys2Proof.Claims

open Sys2Proof.Machine

/-- The entry of an id that stands once in a list that the entry splits. -/
theorem listed_of_split {o : OfferEntry} {before after : List OfferEntry} {s : State}
    (h : s.offers.table = before ++ o :: after) (hn : EachOfferOnce s) : Listed o s := by
  refine ⟨by simp [h], fun a ha hid => ?_⟩
  exact List.inj_on_of_nodup_map hn ha (by simp [h]) hid

theorem tableWith_split {o o' : OfferEntry} {before after : List OfferEntry} {s : State}
    (h : s.offers.table = before ++ o :: after) (hn : EachOfferOnce s) :
    tableWith o o' s = before ++ o' :: after := by
  rw [EachOfferOnce, h, List.map_append, List.map_cons, List.nodup_append] at hn
  obtain ⟨-, hafter, hbefore⟩ := hn
  rw [List.nodup_cons] at hafter
  have hb : before.map (fun a => if a.id = o.id then o' else a) = before := by
    rw [List.map_congr_left (g := id), List.map_id]
    intro a ha
    exact if_neg (hbefore a.id (List.mem_map_of_mem ha) o.id (by simp))
  have ha : after.map (fun a => if a.id = o.id then o' else a) = after := by
    rw [List.map_congr_left (g := id), List.map_id]
    intro a ha
    refine if_neg fun hid => hafter.1 ?_
    rw [← hid]
    exact List.mem_map_of_mem ha
  rw [tableWith, h, List.map_append, List.map_cons, hb, ha, if_pos rfl]

/-- A treatment that gives each entry its changed form, one after another, gives the whole table its changed forms. -/
theorem foldl_treats {g : State → OfferEntry → State} {f : OfferEntry → OfferEntry} {held : Option OfferId}
    (hid : ∀ o, (f o).id = o.id) (l : List OfferEntry)
    (hg : ∀ o ∈ l, ∀ s, Listed o s → s.offers.heldJob = held →
      (g s o).offers = { s.offers with table := tableWith o (f o) s }) :
    ∀ (treated : List OfferEntry) (s : State), s.offers.table = treated ++ l → EachOfferOnce s → s.offers.heldJob = held →
      (l.foldl g s).offers = { s.offers with table := treated ++ l.map f } := by
  induction l with
  | nil => intro treated s ht _ _; simp [← ht]
  | cons o l ih =>
    intro treated s ht hn hh
    have hstep := hg o (by simp) s (listed_of_split ht hn) hh
    rw [tableWith_split ht hn] at hstep
    have hnodup : EachOfferOnce (g s o) := by
      rw [EachOfferOnce, ht] at hn
      rw [EachOfferOnce, hstep]
      simpa [hid] using hn
    rw [List.foldl_cons, ih (fun a ha => hg a (by simp [ha])) (treated ++ [f o]) (g s o) (by simp [hstep]) hnodup
      (by simp [hstep, hh])]
    simp [hstep]

/-- The same for a table treated from its first entry on. -/
theorem foldl_treats_table {g : State → OfferEntry → State} {f : OfferEntry → OfferEntry} {s : State}
    (hid : ∀ o, (f o).id = o.id)
    (hg : ∀ o ∈ s.offers.table, ∀ u, Listed o u → u.offers.heldJob = s.offers.heldJob →
      (g u o).offers = { u.offers with table := tableWith o (f o) u }) (hn : EachOfferOnce s) :
    (s.offers.table.foldl g s).offers = { s.offers with table := s.offers.table.map f } := by
  simpa using foldl_treats hid s.offers.table hg [] s rfl hn rfl

/-- An entry that stands as it is leaves the table as it is. -/
theorem tableWith_self {o : OfferEntry} {s : State} (h : Listed o s) : tableWith o o s = s.offers.table := by
  obtain ⟨-, hu⟩ := h
  rw [tableWith, List.map_congr_left (g := id), List.map_id]
  intro a ha
  split
  next hid => exact (hu a ha hid).symm
  · rfl

/-- A change that leaves the held-job reference as it stands. -/
theorem updateOffer_offers_of_held {o o' : OfferEntry} {s : State} (h : Listed o s) {f : OfferEntry → OfferEntry}
    (hf : stopTimers (f o) = o')
    (hh : if o'.state.isJobHeld then s.offers.heldJob = some o.id else s.offers.heldJob ≠ some o.id) :
    (updateOffer o.id f s).offers = { s.offers with table := tableWith o o' s } := by
  rw [updateOffer_offers h hf]
  split at hh
  next hheld => rw [heldAfter_jobHeld hheld, ← hh]
  next hfree => rw [heldAfter_free (by simpa using hfree), if_neg hh]

end Sys2Proof.Claims
end

section
/-! SUPPORT. METER_HIRE (R42, R70, R78, R87, R88, R107, R115). -/

namespace Sys2Proof.Claims

open Sys2Proof.Machine

/-! ## The hire -/

/-- The state with the trip formed, before the offers are treated (R87). -/
def hired (n : Nat) (f : Tariff) (s : State) : State :=
  { s with
    trips.lastTrip := wrapIncFromOne s.trips.lastTrip
    fare.meter := .hired
    fare.trip := some (newTrip (wrapIncFromOne s.trips.lastTrip) n f s)
    fare.progress := 0
    fare.incrementsSince := 0
    fare.intervalsSince := 0
    fare.checkpointOwed := false
    fare.opening := true
    fare.restored := false }

theorem meterHire_eq {n : Nat} {f : Tariff} {s : State} (hm : s.fare.meter = .vacant) (hf : tariffNo n s = some f)
    (ho : s.trips.shift.isOpen = true) (hr : StoreTakesGroups s) :
    meterHire n s =
      (writeFarePage (s.offers.table.foldl (hireOnOffer (nextTrip s)) (hired n f s)), .ok, .number (nextTrip s)) := by
  simp only [meterHire, hm, hf, ho, Nat.not_lt.2 hr]
  rfl

theorem hired_touches (n : Nat) (f : Tariff) (s : State) : OnlyTouches [.fare, .trips] s (hired n f s) :=
  ⟨rfl, fun b => by cases b <;> simp [Kept, hired]⟩

/-- The meter and the trip, after what leaves the fare as the hire made it. -/
theorem fare_hired {n : Nat} {f : Tariff} {s t : State} (h : t.fare = (hired n f (counted s)).fare) :
    t.fare.meter = .hired ∧ t.fare.trip = some (newTrip (nextTrip s) n f (counted s)) := by
  rw [h]
  exact ⟨rfl, rfl⟩

theorem tariffNo_of_getElem {n : Nat} {f : Tariff} {s : State} (h : 1 ≤ n) (hf : s.fare.tariffs[n - 1]? = some f) :
    tariffNo n s = some f := by
  rw [tariffNo, if_neg (by omega), hf]

theorem meterHireFormsATrip : MeterHireFormsATrip := by
  intro n f s hs hm h1 hf hopen htakes hempty
  have ho := meterHire_eq (s := counted s) hm (tariffNo_of_getElem h1 hf) hopen htakes
  rw [show (counted s).offers.table = [] from hempty, List.foldl_nil] at ho
  refine completes_request rfl hs ho ⟨answeredWithNotice_writeFarePage _ _ rfl, by simp [hired]; rfl, by simp [hired],
    by simp [hired], by simp [hired], by simp [hired], by simp [hired], by simp [hired], by simp [hired],
    ⟨newTrip (nextTrip s) n f s, by simp [hired]; rfl, ?_⟩, onlyTouches_request (by simp) _ _ _ ?_, by simp [hired],
    by simp [hired]⟩
  · simp [newTrip, jobForTrip, hempty, noFlags, nextTrip]
  · exact ((hired_touches n f _).widen (by simp)).trans ((writeFarePage_touches _).widen (by simp))

theorem meterHireRefusals : MeterHireRefusals := by
  intro n s hs
  refine ⟨fun hm => ?_, fun hm hn => ?_, fun hm h1 hn hshift => ?_, fun hm h1 hn hshift hr => ?_⟩
  · refine completes_unchanged rfl hs ?_
    rw [meterHire, if_pos (by exact hm)]
  · refine completes_unchanged rfl hs ?_
    rw [meterHire, if_neg (by simpa using hm), tariffNo_eq_none (s := counted s) hn]
  · obtain ⟨f, hf⟩ := tariffNo_eq_some (s := counted s) h1 hn
    refine completes_unchanged rfl hs ?_
    simp [meterHire, hm, hf, hshift]
  · obtain ⟨f, hf⟩ := tariffNo_eq_some (s := counted s) h1 hn
    have hfew : (rotation (counted s)).length < 3 := Nat.lt_of_not_le hr
    refine completes_unchanged rfl hs ?_
    simp [meterHire, hm, hf, hshift, hfew]

/-! ## The listed offers (R78) -/

theorem afterHire_id (n : Nat) (o : OfferEntry) : (afterHire n o).id = o.id := by
  unfold afterHire
  split <;> rfl

/-- One entry that sends nothing, as METER_HIRE treats it. -/
theorem hireOnOffer_offers {n : Nat} {o : OfferEntry} {s : State} (hl : Listed o s) (hs : SendsNothing o)
    (hh : s.offers.heldJob = some o.id ↔
      (o.state = .awarded ∨ o.state = .accepting ∨ o.state = .held ∨ o.state = .heldUnconfirmed)) :
    (hireOnOffer n s o).offers = { s.offers with table := tableWith o (afterHire n o) s } := by
  obtain ⟨hwait, hawarded⟩ := hs
  unfold hireOnOffer afterHire
  split
  next h => exact absurd h hwait
  next h => simpa [h] using updateOffer_offers_of_held hl (by simp [stopTimers]) (by simpa [OfferState.isJobHeld, h] using hh)
  next h => exact absurd h hawarded
  iterate 3
    next h => simpa [h] using updateOffer_offers_of_held hl (by simp [stopTimers, h]) (by simpa [OfferState.isJobHeld, h] using hh)
  all_goals
    next h => simp [h, tableWith_self hl]

theorem hireOnOffer_touches {n : Nat} {o : OfferEntry} {s : State} (hs : SendsNothing o) :
    OnlyTouches [.offers, .msg, .port] s (hireOnOffer n s o) ∧ (hireOnOffer n s o).msg.queue = s.msg.queue := by
  obtain ⟨hwait, hawarded⟩ := hs
  unfold hireOnOffer
  split
  next h => exact absurd h hwait
  next h => exact ⟨updateOffer_touches _ _ _, by simp⟩
  next h => exact absurd h hawarded
  iterate 3
    next h => exact ⟨updateOffer_touches _ _ _, by simp⟩
  all_goals exact ⟨onlyTouches_refl _ s, rfl⟩

/-- What each step of a treatment touches is what the treatment touches. -/
theorem foldl_touches {g : State → OfferEntry → State} {may : List Block} (l : List OfferEntry)
    (hg : ∀ o ∈ l, ∀ s, OnlyTouches may s (g s o) ∧ (g s o).msg.queue = s.msg.queue) (s : State) :
    OnlyTouches may s (l.foldl g s) ∧ (l.foldl g s).msg.queue = s.msg.queue := by
  induction l generalizing s with
  | nil => exact ⟨onlyTouches_refl _ s, rfl⟩
  | cons o l ih =>
    obtain ⟨htouch, hqueue⟩ := hg o (by simp) s
    obtain ⟨hrest, hrestq⟩ := ih (fun a ha => hg a (by simp [ha])) (g s o)
    exact ⟨htouch.trans hrest, hrestq.trans hqueue⟩

/-- The job a new trip takes: that of the entry the held-job reference names (R63, R78). -/
theorem jobForTrip_held {o : OfferEntry} {s : State} (hone : OneJobHeld s) (hsend : ∀ o ∈ s.offers.table, SendsNothing o)
    (ho : o ∈ s.offers.table) (hh : s.offers.heldJob = some o.id) : jobForTrip s = some o.id := by
  have hstate := ((hone o ho).1 hh).resolve_left (hsend o ho).2
  unfold jobForTrip
  cases hf : s.offers.table.find? fun e => e.state == .accepting || e.state == .held || e.state == .heldUnconfirmed with
  | none =>
    have := List.find?_eq_none.1 hf o ho
    obtain h | h | h := hstate <;> simp [h] at this
  | some e =>
    have hp := List.find?_some hf
    have he : s.offers.heldJob = some e.id :=
      (hone e (List.mem_of_find?_eq_some hf)).2 (.inr (by simpa [or_assoc] using hp))
    rw [hh, Option.some.injEq] at he
    simp [he]

theorem jobForTrip_none {s : State} (hone : OneJobHeld s)
    (hh : ∀ o ∈ s.offers.table, s.offers.heldJob ≠ some o.id) : jobForTrip s = none := by
  rw [jobForTrip, Option.map_eq_none_iff, List.find?_eq_none]
  intro e he hc
  exact hh e he ((hone e he).2 (.inr (by simpa [or_assoc] using hc)))

/-- A tariff that METER_HIRE may take forms the trip (R87). -/
theorem meterHire_of_mayHire {n : Nat} {s : State} (h : MayHire n s) :
    ∃ f : Tariff, meterHire n (counted s) =
      (writeFarePage (s.offers.table.foldl (hireOnOffer (nextTrip s)) (hired n f (counted s))), .ok,
        .number (nextTrip s)) := by
  obtain ⟨-, hm, h1, hn, ho, hr⟩ := h
  obtain ⟨f, hf⟩ := tariffNo_eq_some (s := counted s) h1 hn
  exact ⟨f, meterHire_eq (s := counted s) hm hf ho hr⟩

theorem meterHireTreatsTheOffers : MeterHireTreatsTheOffers := by
  intro n s hhire honce hone hsend
  obtain ⟨f, ho⟩ := meterHire_of_mayHire hhire
  have hu : (hired n f (counted s)).offers = s.offers := rfl
  have hoffers := foldl_treats_table (g := hireOnOffer (nextTrip s)) (s := hired n f (counted s)) (afterHire_id (nextTrip s))
    (fun o ha u hl hh => hireOnOffer_offers hl (hsend o ha) (by rw [hh]; exact hone o ha)) honce
  obtain ⟨htouch, hqueue⟩ := foldl_touches (g := hireOnOffer (nextTrip s)) s.offers.table
    (fun o ha u => hireOnOffer_touches (n := nextTrip s) (hsend o ha)) (hired n f (counted s))
  rw [hu] at hoffers
  have hfare := fare_hired (htouch.kept (b := .fare) (by simp))
  have hcount : (s.offers.table.foldl (hireOnOffer (nextTrip s)) (hired n f (counted s))).port.requestCount =
      wrapInc 255 s.port.requestCount := by
    refine (Reach.foldl _ (fun s o => ?_) _ _).keeps_port.2.2.2.1
    unfold hireOnOffer
    split
    all_goals first | exact Reach.refl s | exact retractBid_reach _ _ s | exact updateOffer_reach _ _ s
                    | exact refuseOwn_reach _ _ s
  refine completes_request rfl hhire.1 ho ⟨answered_respond _ _ ?_, by simpa using hfare.1, by simp [hoffers],
    ⟨newTrip (nextTrip s) n f (counted s), by simpa using hfare.2, rfl, fun o hm hh => ?_, fun hh => ?_⟩,
    onlyTouches_request (by simp) _ _ _ ?_, by simpa using hqueue.trans (rfl : _ = s.msg.queue)⟩
  · simpa [writeFarePage_port] using hcount
  · exact jobForTrip_held (s := counted s) hone hsend hm hh
  · exact jobForTrip_none (s := counted s) hone hh
  · exact ((hired_touches n f _).widen (by simp)).trans
      ((htouch.widen (by simp)).trans ((writeFarePage_touches _).widen (by simp)))

/-! ## A BID in the queue, and an award (R42, R70, R78) -/

/-- The only entry of a table. -/
theorem listed_sole {o : OfferEntry} {s : State} (h : s.offers.table = [o]) : Listed o s := by
  rw [Listed, h]
  simp

theorem tableWith_sole {o o' : OfferEntry} {s : State} (h : s.offers.table = [o]) : tableWith o o' s = [o'] := by
  simp [tableWith, h]

theorem ownsFrame_sole {o : OfferEntry} {s : State} (u : Nat) (h : s.offers.table = [o]) : OwnsFrame o u s := by
  intro a ha _
  simpa [h] using ha

/-- The reason an entry takes as its BID is asked back for the meter or the alarm (R70). -/
theorem bidResult_asking {o : OfferEntry} {b : PendEntry} {why : RetractReason} {because : OfferReason} (timeout : Nat)
    (hs : o.state = .bidWait) (hf : o.bidFrame = some ⟨b.uid, none⟩)
    (hw : (why = .meter ∧ because = .meter) ∨ (why = .alarm ∧ because = .alarm)) :
    stopTimers (bidResult timeout .retracted (asking why o)) =
      { o with
        state := .ineligible, reason := some because, bidFrame := none, awardTimer := none, acceptTimer := none } := by
  obtain ⟨rfl, rfl⟩ | ⟨rfl, rfl⟩ := hw <;>
    simp [asking, stopTimers, hs, hf, recordReason, bidResult, bidResultState]

theorem asking_waiting {o : OfferEntry} {b : PendEntry} {why : RetractReason} (hs : o.state = .bidWait)
    (hf : o.bidFrame = some ⟨b.uid, none⟩) :
    asking why o = { o with bidFrame := some ⟨b.uid, some why⟩, awardTimer := none, acceptTimer := none } := by
  cases why <;> simp [asking, stopTimers, hs, hf, recordReason]

theorem bidTakenBack_congr {o : OfferEntry} {b : PendEntry} {why : RetractReason} {because : OfferReason} {s s' t t' : State}
    (ht : t'.offers.table = t.offers.table) (hx : t'.tx.queue = t.tx.queue) (hs : s'.tx = s.tx)
    (h : BidTakenBack o b why because s t) : BidTakenBack o b why because s' t' := by
  unfold BidTakenBack
  rw [ht, hx, hs]
  exact h

/-- What a retraction leaves of the link controller and the queue. -/
theorem retractBid_sole {o : OfferEntry} {b : PendEntry} {why : RetractReason} {because : OfferReason} {s : State}
    (h : s.offers.table = [o]) (hb : HasBid o b s)
    (hw : (why = .meter ∧ because = .meter) ∨ (why = .alarm ∧ because = .alarm)) :
    BidTakenBack o b why because s (retractBid why o.id s)
      ∧ (retractBid why o.id s).link =
        (if b.state = .deferring then { s.link with side := .idle, deferral := none } else s.link)
      ∧ OnlyTouches [.link, .tx, .offers, .msg, .port] s (retractBid why o.id s) := by
  obtain ⟨hs, hf, -, hfind, howner⟩ := hb
  have hl := listed_sole h
  have hown := ownsFrame_sole b.uid h
  have hfree : o.state.isJobHeld = false := by simp [hs, OfferState.isJobHeld]
  have out : b.state = .waiting ∨ b.state = .deferring →
      OfferMoved o { o with
        state := .ineligible, reason := some because, bidFrame := none, awardTimer := none, acceptTimer := none }
        (takenOut b s) s (retractBid why o.id s) := fun hst => by
    rw [← bidResult_asking s.offers.awardTimeout hs hf hw]
    exact retractBid_unkeyed why hl hf hown hfind howner hst (.inl hfree)
  have kept := fun hst : b.state = .onAir ∨ b.state = .awaitLack => retractBid_keyed why hl hf hfind hst
  refine ⟨⟨fun hst => ?_, fun hst => ?_⟩, ?_, ?_⟩
  · obtain ⟨hoffers, -, htouch, -⟩ := out hst
    have htx : (retractBid why o.id s).tx = (takenOut b s).tx := htouch.kept (b := .tx) (by simp)
    rw [hoffers, htx]
    refine ⟨tableWith_sole h, by simp [takenOut], fun a ha hid _ => ⟨a, by simp [takenOut, ha, hid], rfl, rfl⟩⟩
  · obtain ⟨hoffers, htx, -, -⟩ := kept hst
    rw [hoffers, htx]
    refine ⟨(tableWith_sole h).trans (by rw [asking_waiting hs hf]), { b with state := .retractPending }, ?_, rfl, rfl⟩
    exact List.mem_map.2 ⟨b, findEntry_mem hfind, if_pos rfl⟩
  · cases hst : b.state with
    | waiting => exact (out (.inl hst)).touches.kept (b := .link) (by simp) |>.trans (by simp [takenOut, hst])
    | deferring => exact (out (.inr hst)).touches.kept (b := .link) (by simp) |>.trans (by simp [takenOut, hst])
    | onAir => exact ((kept (.inl hst)).2.2.1.kept (b := .link) (by simp)).trans (if_neg (by simp)).symm
    | awaitLack => exact ((kept (.inr hst)).2.2.1.kept (b := .link) (by simp)).trans (if_neg (by simp)).symm
    | retractPending => exact ((retractBid_pending why hl hf hfind hst).kept (b := .link) (by simp)).trans (if_neg (by simp)).symm
  · have through := fun hst => ((takenOut_touches b s).widen (more := [.link, .tx, .offers, .msg, .port]) (by simp)).trans
      ((out hst).touches.widen (by simp))
    cases hst : b.state with
    | waiting => exact through (.inl hst)
    | deferring => exact through (.inr hst)
    | onAir => exact (kept (.inl hst)).2.2.1.widen (by simp)
    | awaitLack => exact (kept (.inr hst)).2.2.1.widen (by simp)
    | retractPending => exact (retractBid_pending why hl hf hfind hst).widen (by simp)

theorem meterHireTakesBack : MeterHireTakesBack := by
  intro n o s hhire htable
  obtain ⟨f, ho⟩ := meterHire_of_mayHire hhire
  have htable' : (hired n f (counted s)).offers.table = [o] := htable
  have hl := listed_sole htable'
  rw [htable, List.foldl_cons, List.foldl_nil] at ho
  have htouch := (hired_touches n f (counted s)).widen (more := [.link, .fare, .trips, .tx, .offers, .msg, .port]) (by simp)
  refine ⟨fun b hb => ?_, fun hs hh hq => ?_, fun hs hh hq => ?_⟩
  · have hstep : hireOnOffer (nextTrip s) (hired n f (counted s)) o = retractBid .meter o.id (hired n f (counted s)) := by
      rw [hireOnOffer, hb.1]
    rw [hstep] at ho
    obtain ⟨hback, hlink, htake⟩ := retractBid_sole (s := hired n f (counted s)) htable' hb (.inl ⟨rfl, rfl⟩)
    have hfare := fare_hired (htake.kept (b := .fare) (by simp))
    refine completes_request rfl hhire.1 ho ⟨bidTakenBack_congr (by simp) (by simp) rfl hback, by simpa using hfare.1,
      by simp only [settle_keeps, respond_keeps, writeFarePage_keeps, hlink]; rfl, onlyTouches_request (by simp) _ _ _ ?_⟩
    exact htouch.trans ((htake.widen (by simp)).trans ((writeFarePage_touches _).widen (by simp)))
  · have hstep : hireOnOffer (nextTrip s) (hired n f (counted s)) o = refuseOwn o.id .busy (hired n f (counted s)) := by
      rw [hireOnOffer, hs]
    rw [hstep] at ho
    obtain ⟨hoffers, -, htake, hqueue⟩ := refuseOwn_joins (r := .busy) (s := hired n f (counted s)) hl hq (.inr hh)
    have hfare := fare_hired (n := n) (f := f) (s := s) (htake.kept (b := .fare) (by simp))
    have htx : _ = (joined (replyEntry o.id (.refuse o.id .busy) (hired n f (counted s))) (hired n f (counted s))).tx :=
      htake.kept (b := .tx) (by simp)
    refine completes_request rfl hhire.1 ho ⟨replyJoined_joined (s := s) (by simp [htx]; rfl), ?_, by simpa using hfare.1,
      onlyTouches_request (by simp) _ _ _ ?_⟩
    · simp only [settle_keeps, respond_keeps, writeFarePage_keeps, hoffers, tableWith_sole htable']
      simp [refusedFor, hired, heldAfter, OfferState.isJobHeld, hh, counted]
    · exact ((hired_touches n f (counted s)).widen (by simp)).trans
        (((joined_touches _ _).widen (by simp)).trans
          ((htake.widen (by simp)).trans ((writeFarePage_touches _).widen (by simp))))
  · have hstep : hireOnOffer (nextTrip s) (hired n f (counted s)) o = refuseOwn o.id .busy (hired n f (counted s)) := by
      rw [hireOnOffer, hs]
    rw [hstep] at ho
    obtain ⟨hoffers, -, htake, hqueue⟩ := refuseOwn_full (r := .busy) (s := hired n f (counted s)) hl hq
    have hfare := fare_hired (htake.kept (b := .fare) (by simp))
    refine completes_request rfl hhire.1 ho ⟨?_, by simpa using hfare.1, onlyTouches_request (by simp) _ _ _ ?_⟩
    · simp only [settle_keeps, respond_keeps, writeFarePage_keeps, hoffers, tableWith_sole htable']
      simp [refusedFor, hired, heldAfter, OfferState.isJobHeld, hh]
    · exact ((hired_touches n f (counted s)).widen (by simp)).trans
          ((htake.widen (by simp)).trans ((writeFarePage_touches _).widen (by simp)))

/-- Settles O16. -/
theorem meterHireFormsOrRefuses : Obligations.MeterHireFormsOrRefuses :=
  ⟨meterHireFormsATrip, meterHireRefusals, meterHireTreatsTheOffers, meterHireTakesBack⟩

end Sys2Proof.Claims
end

section
/-! SUPPORT. ACCEPT_JOB and REFUSE_JOB (R63, R75, R76, R81), and the timers of an offer entry (R71, R77). -/

namespace Sys2Proof.Claims

open Sys2Proof.Machine

/-- An event's command, from the state its operation leaves. -/
theorem completes_event {c : Instr} {s u v : State} {P : State → Prop} (hv : v = u) (hc : exec c s = .next (settle v))
    (hp : P (settle u)) : Completes c s P :=
  completes_of (hc.trans (by rw [hv])) hp

/-! ## The driver's answer to an award -/

/-- An entry as its ACCEPT or REFUSE is sent. -/
def answeredWith (st : OfferState) (because : Option OfferReason) (u : Nat) (o : OfferEntry) : OfferEntry :=
  { o with state := st, reason := because, acceptTimer := none, awardTimer := none, replyFrame := some ⟨u, none⟩ }

/-- The reply of an entry that joins quietly, and the entry moved by it. -/
theorem completes_answer {c : Instr} {owner : State → State × Status} {o o' : OfferEntry} {f : OfferEntry → OfferEntry}
    {p : TxPayload} {s : State} (hc : ∀ s, exec c s = .next (settle (judge .running (plain owner) s))) (hs : Up s)
    (hl : Listed o s)
    (ho : owner (counted s) = (updateOffer o.id f (joined (replyEntry o.id p (counted s)) (counted s)), .ok))
    (hf : stopTimers (f o) = o') (hst : o'.state ≠ o.state) :
    Completes c s fun t =>
      AnsweredWithNotice .offerChanged (.offer o.id) .ok .bare s t ∧ ReplyJoined p o.id.base s t
        ∧ t.offers = { s.offers with
            table := tableWith o o' s, heldJob := heldAfter o.id o'.state s.offers.heldJob }
        ∧ OnlyTouches [.tx, .offers, .msg, .port] s t ∧ t.msg.queue = s.msg.queue := by
  generalize hv : joined (replyEntry o.id p (counted s)) (counted s) = v at ho
  have hvo : v.offers = s.offers := by rw [← hv]; simp
  have hvp : v.port = (counted s).port := by rw [← hv]; simp
  have hvm : v.msg = s.msg := by rw [← hv]; simp
  have hlv : Listed o v := listed_congr (by rw [hvo]) hl
  have htouch := updateOffer_touches o.id f v
  have htx : (updateOffer o.id f v).tx = v.tx := htouch.kept (b := .tx) (by simp)
  have hport : (updateOffer o.id f v).port = (raise .offerChanged (.offer o.id) (counted s)).port := by
    rw [updateOffer_port hlv hf, if_neg hst]
    exact raise_port _ _ _ _ hvp
  refine completes_plain (hc s) hs ho ⟨answeredWithNotice_respond _ _ _ _ hport, replyJoined_joined (s := s) ?_, ?_,
    onlyTouches_request (by simp) _ _ _ ?_, by simp [hvm]⟩
  · simp only [settle_keeps, respond_keeps, htx]
    rw [← hv]
    rfl
  · simp only [settle_keeps, respond_keeps, updateOffer_offers hlv hf, hvo,
      tableWith_congr (s := s) (t := v) (by rw [hvo])]
  · rw [← hv] at htouch ⊢
    exact ((joined_touches _ _).widen (by simp)).trans (htouch.widen (by simp))

theorem acceptJob_joins {o : OfferEntry} {s : State} (hl : Listed o s) (hst : o.state = .awarded)
    (hq : ReplyJoinsQuietly s) :
    acceptJob o.id s =
      (updateOffer o.id (fun e => { e with state := .accepting, replyFrame := some ⟨s.nextUid, none⟩ })
        (joined (replyEntry o.id (.accept o.id) s) s), .ok) := by
  simp only [acceptJob, findOffer_of_listed hl, hst, offerEntry_reply_quiet hq, if_true]

theorem acceptJob_full {o : OfferEntry} {s : State} (hl : Listed o s) (hst : o.state = .awarded)
    (hq : 20 ≤ s.tx.queue.length) : acceptJob o.id s = (s, .queueFull) := by
  simp only [acceptJob, findOffer_of_listed hl, hst, offerEntry_full _ (.inl hq), if_true]

theorem acceptJobOffersAnAccept : AcceptJobOffersAnAccept := by
  intro e s hs hl hst
  constructor
  · intro hq
    have hstop : stopTimers { e with state := .accepting, replyFrame := some ⟨s.nextUid, none⟩ } =
        answeredWith .accepting e.reason s.nextUid e := by
      simp [stopTimers, answeredWith]
    simpa [answeredWith, tableWith, heldAfter, OfferState.isJobHeld] using
      completes_answer (c := .acceptJob e.id) (fun _ => rfl) hs hl (acceptJob_joins (s := counted s) hl hst hq) hstop
        (by simp [answeredWith, hst])
  · intro hq
    exact completes_plain rfl hs (acceptJob_full (s := counted s) hl hst hq) (nothingBut_respond s _ _)

theorem refusable_of {o : OfferEntry}
    (h : o.state = .awarded ∨ ((o.state = .held ∨ o.state = .heldUnconfirmed) ∧ o.linkedTrip = none)) :
    refusable o = true := by
  obtain h | ⟨h | h, hn⟩ := h
  · simp [refusable, h]
  · simp [refusable, h, hn]
  · simp [refusable, h, hn]

theorem refuseJob_joins {o : OfferEntry} {s : State} (hl : Listed o s) (hr : refusable o = true)
    (hq : ReplyJoinsQuietly s) :
    refuseJob o.id s =
      (updateOffer o.id (fun e => { e with state := .refused, reason := some (.refusal .driver),
                                           replyFrame := some ⟨s.nextUid, none⟩ })
        (joined (replyEntry o.id (.refuse o.id .driver) s) s), .ok) := by
  simp only [refuseJob, findOffer_of_listed hl, hr, offerEntry_reply_quiet hq, if_true]

theorem refuseJob_full {o : OfferEntry} {s : State} (hl : Listed o s) (hr : refusable o = true)
    (hq : 20 ≤ s.tx.queue.length) : refuseJob o.id s = (s, .queueFull) := by
  simp only [refuseJob, findOffer_of_listed hl, hr, offerEntry_full _ (.inl hq), if_true]

theorem refuseJobOffersARefusal : RefuseJobOffersARefusal := by
  intro e s hs hl hst hheld
  have hr := refusable_of hst
  constructor
  · intro hq
    have hstop : stopTimers { e with state := .refused, reason := some (.refusal .driver),
                                     replyFrame := some ⟨s.nextUid, none⟩ } =
        answeredWith .refused (some (.refusal .driver)) s.nextUid e := by
      simp [stopTimers, answeredWith]
    have hne : (answeredWith .refused (some (.refusal .driver)) s.nextUid e).state ≠ e.state := by
      obtain h | ⟨h | h, -⟩ := hst <;> simp [answeredWith, h]
    simpa [answeredWith, tableWith, heldAfter, OfferState.isJobHeld, hheld] using
      completes_answer (c := .refuseJob e.id) (fun _ => rfl) hs hl (refuseJob_joins (s := counted s) hl hr hq) hstop hne
  · intro hq
    exact completes_plain rfl hs (refuseJob_full (s := counted s) hl hr hq) (nothingBut_respond s _ _)

theorem findOffer_none {id : OfferId} {s : State} (h : ∀ e ∈ s.offers.table, e.id ≠ id) : findOffer id s = none := by
  rw [findOffer, List.find?_eq_none]
  simpa using h

theorem lateAnswersAreTurnedAway : LateAnswersAreTurnedAway := by
  intro id s hs
  refine ⟨fun h => ?_, fun e hl hid hst => ?_⟩
  · have hf := findOffer_none (s := counted s) h
    exact ⟨completes_unchanged rfl hs (by simp [plain, acceptJob, hf]),
      completes_unchanged rfl hs (by simp [plain, refuseJob, hf])⟩
  · have hf : findOffer id (counted s) = some e := hid ▸ findOffer_of_listed (s := counted s) hl
    have hlate : lateStatus e = if e.reason = some (.refusal .timeout) then .tooLate else .state := by
      simp [lateStatus, hst]
    rw [← hlate]
    exact ⟨completes_unchanged rfl hs (by simp [plain, acceptJob, hf, hst]),
      completes_unchanged rfl hs (by simp [plain, refuseJob, hf, refusable, hst])⟩

/-- Settles O15. -/
theorem jobAnswersAreOffered : Obligations.JobAnswersAreOffered :=
  ⟨acceptJobOffersAnAccept, refuseJobOffersARefusal, lateAnswersAreTurnedAway⟩

/-! ## The timers of an offer entry -/

theorem awardTimerExpiry_eq {o : OfferEntry} {s : State} (hl : Listed o s) :
    awardTimerExpiry o.id s =
      if s.awake = true ∧ o.state = .bidSent ∧ o.awardTimer.isSome = true then
        updateOffer o.id (fun e => { e with state := .expired }) s
      else s := by
  simp only [awardTimerExpiry, findOffer_of_listed hl]

theorem acceptTimerExpiry_eq {o : OfferEntry} {s : State} (hl : Listed o s) :
    acceptTimerExpiry o.id s =
      if s.running = true ∧ o.state = .awarded ∧ o.acceptTimer.isSome = true then refuseOwn o.id .timeout s else s := by
  simp only [acceptTimerExpiry, findOffer_of_listed hl]

/-- Settles O44: the award timer runs for BID_SENT alone, the accept timer for AWARDED. -/
theorem offerTimersEndTheEntry : Obligations.OfferTimersEndTheEntry := by
  intro e s hl
  refine ⟨fun hpart hst htimer hfree => ?_, fun hs hst htimer hheld hq => ?_, fun hst => ?_, fun hst => ?_⟩
  · have hawake : s.awake = true := by
      obtain h | h := hpart <;> simp [State.awake, h]
    have hexpired : stopTimers { e with state := .expired } =
        { e with state := .expired, awardTimer := none, acceptTimer := none } := by
      simp [stopTimers]
    have hends : awardTimerExpiry e.id s = updateOffer e.id (fun e => { e with state := .expired }) s :=
      (awardTimerExpiry_eq hl).trans (if_pos ⟨hawake, hst, htimer⟩)
    have hoffers := updateOffer_offers hl (f := fun e => { e with state := .expired }) hexpired
    have hport := updateOffer_port hl (f := fun e => { e with state := .expired }) hexpired
    refine completes_event hends rfl ⟨?_, ?_, onlyTouches_settle (updateOffer_touches _ _ s), by simp⟩
    · simp [hoffers, tableWith, heldAfter, OfferState.isJobHeld, hfree]
    · simp only [settle_keeps, hport]
      simp [hst]
  · have hends : acceptTimerExpiry e.id s = refuseOwn e.id .timeout s :=
      (acceptTimerExpiry_eq hl).trans (if_pos ⟨running_of_up hs, hst, htimer⟩)
    obtain ⟨hoffers, hport, htouch, hqueue⟩ := refuseOwn_joins (r := .timeout) hl hq (.inr hheld)
    have htx : _ = (joined (replyEntry e.id (.refuse e.id .timeout) s) s).tx := htouch.kept (b := .tx) (by simp)
    refine completes_event hends rfl ⟨replyJoined_joined (s := s) (by simpa using htx), ?_, ?_, onlyTouches_settle ?_, by simpa using hqueue⟩
    · simp only [settle_keeps, hoffers]
      simp [refusedFor, tableWith, heldAfter, OfferState.isJobHeld, hheld]
    · simp only [settle_keeps, hport]
      simp [refusedFor, hst]
    · exact ((joined_touches _ s).widen (by simp)).trans (htouch.widen (by simp))
  · refine completes_nothing ?_
    rw [show exec (.awardTimerExpiry e.id) s = .next (settle (awardTimerExpiry e.id s)) from rfl, awardTimerExpiry_eq hl,
      if_neg (by simp [hst])]
  · refine completes_nothing ?_
    rw [show exec (.acceptTimerExpiry e.id) s = .next (settle (acceptTimerExpiry e.id s)) from rfl, acceptTimerExpiry_eq hl,
      if_neg (by simp [hst])]

end Sys2Proof.Claims
end

section
/-! SUPPORT. Which entry the link controller takes (R44), and how it takes it as an entry joins (R8, R9). -/

namespace Sys2Proof.Claims

open Sys2Proof.Machine

/-! ## The entry chosen -/

/-- The scan that `choose` makes ends at an entry it met, and none it met is above that one. -/
theorem foldl_best (l : List PendEntry) (o : Option PendEntry) :
    let r := l.foldl (fun best a => match best with
      | none => some a
      | some b => if a.cls.rank < b.cls.rank then some a else some b) o
    (∀ a, a ∈ l ∨ o = some a → ∃ b, r = some b ∧ b.cls.rank ≤ a.cls.rank) ∧ ∀ b, r = some b → b ∈ l ∨ o = some b := by
  induction l generalizing o with
  | nil =>
    refine ⟨fun a ha => ⟨a, by simpa using ha, le_rfl⟩, fun b hb => .inr hb⟩
  | cons e l ih =>
    cases o with
    | none =>
      obtain ⟨hle, hmem⟩ := ih (some e)
      refine ⟨fun a ha => hle a ?_, fun b hb => .inl ?_⟩
      · simpa [or_comm, eq_comm] using ha
      · simpa [or_comm, eq_comm] using hmem b hb
    | some c =>
      by_cases he : e.cls.rank < c.cls.rank
      · obtain ⟨hle, hmem⟩ := ih (some e)
        simp only [List.foldl_cons, he, if_true]
        refine ⟨fun a ha => ?_, fun b hb => .inl ?_⟩
        · obtain ha | rfl := (by simpa using ha : (a = e ∨ a ∈ l) ∨ c = a)
          · exact hle a (by simpa [or_comm, eq_comm] using ha)
          · obtain ⟨b, hb, hbe⟩ := hle e (.inr rfl)
            exact ⟨b, hb, by omega⟩
        · simpa [or_comm, eq_comm] using hmem b hb
      · obtain ⟨hle, hmem⟩ := ih (some c)
        simp only [List.foldl_cons, he, if_false]
        refine ⟨fun a ha => ?_, fun b hb => ?_⟩
        · obtain (rfl | ha) | ha := (by simpa using ha : (a = e ∨ a ∈ l) ∨ c = a)
          · obtain ⟨b, hb, hbe⟩ := hle c (.inr rfl)
            exact ⟨b, hb, by omega⟩
          · exact hle a (.inl ha)
          · exact hle a (.inr (by rw [ha]))
        · exact (hmem b hb).imp (List.mem_cons_of_mem e) id

/-- The entry chosen may be chosen. -/
theorem choose_mem {q : List PendEntry} {e : PendEntry} (h : choose q = some e) : e ∈ q ∧ MayBeChosen e := by
  obtain he | he := (foldl_best (q.filter PendEntry.candidate) none).2 e h
  · simpa [candidate_iff] using List.mem_filter.1 he
  · cases he

/-- No entry that may be chosen is above the one chosen. -/
theorem choose_le {q : List PendEntry} {a : PendEntry} (ha : a ∈ q) (hc : MayBeChosen a) :
    ∃ e, choose q = some e ∧ e.cls.rank ≤ a.cls.rank :=
  (foldl_best (q.filter PendEntry.candidate) none).1 a (.inl (List.mem_filter.2 ⟨ha, (candidate_iff a).2 hc⟩))

/-- Where no entry may be chosen, none is. -/
theorem choose_none {q : List PendEntry} (h : ∀ a ∈ q, ¬ MayBeChosen a) : choose q = none := by
  cases hc : choose q with
  | none => rfl
  | some e => exact absurd (choose_mem hc).2 (h e (choose_mem hc).1)

/-! ## The presentation -/

theorem canPresent_of_takes {s : State} (ht : Takes s) (hl : s.link.listenIn = none) : canPresent s = true := by
  obtain ⟨hc, hs, hr⟩ := ht
  simp [canPresent, hc, hl, LinkState.mute, hs, hr]

theorem channelFree_of_takes {s : State} (ht : Takes s) (hl : s.link.listenIn = none) (ha : NoneOnAir s) :
    channelFree s = true :=
  (channelFree_iff s).2 ⟨ht.1, hl, ha⟩

theorem accessOpportunity_chosen {e : PendEntry} {b : Bool} {s : State} (hp : canPresent s = true)
    (hi : s.link.side = .idle) (hc : ChosenIn s.tx.queue e) : accessOpportunity b s = present e b s := by
  simp [accessOpportunity, hp, hi, choose_of_chosen hc]

/-- What a join leads to (R8, R9): an access opportunity, nothing, or the displacing of the entry held. -/
theorem joinEntry_eq (e : PendEntry) (s : State) :
    joinEntry e s =
      if s.link.side = .idle then (if channelFree s then accessOpportunity false (joined e s) else joined e s)
      else displace false (joined e s) := rfl

/-- An entry above the one held takes its place: that one waits again, and the choice is made anew (R9). -/
theorem displace_above {h e c : PendEntry} {b : Bool} {s : State} (hp : canPresent s = true)
    (hd : s.link.side = .deferring) (hh : heldEntry s = some h) (hc : choose s.tx.queue = some e)
    (hlt : e.cls.rank < h.cls.rank) (hnew : ChosenIn (handedBack s.tx.queue) c) :
    displace b s = present c b (handBackDeferring s) := by
  have hback := handBackDeferring_held hd
  have hopp : accessOpportunity b (handBackDeferring s) = present c b (handBackDeferring s) := by
    rw [hback]
    exact accessOpportunity_chosen (by exact hp) rfl hnew
  unfold displace
  rw [hh, hc]
  dsimp only
  rw [if_pos ⟨hd, hp, hlt⟩, hopp]

/-- While no entry is above the one held, that one keeps its place (R9). -/
theorem displace_below {h : PendEntry} {b : Bool} {s : State} (hh : heldEntry s = some h)
    (hle : ∀ a ∈ s.tx.queue, MayBeChosen a → h.cls.rank ≤ a.cls.rank) : displace b s = s := by
  unfold displace
  rw [hh]
  cases hc : choose s.tx.queue with
  | none => rfl
  | some e =>
    obtain ⟨hm, hmay⟩ := choose_mem hc
    exact if_neg fun hn => absurd hn.2.2 (Nat.not_lt.2 (hle e hm hmay))

/-- A presentation out of a state that agrees with `l` but for the side and its count. -/
theorem presented_of_idle {e : PendEntry} {b : Bool} {l : Link} {s : State}
    (hl : s.link = { l with side := .idle, deferral := none }) :
    Presented b e s.tx.queue l (present e b s) := by
  obtain ⟨⟨⟨n, hn, hlink⟩, hq⟩, -⟩ := presented_present e b s
  refine ⟨⟨n, ?_, ?_⟩, hq⟩
  · rwa [hl] at hn
  · rw [hlink, hl]

theorem presented_settle {b : Bool} {e : PendEntry} {q : List PendEntry} {l : Link} {t u : State}
    (hl : u.link = t.link) (hx : u.tx = t.tx) (h : Presented b e q l t) : Presented b e q l u := by
  rw [Presented, hl, hx]
  exact h

end Sys2Proof.Claims
end

section
/-! SUPPORT. SEND_DATA (R8, R9, R41, R44, R53) and CANCEL_SEND (R50, R54, R57). -/

namespace Sys2Proof.Claims

open Sys2Proof.Machine

theorem addressOk_iff (d : Nat) : addressOk d = true ↔ Address d := by
  simp [addressOk, isStation, inRange, destFleet, destAll, Address, or_assoc]

theorem sendData_full {dest tag : Nat} {data : List Byte} {s : State} (ht : tag ≤ 255) (ha : Address dest)
    (hs : s.link.station ≠ some dest) (h1 : 1 ≤ data.length) (h64 : data.length ≤ 64)
    (hfull : 20 ≤ s.tx.queue.length ∨ 18 ≤ (s.tx.queue.filter fun e => !e.isEmergency).length) :
    sendData dest tag data s = (s, .queueFull) := by
  rw [sendData, if_pos ⟨(addressOk_iff dest).2 ha, hs, by simp [inRange, h1, h64], ht⟩,
    offerEntry_full _ (hfull.imp id fun h => ⟨by simp [dataEntry, newEntry], by simp [dataEntry, newEntry], h⟩)]

/-- SEND_DATA in range joins where there is room (R41, R53). -/
theorem sendData_joins {dest tag : Nat} {data : List Byte} {s : State} (ht : tag ≤ 255) (ha : Address dest)
    (hs : s.link.station ≠ some dest) (h1 : 1 ≤ data.length) (h64 : data.length ≤ 64) (hq : s.tx.queue.length < 20)
    (ho : (s.tx.queue.filter fun e => !e.isEmergency).length < 18) :
    sendData dest tag data s = (joinEntry (dataEntry dest tag data s) s, .ok) := by
  rw [sendData, if_pos ⟨(addressOk_iff dest).2 ha, hs, by simp [inRange, h1, h64], ht⟩,
    offerEntry_joins _ (refusedFull_eq_false hq ho) rfl]

theorem sendDataJoinsOrIsRefused : SendDataJoinsOrIsRefused := by
  intro dest tag data s hs ht
  refine ⟨fun hbad => ?_, fun ha hst h1 h64 => ⟨fun hfull => ?_, fun hq ho hside => ?_⟩⟩
  · refine completes_unchanged rfl hs ?_
    rw [plain, sendData, if_neg]
    rintro ⟨hok, hown, hlen, -⟩
    rw [addressOk_iff] at hok
    simp only [inRange, Bool.and_eq_true, decide_eq_true_eq] at hlen
    obtain h | h | h | h := hbad
    · exact h hok
    · exact hown h
    · simp [h] at hlen
    · omega
  · exact completes_plain rfl hs (sendData_full (s := counted s) ht ha hst h1 h64 hfull) (nothingBut_respond s _ _)
  · have hquiet : Quiescent (counted s) := by
      obtain h | h | h | ⟨h, hc⟩ := hside
      · exact .inl h
      · exact .inr (.inl h)
      · exact .inr (.inr (.inl h))
      · exact quiescent_of_busy (s := counted s) h hc
    have hjoin := sendData_joins (s := counted s) ht ha hst h1 h64 hq ho
    rw [joinEntry_quiescent _ hquiet] at hjoin
    refine completes_plain rfl hs hjoin ⟨justAnswered_respond _ _ rfl,
      onlyTouches_request (by simp) _ _ _ ((joined_touches (dataEntry dest tag data (counted s)) (counted s)).widen (by simp)),
      sentEntry dest tag data s, by simp; rfl, ?_⟩
    simp [sentEntry, PendEntry.needsLack, PendEntry.unicast, isStation, TxPayload.kind, needsLackKind,
      Bool.decide_and]
    rfl

theorem joined_sent (dest tag : Nat) (data : List Byte) (s : State) :
    (joined (dataEntry dest tag data s) s).tx = { s.tx with queue := s.tx.queue ++ [sentEntry dest tag data s] } := rfl

theorem sentEntry_mayBeChosen (dest tag : Nat) (data : List Byte) (s : State) :
    MayBeChosen (sentEntry dest tag data s) :=
  ⟨rfl, nofun⟩

/-- A join leaves the entry held as it is. -/
theorem heldEntry_joined (e : PendEntry) (s : State) : heldEntry (joined e s) = heldEntry s := by
  simp [heldEntry, joined, List.find?_append]

theorem sendDataIsPresented : SendDataIsPresented := by
  intro dest tag data s hs ht ha hst h1 h64 hq ho htakes hlisten
  have hjoin := sendData_joins (s := counted s) ht ha hst h1 h64 hq ho
  have hpres : canPresent (joined (dataEntry dest tag data (counted s)) (counted s)) = true :=
    canPresent_of_takes (s := s) htakes hlisten
  rw [joinEntry_eq] at hjoin
  have htouch := joinEntry_touches (dataEntry dest tag data (counted s)) (counted s)
  refine ⟨fun hi hair c hc => ?_, fun h c hd hheld hb hc => ?_, fun h hd hheld hb hle => ?_⟩
  · rw [if_pos (by exact hi), if_pos (channelFree_of_takes (s := counted s) htakes hlisten hair),
      accessOpportunity_chosen hpres hi hc] at hjoin
    obtain ⟨hpresented, htouched⟩ := presented_present c false (joined (dataEntry dest tag data (counted s)) (counted s))
    refine completes_plain rfl hs hjoin ⟨justAnswered_respond _ _ (htouched.kept (b := .port) (by simp)),
      presented_settle (by simp) (by simp) hpresented, onlyTouches_request (by simp) _ _ _ ?_⟩
    exact ((joined_touches _ _).widen (by simp)).trans (htouched.widen (by simp))
  · generalize hv : joined (dataEntry dest tag data (counted s)) (counted s) = v at hjoin hpres
    have hvq : v.tx.queue = s.tx.queue ++ [sentEntry dest tag data s] := by rw [← hv]; rfl
    have hvl : v.link = s.link := by rw [← hv]; rfl
    obtain ⟨e, hchoose, hle⟩ := choose_le (q := v.tx.queue) (a := sentEntry dest tag data s) (by simp [hvq])
      (sentEntry_mayBeChosen _ _ _ _)
    have hlt : e.cls.rank < h.cls.rank := by
      rw [hb]
      exact Nat.lt_of_le_of_lt hle (by simp [sentEntry, TxClass.rank])
    have hvd : v.link.side = .deferring := by rw [hvl, hd]
    rw [if_neg (by simp [hd]), displace_above hpres hvd (by rw [← hv, heldEntry_joined]; exact hheld)
      hchoose hlt (by rw [hvq]; exact hc)] at hjoin
    have hpresented := presented_of_idle (e := c) (b := false) (l := s.link) (s := handBackDeferring v)
      (by rw [handBackDeferring_held hvd, hvl])
    have hback : (handBackDeferring v).tx.queue = handedBack (s.tx.queue ++ [sentEntry dest tag data s]) := by
      rw [handBackDeferring_held hvd, hvq]
    have htouched := (handBackDeferring_touches v).trans (presented_present c false (handBackDeferring v)).2
    rw [hback] at hpresented
    have hvt : OnlyTouches [.tx] (counted s) v := by rw [← hv]; exact joined_touches _ _
    have htotal := (hvt.widen (more := [.link, .tx]) (by simp)).trans htouched
    exact completes_plain rfl hs hjoin ⟨justAnswered_respond _ _ (htotal.kept (b := .port) (by simp)),
      presented_settle (by simp) (by simp) hpresented, onlyTouches_request (by simp) _ _ _ (htotal.widen (by simp))⟩
  · have hbelow : ∀ a ∈ (joined (dataEntry dest tag data (counted s)) (counted s)).tx.queue, MayBeChosen a →
        h.cls.rank ≤ a.cls.rank := by
      intro a hm hmay
      obtain hm | rfl := (by simpa [joined_sent] using hm : a ∈ s.tx.queue ∨ a = sentEntry dest tag data (counted s))
      · rw [rank_eq_classPlace, rank_eq_classPlace]
        exact hle a hm hmay
      · revert hb
        cases h.cls <;> simp [sentEntry, TxClass.rank]
    rw [if_neg (by simp [hd]), displace_below (s := joined _ (counted s)) ((heldEntry_joined _ _).trans hheld) hbelow] at hjoin
    exact completes_plain rfl hs hjoin ⟨justAnswered_respond _ _ rfl, by simp only [settle_keeps, respond_keeps, joined_sent]; rfl,
      onlyTouches_request (by simp) _ _ _ ((joined_touches _ _).widen (by simp))⟩

/-! ## CANCEL_SEND -/

theorem cancelSend_oldest {tag : Nat} {e : PendEntry} {s : State} (h : OldestWithTag tag e s) :
    cancelSend tag s = (retract e.uid s, .ok) := by
  rw [cancelSend, h]

/-- A result of host data that finds room among the outcomes (R57). -/
theorem report_data {e : PendEntry} {out : TxOutcome} {r : Bool} {s : State} (ho : e.owner = .terminalPort)
    (hlen : s.tx.outcomes.length < 16) :
    report ⟨e, out, r⟩ s =
      raise .sendOutcome .outcomes { s with tx := { s.tx with
        outcomes := s.tx.outcomes ++ [⟨e.tag.getD 0, out, e.attempts, r && e.state == .retractPending⟩] } } := by
  simp [report, ho, dataResult, Config.outcomeCapacity, hlen]

theorem cancelSendRetractsTheOldest : CancelSendRetractsTheOldest := by
  intro tag s hs
  refine ⟨fun e hold hfind => ⟨fun hw hlen => ?_, fun hkeyed => ?_⟩, fun hnone => ?_⟩
  · have hp := List.find?_some (p := fun e : PendEntry =>
      e.owner == .terminalPort && e.tag == some tag && e.state != .retractPending) hold
    simp only [Bool.and_eq_true, beq_iff_eq] at hp
    obtain ⟨⟨howner, htag⟩, -⟩ := hp
    have ho := cancelSend_oldest (s := counted s) hold
    rw [retract_unkeyed (s := counted s) hfind (.inl hw), report_data howner (by exact hlen),
      takenOut_waiting (by simp [hw])] at ho
    refine completes_plain rfl hs ho ⟨answeredWithNotice_respond _ _ _ _ (raise_port _ _ _ _ rfl),
      onlyTouches_request (by simp) _ _ _ ?_, by simp [htag, hw]⟩
    exact ((raise_touches _ _ _).widen (by simp)).before rfl fun b => by cases b <;> simp [Kept]
  · have ho := cancelSend_oldest (s := counted s) hold
    rw [retract_keyed (s := counted s) hfind hkeyed] at ho
    exact completes_plain rfl hs ho ⟨justAnswered_respond _ _ rfl,
      onlyTouches_request (by simp) _ _ _ ((updateEntry_touches _ _ _).widen (by simp)), by simp [updateWhere]⟩
  · refine completes_unchanged rfl hs ?_
    have hfind : (counted s).tx.queue.find?
        (fun e => e.owner == .terminalPort && e.tag == some tag && e.state != .retractPending) = none := by
      rw [List.find?_eq_none]
      intro e he hc
      simp only [Bool.and_eq_true, beq_iff_eq, bne_iff_ne, ne_eq] at hc
      exact hnone e he ⟨hc.1.1, hc.1.2, hc.2⟩
    rw [plain, cancelSend, hfind]

/-- Settles O10. -/
theorem hostDataIsQueuedAndCancelled : Obligations.HostDataIsQueuedAndCancelled :=
  ⟨sendDataJoinsOrIsRefused, cancelSendRetractsTheOldest, sendDataIsPresented⟩

end Sys2Proof.Claims
end

section
/-! SUPPORT. The call of an alarm that has left QUIET: what stands of it while the neighbours are treated (R170), and how it is
raised and restored (R169, R170, R178). -/

namespace Sys2Proof.Claims

open Sys2Proof.Machine

/-! ## What stands of the call -/

/-- The alarm, its number and its repeats, and the link state with its spans, stand as they were. -/
structure CallKept (s t : State) : Prop where
  alarm : t.emerg.alarm = s.emerg.alarm
  number : t.emerg.number = s.emerg.number
  source : t.emerg.source = s.emerg.source
  repeats : t.emerg.repeatTimer = s.emerg.repeatTimer
  state : t.link.state = s.link.state
  spans : t.link.quietSpans = s.link.quietSpans

namespace CallKept

theorem refl (s : State) : CallKept s s := ⟨rfl, rfl, rfl, rfl, rfl, rfl⟩

theorem trans {s t u : State} (h : CallKept s t) (k : CallKept t u) : CallKept s u :=
  ⟨k.alarm.trans h.alarm, k.number.trans h.number, k.source.trans h.source, k.repeats.trans h.repeats,
    k.state.trans h.state, k.spans.trans h.spans⟩

theorem of_touches {may : List Block} {s t : State} (h : OnlyTouches may s t) (hl : .link ∉ may) (he : .emerg ∉ may) :
    CallKept s t := by
  have hlink : t.link = s.link := h.kept hl
  have hemerg : { t.emerg with lamp := s.emerg.lamp, lampOn := s.emerg.lampOn } = s.emerg := h.kept he
  refine ⟨?_, ?_, ?_, ?_, by rw [hlink], by rw [hlink]⟩ <;> rw [← hemerg]

theorem foldl {α : Type} {f : State → α → State} (l : List α) {s : State}
    (hf : ∀ a u, CallKept s u → CallKept u (f u a)) : CallKept s (l.foldl f s) := by
  suffices h : ∀ u, CallKept s u → CallKept s (l.foldl f u) from h s (refl s)
  induction l with
  | nil => exact fun u hu => hu
  | cons a l ih => exact fun u hu => ih (f u a) (hu.trans (hf a u hu))

end CallKept

theorem presented_call (e : PendEntry) (b : Bool) (s : State) : CallKept s (present e b s) := by
  obtain ⟨⟨⟨n, -, hlink⟩, -⟩, htouch⟩ := presented_present e b s
  have hemerg : { (present e b s).emerg with lamp := s.emerg.lamp, lampOn := s.emerg.lampOn } = s.emerg :=
    htouch.kept (b := .emerg) (by simp)
  refine ⟨?_, ?_, ?_, ?_, by rw [hlink], by rw [hlink]⟩ <;> rw [← hemerg]

theorem handBackDeferring_call (s : State) : CallKept s (handBackDeferring s) := by
  unfold handBackDeferring
  split <;> exact ⟨rfl, rfl, rfl, rfl, rfl, rfl⟩

theorem accessOpportunity_call (b : Bool) (s : State) : CallKept s (accessOpportunity b s) := by
  unfold accessOpportunity
  repeat' split
  · exact presented_call _ b s
  · exact .refl s
  · exact .refl s

theorem displace_call (b : Bool) (s : State) : CallKept s (displace b s) := by
  unfold displace
  repeat' split
  · exact (handBackDeferring_call s).trans (accessOpportunity_call b _)
  · exact .refl s
  · exact .refl s

theorem channelBecomesFree_call (s : State) : CallKept s (channelBecomesFree s) := by
  unfold channelBecomesFree
  repeat' split
  · exact ⟨rfl, rfl, rfl, rfl, rfl, rfl⟩
  · exact accessOpportunity_call true s
  · exact .refl s

theorem joinEntry_call (e : PendEntry) (s : State) : CallKept s (joinEntry e s) := by
  have hjoin : CallKept s (joined e s) := ⟨rfl, rfl, rfl, rfl, rfl, rfl⟩
  rw [joinEntry_eq]
  repeat' split
  · exact hjoin.trans (accessOpportunity_call false _)
  · exact hjoin
  · exact hjoin.trans (displace_call false _)

theorem offerEntry_call (e : PendEntry) (s : State) : CallKept s (offerEntry e s).1 := by
  unfold offerEntry
  repeat' split
  · exact .refl s
  · exact .refl s
  · exact joinEntry_call e s

theorem takenOut_call (b : PendEntry) (s : State) : CallKept s (takenOut b s) := by
  unfold takenOut
  refine ⟨rfl, rfl, rfl, rfl, ?_, ?_⟩ <;> dsimp only <;> split <;> rfl

theorem tripResult_touches (r : TxResult) (s : State) : OnlyTouches [.trips, .store, .port] s (tripResult r s) := by
  have hset : ∀ n st, OnlyTouches [.trips, .store, .port] s (setUpload n st s) := fun n st =>
    ((raise_touches _ _ _).widen (by simp)).before rfl fun b => by cases b <;> simp [Kept]
  have hdone : ∀ n u, OnlyTouches [.trips, .store, .port] u (offerUploadDone n u) := fun n u =>
    ((offerGroup_touches (.uploadDone n) [.uploadDone n] u).widen (by simp)).trans
      ⟨rfl, fun b => by cases b <;> simp [Kept, offerUploadDone]⟩
  unfold tripResult
  split
  · split
    · exact (hset _ _).trans (hdone _ _)
    all_goals exact hset _ _
  · exact onlyTouches_refl _ s

theorem offerResult_touches (r : TxResult) (s : State) : OnlyTouches [.offers, .msg, .port] s (offerResult r s) := by
  unfold offerResult
  repeat' split
  · exact onlyTouches_refl _ s
  · exact updateOffer_touches _ _ s
  · exact updateOffer_touches _ _ s

theorem dataResult_touches (r : TxResult) (n : Nat) (s : State) : OnlyTouches [.tx, .port] s (dataResult r n s) := by
  unfold dataResult
  dsimp only
  split <;>
    exact ((raise_touches _ _ _).widen (by simp)).before rfl fun b => by cases b <;> simp [Kept]

/-- A result returns to its owner while the alarm is not being cleared. -/
theorem report_call {r : TxResult} {s : State} (h : s.emerg.alarm ≠ .clearing) : CallKept s (report r s) := by
  unfold report
  split
  · exact .of_touches (offerResult_touches r s) (by simp) (by simp)
  · exact .of_touches (tripResult_touches r s) (by simp) (by simp)
  · exact ⟨rfl, rfl, rfl, rfl, rfl, rfl⟩
  · unfold emergencyResult
    repeat' split
    · exact ⟨rfl, rfl, rfl, rfl, rfl, rfl⟩
    · rw [ownResult]
      simp only [h, if_false]
      exact ⟨rfl, rfl, rfl, rfl, rfl, rfl⟩
    · exact .refl s
    · exact .refl s
  · exact .of_touches (dataResult_touches r _ s) (by simp) (by simp)
  · exact .refl s

theorem removeUnkeyed_call {e : PendEntry} {o : TxOutcome} {r : Bool} {s : State} (h : s.emerg.alarm ≠ .clearing) :
    CallKept s (removeUnkeyed e o r s) := by
  rw [removeUnkeyed_eq]
  exact (takenOut_call e s).trans (report_call (by rwa [(takenOut_call e s).alarm]))

theorem removeWhere_call {p : PendEntry → Bool} {o : TxOutcome} {s : State} (h : s.emerg.alarm ≠ .clearing) :
    CallKept s (removeWhere p o s) :=
  .foldl _ fun _ _ hu => removeUnkeyed_call (by rwa [hu.alarm])

theorem retract_call {uid : Nat} {s : State} (h : s.emerg.alarm ≠ .clearing) : CallKept s (retract uid s) := by
  unfold retract
  repeat' split
  · exact ⟨rfl, rfl, rfl, rfl, rfl, rfl⟩
  · exact removeUnkeyed_call h
  · exact removeUnkeyed_call h
  · exact ⟨rfl, rfl, rfl, rfl, rfl, rfl⟩
  · exact ⟨rfl, rfl, rfl, rfl, rfl, rfl⟩
  · exact .refl s

theorem updateOffer_call (id : OfferId) (f : OfferEntry → OfferEntry) (s : State) : CallKept s (updateOffer id f s) :=
  .of_touches (updateOffer_touches id f s) (by simp) (by simp)

theorem retractBid_call {r : RetractReason} {id : OfferId} {s : State} (h : s.emerg.alarm ≠ .clearing) :
    CallKept s (retractBid r id s) := by
  unfold retractBid
  split
  · exact (updateOffer_call _ _ s).trans (retract_call (by rwa [(updateOffer_call _ _ s).alarm]))
  · exact .refl s

theorem refuseOwn_call (id : OfferId) (r : RefuseReason) (s : State) : CallKept s (refuseOwn id r s) := by
  refine CallKept.trans ?_ (updateOffer_call _ _ _)
  have h := offerEntry_call (replyEntry id (.refuse id r) s) s
  unfold offerRefuse
  generalize offerEntry (replyEntry id (.refuse id r) s) s = x at h
  obtain ⟨t, a⟩ := x
  cases a with
  | joined uid => exact h.trans (updateOffer_call _ _ _)
  | full | link => exact h

theorem alarmOnOffer_call {s : State} (e : OfferEntry) (h : s.emerg.alarm ≠ .clearing) : CallKept s (alarmOnOffer s e) := by
  unfold alarmOnOffer
  split
  · exact retractBid_call h
  · exact updateOffer_call _ _ s
  · exact refuseOwn_call _ _ s
  all_goals exact .refl s

/-- The neighbours' treatment leaves the call and the link state as they stand (R170). -/
theorem alarmLeavesQuiet_call {s : State} (h : s.emerg.alarm ≠ .clearing) : CallKept s (alarmLeavesQuiet s) := by
  have hoffers : CallKept s (s.offers.table.foldl alarmOnOffer s) :=
    .foldl _ fun _ _ hu => alarmOnOffer_call _ (by rwa [hu.alarm])
  have hflag : CallKept s (flagEmergency (s.offers.table.foldl alarmOnOffer s)) :=
    hoffers.trans ⟨rfl, rfl, rfl, rfl, rfl, rfl⟩
  exact hflag.trans (removeWhere_call (by rwa [hflag.alarm]))

theorem offerOwn_call (p : Phase) (s : State) : CallKept s (offerOwn p s) := by
  unfold offerOwn
  split
  · exact .refl s
  · have h := offerEntry_call (ownEmergency p s) s
    generalize offerEntry (ownEmergency p s) s = x at h
    obtain ⟨t, a⟩ := x
    cases a with
    | joined uid => exact h.trans ⟨rfl, rfl, rfl, rfl, rfl, rfl⟩
    | full | link => exact h

/-! ## The alarm leaves QUIET -/

/-- SILENT or RECOVERING: the alarm starts HELD (R170). -/
theorem mute_iff (l : LinkState) : l.mute = true ↔ l = .silent ∨ l = .recovering := by
  simp [LinkState.mute]

theorem setAlarm_emerg (a : AlarmState) (s : State) : (setAlarm a s).emerg = { s.emerg with alarm := a } := by
  unfold setAlarm
  split
  next h => rw [← h]
  · simp

theorem setAlarm_touches (a : AlarmState) (s : State) : OnlyTouches [.emerg, .port] s (setAlarm a s) := by
  unfold setAlarm
  split
  · exact onlyTouches_refl _ s
  · exact ((raise_touches _ _ _).widen (by simp)).before rfl fun b => by cases b <;> simp [Kept]

theorem setAlarm_link (a : AlarmState) (s : State) : (setAlarm a s).link = s.link :=
  (setAlarm_touches a s).kept (b := .link) (by simp)

theorem alarmStarts_eq (s : State) :
    alarmStarts s =
      (if startsAs s.link.state = .open then
        { offerOwn .open (alarmLeavesQuiet (setAlarm (startsAs s.link.state) s)) with
          emerg := { (offerOwn .open (alarmLeavesQuiet (setAlarm (startsAs s.link.state) s))).emerg with
            repeatTimer := some 2 } }
      else offerOwn .open (alarmLeavesQuiet (setAlarm (startsAs s.link.state) s))) := by
  have h : (if s.link.state.mute then AlarmState.held else AlarmState.open) = startsAs s.link.state := by
    simp only [startsAs, mute_iff]
  rw [alarmStarts, h]

theorem startsAs_ne (l : LinkState) : startsAs l ≠ .clearing ∧ startsAs l ≠ .quiet := by
  unfold startsAs
  split <;> simp

/-- The call of an alarm that starts (R170 steps 4 to 6). -/
theorem alarmStarts_call (s : State) :
    (alarmStarts s).emerg.alarm = startsAs s.link.state ∧ (alarmStarts s).emerg.number = s.emerg.number
      ∧ (alarmStarts s).emerg.source = s.emerg.source ∧ (alarmStarts s).emerg.repeatTimer = timerAtStart s
      ∧ (alarmStarts s).link.state = s.link.state ∧ (alarmStarts s).link.quietSpans = s.link.quietSpans := by
  have hset := setAlarm_emerg (startsAs s.link.state) s
  have hleft := alarmLeavesQuiet_call (s := setAlarm (startsAs s.link.state) s)
    (by rw [hset]; exact (startsAs_ne _).1)
  obtain ⟨halarm, hnumber, hsource, hrepeats, hstate, hspans⟩ := hleft.trans (offerOwn_call .open _)
  rw [hset] at halarm hnumber hsource hrepeats
  rw [setAlarm_link] at hstate hspans
  rw [alarmStarts_eq, timerAtStart]
  split
  · exact ⟨halarm, hnumber, hsource, rfl, hstate, hspans⟩
  · exact ⟨halarm, hnumber, hsource, hrepeats, hstate, hspans⟩

/-! ## A raise (R169, R170, R177) -/

/-- The alarm numbered, its record formed (R170 steps 1 and 2). -/
def numbered (source : RaiseSource) (s : State) : State :=
  { s with emerg := { s.emerg with
      number := some (wrapInc 255 s.emerg.lastNumber), lastNumber := wrapInc 255 s.emerg.lastNumber, nextRepeat := 0,
      ackHeard := false, clearedSent := 0, source := some source,
      openGroup := some ⟨s.station, wrapInc 255 s.emerg.lastNumber, source, s.port.clock, s.cell⟩ } }

/-- SILENT is left for RECOVERING as an alarm is raised (R20, R170 step 3). -/
def leavesSilent (s : State) : State := if s.link.state = .silent then enterRecovering s else s

theorem raiseAlarm_eq (source : RaiseSource) (s : State) :
    raiseAlarm source s = alarmStarts (leavesSilent (offerAlarmOpen (numbered source s))) := rfl

theorem offerAlarmOpen_touches (s : State) : OnlyTouches [.store, .emerg, .port] s (offerAlarmOpen s) := by
  unfold offerAlarmOpen
  split
  next r _ =>
    have h := (offerGroup_touches .alarmOpen [.alarmOpen r] s).widen (more := [.store, .emerg, .port]) (by simp)
    generalize offerGroup .alarmOpen [.alarmOpen r] s = x at h
    obtain ⟨t, a⟩ := x
    cases a <;> exact h.trans ⟨rfl, fun b => by cases b <;> simp [Kept]⟩
  · exact onlyTouches_refl _ s

/-- The ALARM_OPEN group's offer moves its record and nothing else of the alarm (R177). -/
theorem offerAlarmOpen_emerg (s : State) :
    ∃ rec group, (offerAlarmOpen s).emerg = { s.emerg with openRecord := rec, openGroup := group } := by
  unfold offerAlarmOpen
  split
  next r _ =>
    have h := Safety.offerGroup_emerg .alarmOpen [.alarmOpen r] s
    generalize offerGroup .alarmOpen [.alarmOpen r] s = x at h
    obtain ⟨t, a⟩ := x
    have h : t.emerg = s.emerg := h
    cases a with
    | joined => exact ⟨.queued, none, by rw [← h]⟩
    | full => exact ⟨.owed, t.emerg.openGroup, by rw [← h]⟩
    | sectorFault => exact ⟨.none, none, by rw [← h]⟩
  · exact ⟨_, _, rfl⟩

theorem setLink_touches (l : LinkState) (s : State) : OnlyTouches [.link, .port] s (setLink l s) := by
  unfold setLink
  split
  · exact onlyTouches_refl _ s
  · exact ((raise_touches _ _ _).widen (by simp)).before rfl fun b => by cases b <;> simp [Kept]

theorem setLink_link (l : LinkState) (s : State) : (setLink l s).link = { s.link with state := l } := by
  unfold setLink
  split
  next h => rw [← h]
  · simp

theorem enterRecovering_link (s : State) :
    (enterRecovering s).link = { s.link with state := .recovering, quietSpans := 0, partialSpan := 0 } := by
  rw [enterRecovering, setLink_link]

theorem leavesSilent_touches (s : State) : OnlyTouches [.link, .port] s (leavesSilent s) := by
  unfold leavesSilent
  split
  · exact (setLink_touches _ _).before rfl fun b => by cases b <;> simp [Kept]
  · exact onlyTouches_refl _ s

theorem leavesSilent_emerg (s : State) : (leavesSilent s).emerg = s.emerg := by
  unfold leavesSilent
  split
  · exact Safety.enterRecovering_emerg s
  · rfl

theorem leavesSilent_atRaise (s : State) : LinkAtRaise s (leavesSilent s) ∧
    startsAs (leavesSilent s).link.state = startsAs s.link.state := by
  unfold LinkAtRaise leavesSilent
  split
  next h => simp [enterRecovering_link, startsAs, h]
  next h => simp

/-- The call of an alarm that is raised. -/
theorem raiseAlarm_call (source : RaiseSource) (s : State) :
    (raiseAlarm source s).emerg.alarm = startsAs s.link.state
      ∧ (raiseAlarm source s).emerg.number = some (wrapInc 255 s.emerg.lastNumber)
      ∧ (raiseAlarm source s).emerg.source = some source ∧ (raiseAlarm source s).emerg.repeatTimer = timerAtStart s
      ∧ LinkAtRaise s (raiseAlarm source s) := by
  obtain ⟨rec, group, hemerg⟩ := offerAlarmOpen_emerg (numbered source s)
  have hlink : (offerAlarmOpen (numbered source s)).link = s.link :=
    (offerAlarmOpen_touches (numbered source s)).kept (b := .link) (by simp)
  obtain ⟨⟨hstate, hspans⟩, hstarts⟩ := leavesSilent_atRaise (offerAlarmOpen (numbered source s))
  have hleft := leavesSilent_emerg (offerAlarmOpen (numbered source s))
  rw [hemerg] at hleft
  obtain ⟨halarm, hnumber, hsource, hrepeats, hl, hq⟩ :=
    alarmStarts_call (leavesSilent (offerAlarmOpen (numbered source s)))
  rw [hlink] at hstate hspans hstarts
  rw [hleft] at hnumber hsource
  rw [timerAtStart, hstarts, hleft] at hrepeats
  rw [raiseAlarm_eq]
  exact ⟨halarm.trans hstarts, hnumber, hsource, hrepeats, hl.trans hstate, hq.trans hspans⟩

theorem numbered_reach (source : RaiseSource) (s : State) :
    Reach (numbered source s) (raiseAlarm source s) := by
  rw [raiseAlarm_eq]
  refine (offerAlarmOpen_reach _).trans (Reach.trans ?_ (alarmStarts_reach _))
  unfold leavesSilent
  split
  · exact enterRecovering_reach _
  · exact Reach.refl _

theorem wrapInc_alarm (n : Nat) : wrapInc 255 n = if n < 255 then n + 1 else 0 := rfl

end Sys2Proof.Claims
end

section
/-! SUPPORT. The switch (R168). -/

namespace Sys2Proof.Claims

open Sys2Proof.Machine

theorem switchHoldCompletes_awake {s : State} (hr : s.port.inReset = false) (hh : s.emerg.hold = .running)
    (hp : s.port.part = .running ∨ s.port.part = .dormant) :
    switchHoldCompletes s = switchRaise (wake { s with emerg := { s.emerg with hold := .completed } }) := by
  rw [switchHoldCompletes, if_pos ⟨hr, hh⟩]
  obtain hp | hp := hp <;> simp only [hp]

theorem switchHoldCompletes_asleep {s : State} (hr : s.port.inReset = false) (hh : s.emerg.hold = .running)
    (hp : s.port.part = .scanning ∨ s.port.part = .unconfigured) :
    switchHoldCompletes s = { s with emerg := { s.emerg with hold := .completed, pendingRaise := true } } := by
  rw [switchHoldCompletes, if_pos ⟨hr, hh⟩]
  obtain hp | hp := hp <;> simp only [hp]

/-- The hold, the part state and the slots stand through a raise. -/
theorem raiseAlarm_hold (source : RaiseSource) (s : State) :
    (raiseAlarm source s).emerg.hold = s.emerg.hold ∧ (raiseAlarm source s).pending = s.pending
      ∧ (raiseAlarm source s).port.part = s.port.part ∧ (raiseAlarm source s).link.slotClock = s.link.slotClock
      ∧ (raiseAlarm source s).link.listenIn = s.link.listenIn
      ∧ (raiseAlarm source s).tx.tickTimer = s.tx.tickTimer := by
  have h := numbered_reach source s
  obtain ⟨-, -, hpending, -, -, -, -, -, -, hlisten, hclock, -⟩ := h.keeps
  obtain ⟨hpart, -⟩ := h.keeps_port
  unfold Reach at h
  exact ⟨by rw [h]; rfl, hpending, hpart, hclock, hlisten, by rw [h]; rfl⟩

theorem becomeRunning_emerg (s : State) :
    (becomeRunning s).emerg = { s.emerg with lamp := (becomeRunning s).emerg.lamp, lampOn := (becomeRunning s).emerg.lampOn } := by
  have h : { (becomeRunning s).emerg with lamp := s.emerg.lamp, lampOn := s.emerg.lampOn } = s.emerg :=
    (becomeRunning_touches s).kept (b := .emerg) (by simp)
  rw [← h]

theorem becomeRunning_call (s : State) :
    (becomeRunning s).emerg.alarm = s.emerg.alarm ∧ (becomeRunning s).emerg.number = s.emerg.number
      ∧ (becomeRunning s).emerg.hold = s.emerg.hold := by
  rw [becomeRunning_emerg]
  exact ⟨rfl, rfl, rfl⟩

theorem becomeRunning_running (s : State) :
    (becomeRunning s).port.part = .running ∧ (becomeRunning s).link = { s.link with slotClock := true, listenIn := some 0 }
      ∧ (becomeRunning s).tx.tickTimer = some s.tx.tick := by
  simp [becomeRunning, startListening]

/-- Settles O50: by the part state as the hold completes, and by whether the alarm is QUIET. -/
theorem switchHoldRaisesOnce : Obligations.SwitchHoldRaisesOnce := by
  intro s hr
  have touchHold : ∀ h p, OnlyTouches [.emerg] s { s with emerg := { s.emerg with hold := h, pendingRaise := p } } :=
    fun h p => ⟨rfl, fun b => by cases b <;> simp [Kept]⟩
  refine ⟨fun hn => ?_, ?_, fun hn => ?_, fun hh hp => ?_, fun hh hp ha => ?_, fun hh hp ha => ?_, fun hh hp ha => ?_,
    fun hh hp ha => ?_⟩
  · have hb : switchHoldBegins s = { s with emerg := { s.emerg with hold := .running } } := if_pos ⟨hr, hn⟩
    exact completes_event hb rfl ⟨by simp, by simp, by simp, onlyTouches_settle (touchHold .running _)⟩
  · exact completes_of (t := settle (switchRelease s)) rfl
      ⟨by simp [switchRelease], by simp [switchRelease], by simp [switchRelease], onlyTouches_settle (touchHold .none _)⟩
  · refine completes_nothing (congrArg (fun u => Host.Outcome.next (settle u)) (if_neg ?_))
    rintro ⟨-, h⟩
    obtain hn | hn := hn <;> simp [hn] at h
  · have hc : switchHoldCompletes s = { s with emerg := { s.emerg with hold := .completed, pendingRaise := true } } :=
      switchHoldCompletes_asleep hr hh hp
    exact completes_event hc rfl ⟨by simp, by simp, by simp, onlyTouches_settle (touchHold .completed true)⟩
  · have hc : switchHoldCompletes s = { s with emerg := { s.emerg with hold := .completed } } := by
      rw [switchHoldCompletes_awake hr hh (.inl hp)]
      exact (congrArg switchRaise (wake_of_not_dormant (by simp [hp]))).trans (if_neg ha)
    exact completes_event hc rfl ⟨by simp, by simp, by simp, onlyTouches_settle (touchHold .completed _)⟩
  · have hc : switchHoldCompletes s = raiseAlarm .switch { s with emerg := { s.emerg with hold := .completed } } := by
      rw [switchHoldCompletes_awake hr hh (.inl hp)]
      exact (congrArg switchRaise (wake_of_not_dormant (by simp [hp]))).trans (if_pos ha)
    obtain ⟨halarm, hnumber, hsource, hrepeats, hlink⟩ :=
      raiseAlarm_call .switch { s with emerg := { s.emerg with hold := .completed } }
    obtain ⟨hhold, hpending, -⟩ := raiseAlarm_hold .switch { s with emerg := { s.emerg with hold := .completed } }
    exact completes_event hc rfl ⟨by simpa using hhold, by simpa using halarm, by simpa [LinkAtRaise] using hlink,
      by simpa using hsource, by simpa [wrapInc_alarm] using hnumber, by simpa [timerAtStart] using hrepeats, by simpa using hpending⟩
  · have hc : switchHoldCompletes s =
        raiseAlarm .switch (becomeRunning { s with emerg := { s.emerg with hold := .completed } }) := by
      rw [switchHoldCompletes_awake hr hh (.inr hp)]
      refine (congrArg switchRaise (wake_of_dormant (by exact hp))).trans (if_pos ?_)
      rw [becomeRunning_emerg]
      exact ha
    generalize hv : becomeRunning { s with emerg := { s.emerg with hold := .completed } } = v at hc
    obtain ⟨hpart, hlink, htick⟩ := becomeRunning_running { s with emerg := { s.emerg with hold := .completed } }
    have hemerg := becomeRunning_emerg { s with emerg := { s.emerg with hold := .completed } }
    have hpend : v.pending = s.pending := by
      rw [← hv]
      exact (becomeRunning_touches _).1
    rw [hv] at hpart hlink htick hemerg
    obtain ⟨halarm, hnumber, hsource, hrepeats, hatRaise⟩ := raiseAlarm_call .switch v
    obtain ⟨hhold, hpending, hpart', hclock, hlisten, htick'⟩ := raiseAlarm_hold .switch v
    rw [hlink] at halarm hclock hlisten
    rw [timerAtStart, hlink, hemerg] at hrepeats
    rw [LinkAtRaise, hlink] at hatRaise
    rw [hemerg] at hnumber hhold
    exact completes_event hc rfl ⟨by simp [hpart', hpart], by simpa using hclock, by simpa using hlisten,
      by simp [htick', htick], by simpa using hhold, by simpa using halarm, by simpa [LinkAtRaise] using hatRaise,
      by simpa using hsource, by simpa [wrapInc_alarm] using hnumber, by simpa [timerAtStart] using hrepeats,
      by simp [hpending, hpend]⟩
  · have hc : switchHoldCompletes s = becomeRunning { s with emerg := { s.emerg with hold := .completed } } := by
      rw [switchHoldCompletes_awake hr hh (.inr hp)]
      refine (congrArg switchRaise (wake_of_dormant (by exact hp))).trans (if_neg ?_)
      rw [becomeRunning_emerg]
      exact ha
    obtain ⟨hpart, hlink, -⟩ := becomeRunning_running { s with emerg := { s.emerg with hold := .completed } }
    obtain ⟨halarm, hnumber, hhold⟩ := becomeRunning_call { s with emerg := { s.emerg with hold := .completed } }
    exact completes_event hc rfl ⟨by simpa using hpart, by simp [hlink], by simp [hlink],
      by simpa using hhold, by simpa using halarm, by simpa using hnumber⟩

end Sys2Proof.Claims
end

section
/-! SUPPORT. A character written into the display memory (R157, R161). -/

namespace Sys2Proof.Claims

open Sys2Proof.Machine

theorem charOf_eq {p l c : Nat} {page : List Line} {s : State} (h : s.msg.pages[p]? = some page) :
    charOf p l c s = page[l]?.bind (·.chars[c]?) := by
  simp [charOf, h]

theorem setChar_pages {p : Nat} {page : List Line} {s : State} (l c : Nat) (b : Byte) (h : s.msg.pages[p]? = some page) :
    (setChar p l c b s).msg.pages =
      s.msg.pages.set p (page.set l { page.getD l .blank with chars := (page.getD l .blank).chars.set c b }) := by
  simp [setChar, setPage, pageOf, List.getD, h]

/-- A page that does not stand takes no character. -/
theorem setChar_pages_none {p : Nat} {s : State} (l c : Nat) (b : Byte) (h : s.msg.pages[p]? = none) :
    (setChar p l c b s).msg.pages = s.msg.pages := by
  simp only [setChar, setPage]
  exact List.set_eq_of_length_le (List.getElem?_eq_none_iff.1 h)

/-- The other characters stand. -/
theorem charOf_setChar_other {p l c q m k : Nat} {b : Byte} {s : State} (h : ¬ (q = p ∧ m = l ∧ k = c)) :
    charOf q m k (setChar p l c b s) = charOf q m k s := by
  cases hp : s.msg.pages[p]? with
  | none => simp only [charOf, setChar_pages_none l c b hp]
  | some page =>
    have hpages := setChar_pages l c b hp
    by_cases hq : q = p
    · subst hq
      have hlen : q < s.msg.pages.length := (List.getElem?_eq_some_iff.1 hp).1
      rw [charOf_eq (page := page.set l { page.getD l .blank with chars := (page.getD l .blank).chars.set c b })
        (by rw [hpages, List.getElem?_set_self hlen]), charOf_eq hp]
      by_cases hm : m = l
      · subst hm
        cases hl : page[m]? with
        | none => simp [List.getElem?_eq_none_iff.1 hl]
        | some line =>
          have hmlen : m < page.length := (List.getElem?_eq_some_iff.1 hl).1
          have hk : c ≠ k := fun hk => h ⟨rfl, rfl, hk.symm⟩
          simp [List.getElem?_set_self hmlen, List.getD, hl, List.getElem?_set_ne hk]
      · simp [List.getElem?_set_ne (Ne.symm hm)]
    · simp only [charOf, hpages, List.getElem?_set_ne (Ne.symm hq)]

/-- The character written stands in its place of the memory. -/
theorem charOf_setChar_self {p l c : Nat} {b : Byte} {s : State} (h : DisplayShape s) (hp : p < 8) (hl : l < 4)
    (hc : c < 20) : charOf p l c (setChar p l c b s) = some b := by
  obtain ⟨hpages, hshape⟩ := h
  have hplen : p < s.msg.pages.length := by omega
  obtain ⟨hlines, hchars⟩ := hshape s.msg.pages[p] (List.getElem_mem hplen)
  have hllen : l < s.msg.pages[p].length := by omega
  have hclen : c < s.msg.pages[p][l].chars.length := by
    have := hchars s.msg.pages[p][l] (List.getElem_mem hllen)
    omega
  have hpage : s.msg.pages[p]? = some s.msg.pages[p] := List.getElem?_eq_getElem hplen
  rw [charOf_eq (by rw [setChar_pages l c b hpage, List.getElem?_set_self hplen]), List.getElem?_set_self hllen]
  simp [List.getD, List.getElem?_eq_getElem hllen, List.getElem?_set_self hclen]

theorem charOf_congr {p l c : Nat} {s t : State} (h : t.msg.pages = s.msg.pages) : charOf p l c t = charOf p l c s := by
  simp only [charOf, h]

theorem setChar_touches (p l c : Nat) (b : Byte) (s : State) : OnlyTouches [.msg] s (setChar p l c b s) :=
  setPage_touches _ _ s

end Sys2Proof.Claims
end

section
/-! SUPPORT. The queue as an entry joins, whatever is presented (R8, R9, R41): its entries but for which of them waits. -/

namespace Sys2Proof.Claims

open Sys2Proof.Machine

/-- An entry but for whether it waits or is held. -/
def resting (e : PendEntry) : PendEntry := { e with state := .waiting }

theorem map_resting {α : Type} {g : PendEntry → α} (hg : ∀ e, g (resting e) = g e) {q r : List PendEntry}
    (h : q.map resting = r.map resting) : q.map g = r.map g := by
  have hall : ∀ l : List PendEntry, l.map g = (l.map resting).map g := fun l => by
    rw [List.map_map]
    exact List.map_congr_left fun e _ => (hg e).symm
  rw [hall q, h, ← hall r]

theorem present_resting (e : PendEntry) (b : Bool) (s : State) :
    (present e b s).tx.queue.map resting = s.tx.queue.map resting := by
  rw [(presented_present e b s).1.2, List.map_map]
  refine List.map_congr_left fun a _ => ?_
  by_cases h : a.uid = e.uid <;> simp [h, resting]

theorem handBackDeferring_resting (s : State) : (handBackDeferring s).tx.queue.map resting = s.tx.queue.map resting := by
  by_cases h : s.link.side = .deferring
  · rw [handBackDeferring_held h, handedBack, List.map_map]
    refine List.map_congr_left fun a _ => ?_
    by_cases h : a.state = .deferring <;> simp [h, resting]
  · rw [handBackDeferring_none h]

theorem accessOpportunity_resting (b : Bool) (s : State) :
    (accessOpportunity b s).tx.queue.map resting = s.tx.queue.map resting := by
  unfold accessOpportunity
  repeat' split
  · exact present_resting _ b s
  · rfl
  · rfl

theorem displace_resting (b : Bool) (s : State) : (displace b s).tx.queue.map resting = s.tx.queue.map resting := by
  unfold displace
  repeat' split
  · rw [accessOpportunity_resting, handBackDeferring_resting]
  · rfl
  · rfl

/-- A join adds its entry at the end. -/
theorem joinEntry_resting (e : PendEntry) (s : State) :
    (joinEntry e s).tx.queue.map resting = (joined e s).tx.queue.map resting := by
  rw [joinEntry_eq]
  repeat' split
  · exact accessOpportunity_resting false _
  · rfl
  · exact displace_resting false _

end Sys2Proof.Claims
end

section
/-! SUPPORT. The own call joins the queue (R171), and the alarm's timers (R172, R176, R184). -/

namespace Sys2Proof.Claims

open Sys2Proof.Machine

theorem settle_tx (s : State) : (settle s).tx = s.tx := by simp

theorem offerOwn_held {p : Phase} {s : State} (h : s.emerg.ownEntry.isSome = true) : offerOwn p s = s := if_pos h

/-- The state with the own call in the queue. -/
def called (p : Phase) (s : State) : State :=
  { joinEntry (ownEmergency p s) s with
    emerg := { s.emerg with
      ownEntry := some ⟨p, s.nextUid⟩, nextRepeat := min 65535 (s.emerg.nextRepeat + 1) } }

theorem kept_emerg_of_link_tx {s t : State} (h : t.emerg = s.emerg) : Kept .emerg s t := by
  simp [Kept, h]

theorem joinEntry_emerg (e : PendEntry) (s : State) : (joinEntry e s).emerg = s.emerg := by
  have hopp : ∀ b u, (accessOpportunity b u).emerg = u.emerg := fun b u => by
    unfold accessOpportunity present
    repeat' split
    all_goals simp
  have hback : ∀ u, (handBackDeferring u).emerg = u.emerg := fun u => by
    unfold handBackDeferring
    split <;> rfl
  rw [joinEntry_eq]
  repeat' split
  · rw [hopp]; rfl
  · rfl
  · unfold displace
    repeat' split
    · rw [hopp, hback]; rfl
    · rfl
    · rfl

/-- The own call joins while there is a place (R41, R171). -/
theorem offerOwn_joins {p : Phase} {s : State} (hn : s.emerg.ownEntry = none) (hq : s.tx.queue.length < 20) :
    offerOwn p s = called p s := by
  have hfull : refusedFull s.tx.queue .emergencyOrigin = false := by
    simp [refusedFull, Config.pendingCapacity, Nat.not_le.2 hq]
  have hoffer : offerEntry (ownEmergency p s) s = (joinEntry (ownEmergency p s) s, .joined s.nextUid) :=
    offerEntry_joins _ hfull rfl
  rw [offerOwn, if_neg (by simp [hn]), hoffer]
  simp only [joinEntry_emerg]
  rfl

theorem called_touches (p : Phase) (s : State) : OnlyTouches [.link, .tx, .emerg] s (called p s) :=
  ((joinEntry_touches (ownEmergency p s) s).widen (by simp)).trans
    ⟨rfl, fun b => by cases b <;> simp [Kept, called]⟩

theorem called_queue (p : Phase) (s : State) :
    (called p s).tx.queue.map resting =
      (s.tx.queue ++ [{ ownEmergency p s with uid := s.nextUid }]).map resting :=
  joinEntry_resting (ownEmergency p s) s

/-- The own call alone in the queue. -/
theorem called_alone {α : Type} {g : PendEntry → α} (hg : ∀ e, g (resting e) = g e) {p : Phase} {s : State}
    (h : s.tx.queue = []) : (called p s).tx.queue.map g = [g { ownEmergency p s with uid := s.nextUid }] := by
  rw [map_resting hg (called_queue p s), h]
  rfl

theorem offerCleared_joins {s : State} (hn : s.emerg.ownEntry = none) (hq : s.tx.queue.length < 20) :
    offerCleared s = called .cleared s := by
  unfold offerCleared
  rw [offerOwn_joins hn hq]
  rfl

theorem reofferAlarmOpen_settled {s : State} (h : s.emerg.openRecord ≠ .owed) : reofferAlarmOpen s = s := if_neg h

theorem repeatTimerExpiry_repeats {s : State} (ha : s.emerg.alarm = .open ∨ s.emerg.alarm = .acknowledged)
    (ht : s.emerg.repeatTimer.isSome = true) (hr : s.emerg.openRecord ≠ .owed) :
    repeatTimerExpiry s =
      offerOwn .open { s with emerg := { s.emerg with
        repeatTimer := some (if s.emerg.alarm = .open then 2 else 15) } } := by
  have hn : ¬ (s.emerg.repeatTimer.isNone = true) := by
    cases h : s.emerg.repeatTimer <;> simp [h] at ht ⊢
  rw [repeatTimerExpiry, if_neg hn]
  split
  next h => rw [if_pos h, reofferAlarmOpen_settled (by exact hr)]
  next h => rw [if_neg (by simp [h]), reofferAlarmOpen_settled (by exact hr)]
  all_goals next h => simp [h] at ha

theorem spacingTimerExpiry_sends {s : State} (ha : s.emerg.alarm = .clearing) (ht : s.emerg.spacingTimer.isSome = true) :
    spacingTimerExpiry s = offerCleared { s with emerg := { s.emerg with spacingTimer := none } } :=
  if_pos ⟨ht, ha⟩

theorem alarmTimersOfferTheCall : AlarmTimersOfferTheCall := by
  intro s hs hq hown
  refine ⟨fun ha ht hr => ?_, fun ht => ?_, fun ha ht => ?_, fun ht => ?_⟩
  · have hrun := (repeatTimerExpiry_repeats ha ht hr).trans (offerOwn_joins hown (by simp [hq]))
    refine completes_event hrun rfl ⟨by simp [called], by simp [called], by simp [called], ?_, onlyTouches_settle ?_⟩
    · rw [settle_tx]
      exact (called_alone (g := fun e => (e.cls, e.payload, e.dest)) (fun _ => rfl) (by exact hq)).trans rfl
    · exact (called_touches _ _).before rfl fun b => by cases b <;> simp [Kept]
  · exact completes_nothing (congrArg (fun u => Host.Outcome.next (settle u)) (if_pos (by simp [ht])))
  · have hrun := (spacingTimerExpiry_sends ha ht).trans (offerCleared_joins hown (by simp [hq]))
    refine completes_event hrun rfl ⟨by simp [called], by simp [called, ha], ?_, onlyTouches_settle ?_⟩
    · rw [settle_tx]
      exact (called_alone (g := fun e => (e.cls, e.payload, e.dest)) (fun _ => rfl) (by exact hq)).trans rfl
    · exact (called_touches _ _).before rfl fun b => by cases b <;> simp [Kept]
  · have hawake : s.awake = true := by simp [State.awake, hs.1]
    have hrun : markerTimerExpiry s =
        setChar 0 0 19 space { s with emerg := { s.emerg with markerTimer := none, markerShown := false } } :=
      if_pos ⟨ht, hawake⟩
    refine completes_event hrun rfl ⟨by simp, by simp, by simp, fun hd => ⟨?_, fun p l k hne => ?_⟩, by simp,
      onlyTouches_settle ?_⟩
    · rw [charOf_congr (by simp; rfl)]
      exact charOf_setChar_self (s := { s with emerg := { s.emerg with markerTimer := none, markerShown := false } }) hd
        (by decide) (by decide) (by decide)
    · rw [charOf_congr (by simp; rfl)]
      exact charOf_setChar_other (s := { s with emerg := { s.emerg with markerTimer := none, markerShown := false } }) hne
    · exact ((setChar_touches _ _ _ _ _).widen (by simp)).before rfl fun b => by cases b <;> simp [Kept]

theorem oneOwnEntryAtATime : OneOwnEntryAtATime := by
  intro o s hs hown
  have touch : ∀ e : Emerg, OnlyTouches [.emerg] s { s with emerg := e } := fun e =>
    ⟨rfl, fun b => by cases b <;> simp [Kept]⟩
  refine ⟨fun ha ht hr => ?_, fun ha ht => ?_⟩
  · have hrun := (repeatTimerExpiry_repeats ha ht hr).trans (offerOwn_held (by simp [hown]))
    exact completes_event hrun rfl ⟨by rw [settle_emerg], onlyTouches_settle (touch _)⟩
  · have hrun : spacingTimerExpiry s = { s with emerg := { s.emerg with spacingTimer := none } } := by
      rw [spacingTimerExpiry_sends ha ht]
      simp [offerCleared, offerOwn_held, hown]
    exact completes_event hrun rfl ⟨by rw [settle_emerg], onlyTouches_settle (touch _)⟩

/-- Settles O51. -/
theorem alarmTimersRepeatTheCall : Obligations.AlarmTimersRepeatTheCall := ⟨alarmTimersOfferTheCall, oneOwnEntryAtATime⟩

end Sys2Proof.Claims
end

section
/-! SUPPORT. RELAY_STALE, RELAY_ENTRY_AGED_OUT and ROOF_LAMP_PHASE (R179, R182, R183). -/

namespace Sys2Proof.Claims

open Sys2Proof.Machine

/-! ## A relay asked back (R182) -/

/-- A stale relay that is not in an exchange comes back; one in an exchange stays (R182). -/
theorem relayStale_emergency {e : RelayEntry} {p : RelayPending} {b : PendEntry} {s : State} (hr : s.emerg.relays = [e])
    (hp : e.pending = some p) (hb : findEntry p.uid s = some b) :
    relayStale e.id .emergency s = if b.unkeyed then retract b.uid s else s := by
  simp [relayStale, findRelay, hr, hp, hb]

theorem relayStale_ack {e : RelayEntry} {uid joined : Nat} {b : PendEntry} {s : State} (hr : s.emerg.relays = [e])
    (hp : e.ackRelay = .pending uid joined) (hb : findEntry uid s = some b) :
    relayStale e.id .ack s = if b.unkeyed then retract b.uid s else s := by
  simp [relayStale, findRelay, hr, hp, hb]

/-- The result of a relay of the only pair in the table (R182). -/
theorem report_relay {e : RelayEntry} {b : PendEntry} {o : TxOutcome} {r : Bool} {s : State} (hr : s.emerg.relays = [e])
    (ho : b.owner = .emergencyController) (href : b.ref = .relay e.id)
    (ha : (relayResult ⟨b, o, r⟩ e).agedOut = false) :
    report ⟨b, o, r⟩ s = { s with emerg := { s.emerg with relays := [relayResult ⟨b, o, r⟩ e] } } := by
  simp [report, ho, emergencyResult, href, dropAged, updateRelay, updateWhere, hr, ha]

theorem retract_relay {e : RelayEntry} {b : PendEntry} {s : State} (hr : s.emerg.relays = [e])
    (hb : findEntry b.uid s = some b) (hs : b.state = .waiting ∨ b.state = .deferring)
    (ho : b.owner = .emergencyController) (href : b.ref = .relay e.id)
    (ha : (relayResult ⟨b, .retracted, true⟩ e).agedOut = false) :
    retract b.uid s =
      { takenOut b s with emerg := { s.emerg with relays := [relayResult ⟨b, .retracted, true⟩ e] } } :=
  (retract_unkeyed hb hs).trans (report_relay (s := takenOut b s) hr ho href ha)

theorem unkeyed_of {b : PendEntry} (h : b.state = .waiting ∨ b.state = .deferring) : b.unkeyed = true := by
  obtain h | h := h <;> simp [PendEntry.unkeyed, h]

theorem relayResult_emergency {e : RelayEntry} {p : RelayPending} {b : PendEntry} (hp : e.pending = some p)
    (hb : b.uid = p.uid) : relayResult ⟨b, .retracted, true⟩ e = { e with pending := none } := by
  simp [relayResult, hp, hb]

theorem relayResult_ack {e : RelayEntry} {uid joined : Nat} {b : PendEntry} (hp : e.ackRelay = .pending uid joined)
    (hn : e.pending = none) (hb : b.uid = uid) : relayResult ⟨b, .retracted, true⟩ e = { e with ackRelay := .done } := by
  simp [relayResult, relayResult.ackResult, hp, hn, hb]

theorem takenOut_emerg_touches (b : PendEntry) (e : Emerg) (s : State) :
    OnlyTouches [.link, .tx, .emerg] s { takenOut b s with emerg := e } :=
  ((takenOut_touches b s).widen (by simp)).trans ⟨rfl, fun c => by cases c <;> simp [Kept]⟩

theorem takenOut_emerg_touches_waiting {b : PendEntry} (hw : b.state = .waiting) (e : Emerg) (s : State) :
    OnlyTouches [.tx, .emerg] s { takenOut b s with emerg := e } :=
  ((takenOut_waiting_touches (b := b) (by simp [hw]) s).widen (by simp)).trans ⟨rfl, fun c => by cases c <;> simp [Kept]⟩

theorem completes_unstale {c : Instr} {b : PendEntry} {u s : State} (hb : b.state = .onAir)
    (hc : exec c s = .next (settle (if b.unkeyed then u else s))) : Completes c s fun t => OnlyTouches [] s t := by
  rw [if_neg (by simp [PendEntry.unkeyed, hb])] at hc
  exact completes_nothing hc

theorem staleEmergencyRelay (e : RelayEntry) (p : RelayPending) (b : PendEntry) (s : State) (hr : s.emerg.relays = [e])
    (hp : e.pending = some p) (hfind : findEntry p.uid s = some b) (hb : b.uid = p.uid)
    (ho : b.owner = .emergencyController) (href : b.ref = .relay e.id) (ha : e.agedOut = false) :
    (b.state = .waiting → Completes (.relayStale e.id .emergency) s fun t =>
        t.tx = { s.tx with queue := s.tx.queue.filter fun a => a.uid != p.uid }
          ∧ t.emerg.relays = [{ e with pending := none }] ∧ t.emerg.alarm = s.emerg.alarm
          ∧ OnlyTouches [.tx, .emerg] s t)
      ∧ (b.state = .deferring → Completes (.relayStale e.id .emergency) s fun t =>
        t.tx = { s.tx with queue := s.tx.queue.filter fun a => a.uid != p.uid }
          ∧ t.link = { s.link with side := .idle, deferral := none } ∧ t.emerg.relays = [{ e with pending := none }]
          ∧ t.emerg.alarm = s.emerg.alarm ∧ OnlyTouches [.link, .tx, .emerg] s t)
      ∧ (b.state = .onAir → Completes (.relayStale e.id .emergency) s fun t => OnlyTouches [] s t) := by
  have hstale := relayStale_emergency hr hp hfind
  have hback := fun hs => retract_relay hr (hb ▸ hfind) hs ho href (by rw [relayResult_emergency hp hb]; exact ha)
  rw [relayResult_emergency hp hb] at hback
  refine ⟨fun hw => ?_, fun hd => ?_, fun hk => completes_unstale hk (by rw [← hstale]; rfl)⟩
  · rw [if_pos (unkeyed_of (.inl hw)), hback (.inl hw)] at hstale
    exact completes_event hstale rfl ⟨by simp [takenOut, hb], by simp, by simp,
      onlyTouches_settle (takenOut_emerg_touches_waiting hw _ s)⟩
  · rw [if_pos (unkeyed_of (.inr hd)), hback (.inr hd)] at hstale
    exact completes_event hstale rfl ⟨by simp [takenOut, hb], by simp [takenOut, hd], by simp, by simp,
      onlyTouches_settle (takenOut_emerg_touches b _ s)⟩

theorem staleAckRelay (e : RelayEntry) (uid joined : Nat) (b : PendEntry) (s : State) (hr : s.emerg.relays = [e])
    (hp : e.ackRelay = .pending uid joined) (hn : e.pending = none) (hfind : findEntry uid s = some b) (hb : b.uid = uid)
    (ho : b.owner = .emergencyController) (href : b.ref = .relay e.id) (ha : e.agedOut = false) :
    (b.state = .waiting ∨ b.state = .deferring → Completes (.relayStale e.id .ack) s fun t =>
        t.tx = { s.tx with queue := s.tx.queue.filter fun a => a.uid != uid }
          ∧ t.link = (if b.state = .deferring then { s.link with side := .idle, deferral := none } else s.link)
          ∧ t.emerg.relays = [{ e with ackRelay := .done }] ∧ t.emerg.alarm = s.emerg.alarm
          ∧ OnlyTouches [.link, .tx, .emerg] s t)
      ∧ (b.state = .onAir → Completes (.relayStale e.id .ack) s fun t => OnlyTouches [] s t) := by
  have hstale := relayStale_ack hr hp hfind
  have hback := fun hs => retract_relay hr (hb ▸ hfind) hs ho href (by rw [relayResult_ack hp hn hb]; exact ha)
  rw [relayResult_ack hp hn hb] at hback
  refine ⟨fun hs => ?_, fun hk => completes_unstale hk (by rw [← hstale]; rfl)⟩
  rw [if_pos (unkeyed_of hs), hback hs] at hstale
  exact completes_event hstale rfl ⟨by simp [takenOut, hb], by simp [takenOut], by simp, by simp,
    onlyTouches_settle (takenOut_emerg_touches b _ s)⟩

/-! ## A pair aged out (R179) -/

theorem relayEntryAgedOut_touches (id : AlarmId) (s : State) : OnlyTouches [.emerg] s (relayEntryAgedOut id s) :=
  ⟨rfl, fun b => by cases b <;> simp [Kept, relayEntryAgedOut, dropAged, updateRelay]⟩

theorem agedOutPair (e : RelayEntry) (s : State) (_ : e ∈ s.emerg.relays)
    (hall : ∀ a ∈ s.emerg.relays, a.agedOut = false ∧ (a.id = e.id → a = e)) :
    (e.pending = none → e.ackRelay = .no ∨ e.ackRelay = .done → Completes (.relayEntryAgedOut e.id) s fun t =>
        t.emerg.relays = s.emerg.relays.filter (fun a => a.id != e.id) ∧ t.emerg.alarm = s.emerg.alarm
          ∧ OnlyTouches [.emerg] s t)
      ∧ (e.pending.isSome = true → Completes (.relayEntryAgedOut e.id) s fun t =>
        t.emerg.relays = s.emerg.relays.map (fun a => if a.id = e.id then { a with agedOut := true } else a)
          ∧ OnlyTouches [.emerg] s t) := by
  have hrelays : (relayEntryAgedOut e.id s).emerg.relays =
      (s.emerg.relays.map fun a => if a.id = e.id then { a with agedOut := true } else a).filter
        fun a => !a.agedOut || a.relaying := by
    simp [relayEntryAgedOut, dropAged, updateRelay, updateWhere]
  refine ⟨fun hn ha => ?_, fun hs => ?_⟩
  · have hidle : e.relaying = false := relaying_eq_false.2 ⟨hn, ha⟩
    refine completes_event (u := relayEntryAgedOut e.id s) rfl rfl
      ⟨?_, by simp [relayEntryAgedOut, dropAged, updateRelay], onlyTouches_settle (relayEntryAgedOut_touches e.id s)⟩
    simp only [settle_keeps_emerg, hrelays]
    rw [List.filter_map, List.filter_congr (q := fun a => a.id != e.id)]
    · rw [List.map_congr_left (g := id), List.map_id]
      intro a ha
      exact if_neg (by simpa using (List.mem_filter.1 ha).2)
    · intro a ha
      obtain ⟨hout, hid⟩ := hall a ha
      by_cases h : a.id = e.id
      · rw [hid h]
        simpa [RelayEntry.relaying] using hidle
      · simp [h, hout]
  · refine completes_event (u := relayEntryAgedOut e.id s) rfl rfl
      ⟨?_, onlyTouches_settle (relayEntryAgedOut_touches e.id s)⟩
    simp only [settle_keeps_emerg, hrelays]
    refine List.filter_eq_self.2 fun a ha => ?_
    obtain ⟨b, hb, rfl⟩ := List.mem_map.1 ha
    obtain ⟨hout, hid⟩ := hall b hb
    by_cases h : b.id = e.id
    · rw [hid h]
      simp [RelayEntry.relaying, hs]
    · simp [h, hout]

/-! ## The roof lamp (R183) -/

/-- Where the lamp has its pattern already, what follows the event leaves the emergency controller as it is. -/
theorem settle_emerg_of_pattern {s : State} (h : s.emerg.lamp = lampTable s) : (settle s).emerg = s.emerg := by
  rw [settle_emerg, Safety.lampPattern_eq_lampTable, ← h, if_pos rfl]

theorem lampPhases (s : State) (h : s.emerg.lamp = lampTable s) :
    (s.emerg.lamp = .slow ∨ s.emerg.lamp = .fast → Completes .roofLampPhase s fun t =>
        t.emerg = { s.emerg with lampOn := !s.emerg.lampOn } ∧ OnlyTouches [.emerg] s t)
      ∧ (s.emerg.lamp = .steady ∨ s.emerg.lamp = .off → Completes .roofLampPhase s fun t =>
        t.emerg = s.emerg ∧ OnlyTouches [] s t) := by
  refine ⟨fun hf => ?_, fun hf => ?_⟩
  · have hphase : roofLampPhase s = { s with emerg := { s.emerg with lampOn := !s.emerg.lampOn } } := if_pos hf
    exact completes_event hphase rfl ⟨settle_emerg_of_pattern (by exact h),
      onlyTouches_settle ⟨rfl, fun b => by cases b <;> simp [Kept]⟩⟩
  · have hphase : roofLampPhase s = s := if_neg (by obtain hf | hf := hf <;> simp [hf])
    exact completes_event hphase rfl ⟨settle_emerg_of_pattern h, onlyTouches_settle (onlyTouches_refl _ s)⟩

/-- Settles O52. -/
theorem relaysAgeAndTheLampFlashes : Obligations.RelaysAgeAndTheLampFlashes :=
  ⟨staleEmergencyRelay, staleAckRelay, agedOutPair, lampPhases⟩

end Sys2Proof.Claims
end

section
/-! SUPPORT. An alarm that starts with nothing to treat (R170, R178), and CONFIGURE (R168, R178, R194, R195). -/

namespace Sys2Proof.Claims

open Sys2Proof.Machine

/-! ## The start with nothing to treat -/

theorem removeWhere_none {p : PendEntry → Bool} {o : TxOutcome} {s : State} (h : ∀ e ∈ s.tx.queue, e.unkeyed = true → p e = false) :
    removeWhere p o s = s := by
  have hnone : s.tx.queue.filter (fun e => e.unkeyed && p e) = [] := by
    rw [List.filter_eq_nil_iff]
    intro e he hc
    simp only [Bool.and_eq_true] at hc
    rw [h e he hc.1] at hc
    exact absurd hc.2 Bool.false_ne_true
  rw [removeWhere, hnone, List.foldl_nil]

theorem alarmLeavesQuiet_alone {s : State} (ht : s.offers.table = []) (hq : s.tx.queue = []) :
    alarmLeavesQuiet s = flagEmergency s := by
  rw [alarmLeavesQuiet, ht, List.foldl_nil]
  exact removeWhere_none (by simp [flagEmergency, hq])

/-- The state as the first call joins, with nothing to treat. -/
def started (s : State) : State :=
  called .open (flagEmergency (setAlarm (startsAs s.link.state) s))

theorem alarmStarts_alone {s : State} (hn : s.emerg.ownEntry = none) (hq : s.tx.queue = []) (ht : s.offers.table = []) :
    alarmStarts s =
      if startsAs s.link.state = .open then
        { started s with emerg := { (started s).emerg with repeatTimer := some 2 } }
      else started s := by
  have hkept := setAlarm_touches (startsAs s.link.state) s
  have htx : _ = s.tx := hkept.kept (b := .tx) (by simp)
  have hoffers : _ = s.offers := hkept.kept (b := .offers) (by simp)
  rw [alarmStarts_eq, alarmLeavesQuiet_alone (by rw [hoffers, ht]) (by rw [htx, hq]),
    offerOwn_joins (by simpa [flagEmergency, setAlarm_emerg] using hn) (by simp [flagEmergency, htx, hq])]
  rfl

/-- The emergency controller as the first call joins. -/
theorem alarmStarts_alone_emerg {s : State} (hn : s.emerg.ownEntry = none) (hq : s.tx.queue = [])
    (ht : s.offers.table = []) :
    ∃ u, (alarmStarts s).emerg = { s.emerg with
      alarm := startsAs s.link.state, ownEntry := some ⟨.open, u⟩, nextRepeat := min 65535 (s.emerg.nextRepeat + 1),
      repeatTimer := timerAtStart s } := by
  rw [alarmStarts_alone hn hq ht, timerAtStart]
  split
  · exact ⟨_, by simp [started, called, flagEmergency, setAlarm_emerg]; rfl⟩
  · exact ⟨_, by simp [started, called, flagEmergency, setAlarm_emerg]; rfl⟩

/-- The only entry of the queue is the first call. -/
theorem alarmStarts_alone_queue {α : Type} {g : PendEntry → α} (hg : ∀ e, g (resting e) = g e)
    (huid : ∀ (e : PendEntry) u, g { e with uid := u } = g e) {s : State}
    (hn : s.emerg.ownEntry = none) (hq : s.tx.queue = []) (ht : s.offers.table = []) :
    (alarmStarts s).tx.queue.map g = [g (ownEmergency .open s)] := by
  have hkept := setAlarm_touches (startsAs s.link.state) s
  have htx : _ = s.tx := hkept.kept (b := .tx) (by simp)
  have hoffers : _ = s.offers := hkept.kept (b := .offers) (by simp)
  have hown : ownEmergency .open (flagEmergency (setAlarm (startsAs s.link.state) s)) = ownEmergency .open s := by
    simp [ownEmergency, flagEmergency, setAlarm_emerg, State.station, State.cell, setAlarm_link, hoffers]
  have hqueue : (alarmStarts s).tx.queue = (started s).tx.queue := by
    rw [alarmStarts_alone hn hq ht]
    split <;> rfl
  rw [hqueue, started, called_alone hg (by simpa [flagEmergency, htx] using hq), huid, hown]

theorem flagEmergency_touches (s : State) : OnlyTouches [.fare] s (flagEmergency s) :=
  ⟨rfl, fun b => by cases b <;> simp [Kept, flagEmergency]⟩

theorem flagEmergency_none {s : State} (h : s.fare.trip = none) : flagEmergency s = s := by
  have hf : { s.fare with trip := s.fare.trip.map fun t => { t with flags.emergencyDuringTrip := true } } = s.fare := by
    rw [h]
    simp only [Option.map_none]
    rw [← h]
  simp only [flagEmergency, hf]

theorem started_touches {s : State} (h : s.fare.trip = none) : OnlyTouches [.link, .tx, .emerg, .port] s (started s) := by
  have hkept := setAlarm_touches (startsAs s.link.state) s
  have hfare : _ = s.fare := hkept.kept (b := .fare) (by simp)
  rw [started, flagEmergency_none (by rw [hfare, h])]
  exact (hkept.widen (by simp)).trans ((called_touches _ _).widen (by simp))

theorem alarmStarts_alone_touches {s : State} (hn : s.emerg.ownEntry = none) (hq : s.tx.queue = [])
    (ht : s.offers.table = []) (h : s.fare.trip = none) : OnlyTouches [.link, .tx, .emerg, .port] s (alarmStarts s) := by
  rw [alarmStarts_alone hn hq ht]
  split
  · exact (started_touches h).trans ⟨rfl, fun b => by cases b <;> simp [Kept]⟩
  · exact started_touches h

/-! ## A raise with nothing to treat -/

/-- The state as the raised alarm is about to leave QUIET (R170 step 4). -/
def raising (source : RaiseSource) (s : State) : State := leavesSilent (offerAlarmOpen (numbered source s))

theorem raising_emerg (source : RaiseSource) (s : State) :
    ∃ rec group, (raising source s).emerg = { (numbered source s).emerg with openRecord := rec, openGroup := group } := by
  rw [raising, leavesSilent_emerg]
  exact offerAlarmOpen_emerg _

theorem raising_touches (source : RaiseSource) (s : State) :
    OnlyTouches [.link, .store, .emerg, .port] s (raising source s) := by
  have hnumber : OnlyTouches [.emerg] s (numbered source s) := ⟨rfl, fun b => by cases b <;> simp [Kept, numbered]⟩
  exact (hnumber.widen (by simp)).trans
    (((offerAlarmOpen_touches _).widen (by simp)).trans ((leavesSilent_touches _).widen (by simp)))

theorem raising_station (source : RaiseSource) (s : State) : (raising source s).link.station = s.link.station := by
  have hlink : _ = (numbered source s).link := (offerAlarmOpen_touches (numbered source s)).kept (b := .link) (by simp)
  unfold raising leavesSilent
  split
  · rw [enterRecovering_link, hlink]
    rfl
  · rw [hlink]
    rfl

theorem ownEmergency_raising (source : RaiseSource) (s : State) :
    ownEmergency .open (raising source s) =
      { newEntry .emergencyController (.alarm (wrapInc 255 s.emerg.lastNumber)) .emergencyOrigin
          (.emergency ⟨s.station, wrapInc 255 s.emerg.lastNumber⟩ 0 .open s.cell) destAll 0 with hop := 3 } := by
  obtain ⟨rec, group, hemerg⟩ := raising_emerg source s
  have hoffers : _ = s.offers := (raising_touches source s).kept (b := .offers) (by simp)
  simp only [ownEmergency, State.station, State.cell, hemerg, hoffers, raising_station]
  rfl

theorem raiseAlarm_alone_emerg {source : RaiseSource} {s : State} (hn : s.emerg.ownEntry = none) (hq : s.tx.queue = [])
    (ht : s.offers.table = []) :
    (raiseAlarm source s).emerg.lastNumber = wrapInc 255 s.emerg.lastNumber
      ∧ (raiseAlarm source s).emerg.nextRepeat = 1 ∧ (raiseAlarm source s).emerg.ackHeard = false
      ∧ (raiseAlarm source s).emerg.clearedSent = 0
      ∧ (raiseAlarm source s).emerg.pendingRaise = s.emerg.pendingRaise
      ∧ (raiseAlarm source s).emerg.openRecord = (raising source s).emerg.openRecord := by
  obtain ⟨rec, group, hemerg⟩ := raising_emerg source s
  have htouch := raising_touches source s
  have htx : _ = s.tx := htouch.kept (b := .tx) (by simp)
  have hoffers : _ = s.offers := htouch.kept (b := .offers) (by simp)
  obtain ⟨u, hstart⟩ := alarmStarts_alone_emerg (s := raising source s) (by rw [hemerg]; exact hn) (by rw [htx, hq])
    (by rw [hoffers, ht])
  rw [raiseAlarm_eq, ← raising, hstart, hemerg]
  exact ⟨rfl, rfl, rfl, rfl, rfl, rfl⟩

theorem raiseAlarm_alone_queue {α : Type} {g : PendEntry → α} (hg : ∀ e, g (resting e) = g e)
    (huid : ∀ (e : PendEntry) u, g { e with uid := u } = g e) {source : RaiseSource} {s : State}
    (hn : s.emerg.ownEntry = none) (hq : s.tx.queue = []) (ht : s.offers.table = []) :
    (raiseAlarm source s).tx.queue.map g =
      [g { newEntry .emergencyController (.alarm (wrapInc 255 s.emerg.lastNumber)) .emergencyOrigin
          (.emergency ⟨s.station, wrapInc 255 s.emerg.lastNumber⟩ 0 .open s.cell) destAll 0 with hop := 3 }] := by
  obtain ⟨rec, group, hemerg⟩ := raising_emerg source s
  have htouch := raising_touches source s
  have htx : _ = s.tx := htouch.kept (b := .tx) (by simp)
  have hoffers : _ = s.offers := htouch.kept (b := .offers) (by simp)
  rw [raiseAlarm_eq, ← raising, alarmStarts_alone_queue hg huid (by rw [hemerg]; exact hn) (by rw [htx, hq])
    (by rw [hoffers, ht]), ownEmergency_raising]

end Sys2Proof.Claims
end

section
/-! SUPPORT. CONFIGURE with every field in range (R168, R178, R194, R195). -/

namespace Sys2Proof.Claims

open Sys2Proof.Machine

theorem firstBadField_none {c : ConfigRequest} (h : ∀ b ∈ configChecks c, b = true) : firstBadField c = none := by
  have hnone : (configChecks c).findIdx? (fun ok => !ok) = none := by
    rw [List.findIdx?_eq_none_iff]
    intro b hb
    simp [h b hb]
  simp [firstBadField, hnone]

/-- The state as CONFIGURE's fields are taken. -/
def taken (c : ConfigRequest) (s : State) : State :=
  let u := shedNotices (takeFields c s)
  { u with fare.clockRunning := true, fare.metres := 0, offers.idleMinutes := 0 }

/-- The state as RUNNING begins, before an alarm found open is restored (R195). -/
def configured (c : ConfigRequest) (s : State) : State := writeFarePage (becomeRunning (taken c s))

theorem configure_eq {c : ConfigRequest} {s : State} (hp : s.port.part = .unconfigured)
    (hc : ∀ b ∈ configChecks c, b = true) :
    configure c s = (restoreAlarm (configured c s), .ok, .bare) := by
  rw [configure, if_pos hp, firstBadField_none hc]
  rfl

theorem configured_emerg (c : ConfigRequest) (s : State) :
    ∃ lamp on, (configured c s).emerg = { s.emerg with holdTime := c.switchHold, marker := c.marker, lamp := lamp, lampOn := on } := by
  have h : (configured c s).emerg = (becomeRunning (taken c s)).emerg := by simp [configured]
  exact ⟨_, _, h.trans (becomeRunning_emerg (taken c s))⟩

@[simp] theorem configured_keeps (c : ConfigRequest) (s : State) :
    (configured c s).link = { s.link with
        station := some c.station, fleet := some c.fleet, slotClock := true, listenIn := some 0 }
      ∧ (configured c s).tx = { s.tx with
        tick := c.beaconTick, cycleTable := c.cycleTable.map fun n => (beaconFormOf n).getD .none,
        tickTimer := some c.beaconTick }
      ∧ (configured c s).rx = { s.rx with
        priorityMode := (queueModeOf c.priorityMode).getD .blocking
        ordinaryMode := (queueModeOf c.ordinaryMode).getD .blocking
        acceptance := c.acceptance.map acceptEntryOf
        defaultAction := (defaultActionOf c.defaultAction).getD .reject }
      ∧ (configured c s).offers = { s.offers with
        capability := capabilitySet c.capability, awardTimeout := c.awardTimeout,
        acceptTimeout := c.acceptTimeout, idleMinutes := 0 }
      ∧ (configured c s).fare = { s.fare with
        pulseConstant := some c.pulseConstant, tariffs := c.tariffs, catalogue := c.extras, clockRunning := true,
        metres := 0 }
      ∧ (configured c s).trips = { s.trips with homeBase := some c.homeBase }
      ∧ (configured c s).store = { s.store with historyCarry := c.historyCarry == 1 }
      ∧ (configured c s).pending = s.pending := by
  simp [configured, becomeRunning, startListening, taken, takeFields, shedNotices]

theorem configured_port (c : ConfigRequest) (s : State) :
    (configured c s).port.part = .running ∧ (configured c s).port.requestCount = s.port.requestCount
      ∧ (configured c s).port.disabled = disabledKinds c.noticeEnables := by
  simp only [configured, writeFarePage_port]
  simp [becomeRunning, startListening, taken, takeFields, shedNotices]

/-- CONFIGURE completes in the state that the restoring leaves. -/
theorem completes_configure {c : ConfigRequest} {s u : State} {P : State → Prop} (hr : s.port.inReset = false)
    (hp : s.port.part = .unconfigured) (hc : ∀ b ∈ configChecks c, b = true)
    (hu : restoreAlarm (configured c (counted s)) = u)
    (h : P (settle (respond .ok (wrapInc 255 s.port.requestCount) .bare u))) : Completes (.configure c) s P := by
  refine completes_of (t := settle (judge .unconfiguredToo (configure c) s)) rfl ?_
  rw [judge_taken _ _ hr (by simp [hp]) (by simp [hp, takenIn]), configure_eq (s := counted s) hp hc, hu]
  exact h

theorem restoreAlarm_none {s : State} (hn : s.emerg.restore = none) (hp : s.emerg.pendingRaise = false) :
    restoreAlarm s = s := by
  simp [restoreAlarm, hn, hp]

theorem configureStartsRunning : ConfigureStartsRunning := by
  intro c s hr hp hc hrestore hpending
  obtain ⟨lamp, on, hemerg⟩ := configured_emerg c (counted s)
  obtain ⟨hpart, hcount, hdisabled⟩ := configured_port c (counted s)
  refine completes_configure hr hp hc (restoreAlarm_none (by rw [hemerg]; exact hrestore) (by rw [hemerg]; exact hpending))
    ⟨answered_respond _ _ hcount, by simpa using hpart, by simp, by simp, by simp, by simp, by simp, by simp, by simp,
      by simp [hemerg], by simp [hemerg], by simp [hemerg], by simpa using hdisabled, by simp⟩

/-- The state of the alarm found open, as it is restored (R178). -/
def restored (r : RestorePending) (s : State) : State :=
  { s with emerg := { s.emerg with
      number := some r.number, source := some .restored, nextRepeat := 32768, ackHeard := false, clearedSent := 0,
      openRecord := .written, openGroup := none, restore := none, pendingRaise := false } }

theorem restoreAlarm_some {r : RestorePending} {s : State} (h : s.emerg.restore = some r) :
    restoreAlarm s = alarmStarts (restored r s) := by
  simp only [restoreAlarm, h]
  rfl

theorem restoreAlarm_pending {s : State} (hn : s.emerg.restore = none) (hp : s.emerg.pendingRaise = true) :
    restoreAlarm s = raiseAlarm .switch { s with emerg := { s.emerg with pendingRaise := false } } := by
  simp [restoreAlarm, hn, hp]

theorem configureRestoresAnOpenAlarm : ConfigureRestoresAnOpenAlarm := by
  intro c r s hr hp hc hrestore hown hq ht
  obtain ⟨lamp, on, hemerg⟩ := configured_emerg c (counted s)
  obtain ⟨hpart, hcount, -⟩ := configured_port c (counted s)
  generalize hv : restored r (configured c (counted s)) = v
  have hve : v.emerg = { s.emerg with
      number := some r.number, source := some .restored, nextRepeat := 32768, ackHeard := false, clearedSent := 0,
      openRecord := .written, openGroup := none, restore := none, pendingRaise := false,
      holdTime := c.switchHold, marker := c.marker, lamp := lamp, lampOn := on } := by
    rw [← hv, restored, hemerg]
    rfl
  have hvl : v.link = { s.link with station := some c.station, fleet := some c.fleet, slotClock := true, listenIn := some 0 } := by
    rw [← hv]
    simp [restored]
  have hvt : v.offers.table = [] := by
    rw [← hv]
    simpa [restored] using ht
  have hvc : v.offers.cell = s.offers.cell := by
    rw [← hv]
    simp [restored]
  have hvq : v.tx.queue = [] := by
    rw [← hv]
    simpa [restored] using hq
  have hvo : v.emerg.ownEntry = none := by rw [hve]; exact hown
  obtain ⟨u, hstart⟩ := alarmStarts_alone_emerg hvo hvq hvt
  obtain ⟨hpart', -, -, hcount', -⟩ := (alarmStarts_reach v).keeps_port
  have hqueue := alarmStarts_alone_queue (g := fun e => (e.cls, e.payload, e.dest, e.hop)) (fun _ => rfl) (fun _ _ => rfl)
    hvo hvq hvt
  have hvp : v.port = (configured c (counted s)).port := by rw [← hv]; rfl
  refine completes_configure hr hp hc ((restoreAlarm_some (by rw [hemerg]; exact hrestore)).trans (by rw [hv]))
    ⟨answered_respond _ _ ?_, ?_, ?_, ?_, ?_, ?_, ?_, ?_, ?_, ?_, ?_⟩
  · rw [hcount', hvp, hcount]
    rfl
  · simp [hpart', hvp, hpart]
  · simp [hstart, hvl]
  · simp [hstart, hve]
  · simp [hstart, hve]
  · simp [hstart, hve]
  · simp [hstart, hve]
  · simp [hstart, hve]
  · simp [hstart, hve]
  · simp [hstart, timerAtStart, hvl, hve]
  · simp only [settle_keeps, respond_keeps, hqueue]
    simp [ownEmergency, newEntry, hve, State.station, hvl, State.cell, hvc, destAll]

theorem configureMakesThePendingRaise : ConfigureMakesThePendingRaise := by
  intro c s hr hp hc hrestore hpending _ hown hq ht
  obtain ⟨lamp, on, hemerg⟩ := configured_emerg c (counted s)
  obtain ⟨hpart, hcount, -⟩ := configured_port c (counted s)
  generalize hv : { configured c (counted s) with
    emerg := { (configured c (counted s)).emerg with pendingRaise := false } } = v
  have hve : v.emerg = { s.emerg with
      pendingRaise := false, holdTime := c.switchHold, marker := c.marker, lamp := lamp, lampOn := on } := by
    rw [← hv, hemerg]
    rfl
  have hvl : v.link = { s.link with station := some c.station, fleet := some c.fleet, slotClock := true, listenIn := some 0 } := by
    rw [← hv]
    simp
  have hvt : v.offers.table = [] := by
    rw [← hv]
    simpa using ht
  have hvc : v.offers.cell = s.offers.cell := by
    rw [← hv]
    simp
  have hvq : v.tx.queue = [] := by
    rw [← hv]
    simpa using hq
  have hvo : v.emerg.ownEntry = none := by rw [hve]; exact hown
  have hvp : v.port = (configured c (counted s)).port := by rw [← hv]
  have hraise : restoreAlarm (configured c (counted s)) = raiseAlarm .switch v := by
    rw [← hv]
    exact restoreAlarm_pending (by rw [hemerg]; exact hrestore) (by rw [hemerg]; exact hpending)
  obtain ⟨halarm, hnumber, hsource, hrepeats, hatRaise⟩ := raiseAlarm_call .switch v
  obtain ⟨hlast, hnext, -, -, hpend, -⟩ := raiseAlarm_alone_emerg (source := .switch) hvo hvq hvt
  obtain ⟨hpart', -, -, hcount', -⟩ := (numbered_reach .switch v).keeps_port
  have hqueue := raiseAlarm_alone_queue (g := fun e => (e.cls, e.payload, e.dest, e.hop)) (fun _ => rfl) (fun _ _ => rfl)
    (source := .switch) hvo hvq hvt
  rw [hvl] at halarm
  rw [hve] at hnumber hlast hpend
  rw [timerAtStart, hvl, hve] at hrepeats
  rw [LinkAtRaise, hvl] at hatRaise
  refine completes_configure hr hp hc hraise
    ⟨answered_respond _ _ ?_, ?_, by simpa [LinkAtRaise] using hatRaise, by simpa using halarm,
      by simpa [wrapInc_alarm] using hnumber, by simpa [wrapInc_alarm] using hlast, by simpa using hsource,
      by simpa using hnext, by simpa using hpend, by simpa [timerAtStart] using hrepeats, ?_⟩
  · rw [hcount']
    exact (congrArg Port.requestCount hvp).trans hcount
  · simp only [settle_keeps, respond_keeps, hpart']
    exact (congrArg Port.part hvp).trans hpart
  · simp only [settle_keeps, respond_keeps, hqueue]
    simp [newEntry, State.station, hvl, hve, State.cell, hvc, destAll, wrapInc_alarm]

/-- Settles O6. -/
theorem configureTakesEffect : Obligations.ConfigureTakesEffect :=
  ⟨configureStartsRunning, configureRestoresAnOpenAlarm, configureMakesThePendingRaise⟩

end Sys2Proof.Claims
end

section
/-! SUPPORT. RAISE_ALARM with nothing to treat (R169, R170, R177) and CLEAR_ALARM (R175, R177). -/

namespace Sys2Proof.Claims

open Sys2Proof.Machine

/-! ## RAISE_ALARM -/

theorem hostRaise_quiet {s : State} (h : s.emerg.alarm = .quiet) :
    hostRaise s = (raiseAlarm .host s, .ok, .alarmNumber (if s.emerg.lastNumber < 255 then s.emerg.lastNumber + 1 else 0)) := by
  rw [hostRaise, if_pos h]
  dsimp only
  rw [(raiseAlarm_call .host s).2.1, wrapInc_alarm]
  rfl

/-- An ALARM_OPEN group that joins (R177). -/
theorem offerAlarmOpen_joins {r : AlarmOpenRecord} {s : State} (hg : s.emerg.openGroup = some r) (h : StoreTakesGroups s)
    (hq : s.store.queue.length < 6) :
    ∃ u, u = kickStore { s with store := { s.store with queue := s.store.queue ++ [⟨.alarmOpen, [.alarmOpen r], false⟩] } }
      ∧ offerAlarmOpen s = { u with emerg := { u.emerg with openRecord := .queued, openGroup := none } } := by
  refine ⟨_, rfl, ?_⟩
  have hjoin := offerGroup_joins .alarmOpen [.alarmOpen r] h (no_waiting_checkpoint (by simp) _) hq
  simp only [offerAlarmOpen, hg, hjoin]

/-- The store and the open record as the alarm is raised. -/
theorem raising_joins {source : RaiseSource} {s : State} (h : StoreTakesGroups s) (hq : s.store.queue.length < 6) :
    (raising source s).emerg.openRecord = .queued
      ∧ (s.store.activity ≠ .idle → (raising source s).store.queue = s.store.queue ++
        [⟨.alarmOpen, [.alarmOpen ⟨s.station, wrapInc 255 s.emerg.lastNumber, source, s.port.clock, s.cell⟩], false⟩]) := by
  obtain ⟨u, hu, hjoin⟩ := offerAlarmOpen_joins (s := numbered source s) rfl h hq
  have hstore : (raising source s).store = u.store := by
    rw [raising, (leavesSilent_touches _).kept (b := .store) (by simp), hjoin]
  refine ⟨by rw [raising, leavesSilent_emerg, hjoin], fun hb => ?_⟩
  rw [hstore, hu, kickStore_busy (by exact hb)]
  rfl

theorem raiseAlarmOpensTheCall : RaiseAlarmOpensTheCall := by
  intro s hs
  refine ⟨fun ha hq ht htrip hown htakes hlen => ?_, fun ha => ?_⟩
  · have ho := hostRaise_quiet (s := counted s) ha
    obtain ⟨halarm, hnumber, hsource, hrepeats, hatRaise⟩ := raiseAlarm_call .host (counted s)
    obtain ⟨hlast, hnext, hack, hcleared, -, hrecord⟩ :=
      raiseAlarm_alone_emerg (source := .host) (s := counted s) hown hq ht
    have hqueue := raiseAlarm_alone_queue (g := fun e => (e.cls, e.payload, e.dest, e.fleet, e.hop)) (fun _ => rfl)
      (fun _ _ => rfl) (source := .host) (s := counted s) hown hq ht
    obtain ⟨hqueued, hgroup⟩ := raising_joins (source := .host) (s := counted s) htakes hlen
    have hbefore := raising_touches .host (counted s)
    obtain ⟨rec, group, hemerg⟩ := raising_emerg .host (counted s)
    have htx : _ = s.tx := hbefore.kept (b := .tx) (by simp)
    have hoffers : _ = s.offers := hbefore.kept (b := .offers) (by simp)
    have hfare : _ = s.fare := hbefore.kept (b := .fare) (by simp)
    have hafter := alarmStarts_alone_touches (s := raising .host (counted s)) (by rw [hemerg]; exact hown) (by rw [htx, hq])
      (by rw [hoffers, ht]) (by rw [hfare, htrip])
    have hstore : (raiseAlarm .host (counted s)).store = (raising .host (counted s)).store :=
      hafter.kept (b := .store) (by simp)
    have hcount : (raiseAlarm .host (counted s)).port.requestCount = wrapInc 255 s.port.requestCount :=
      (numbered_reach .host (counted s)).keeps_port.2.2.2.1
    refine completes_request rfl hs ho ⟨answered_respond _ _ hcount, by simpa using halarm,
      by simpa [LinkAtRaise] using hatRaise, by simpa [wrapInc_alarm] using hnumber,
      by simpa [wrapInc_alarm] using hlast, by simpa using hsource, by simpa using hack, by simpa using hcleared,
      by simpa [timerAtStart] using hrepeats, by simp [hrecord, hqueued], by simpa using hnext, ?_, fun hb => ?_,
      onlyTouches_request (by simp) _ _ _ ((hbefore.widen (by simp)).trans (hafter.widen (by simp)))⟩
    · simp only [settle_keeps, respond_keeps, hqueue]
      simp [newEntry, State.station, State.cell, destAll, wrapInc_alarm]
    · simp only [settle_keeps, respond_keeps, hstore, hgroup hb]
      simp [State.station, State.cell, wrapInc_alarm]
  · refine completes_unchanged rfl hs ?_
    rw [hostRaise, if_neg (by exact ha)]

/-! ## CLEAR_ALARM -/

/-- The clear taken, before the own entry is treated (R175). -/
def clearing (s : State) : State := setAlarm .clearing { s with emerg := { s.emerg with repeatTimer := none, clearedSent := 0 } }

theorem clearing_emerg (s : State) :
    (clearing s).emerg = { s.emerg with alarm := .clearing, repeatTimer := none, clearedSent := 0 } := by
  rw [clearing, setAlarm_emerg]

theorem clearing_touches (s : State) : OnlyTouches [.emerg, .port] s (clearing s) :=
  (setAlarm_touches _ _).before rfl fun b => by cases b <;> simp [Kept]

theorem clearing_nextUid (s : State) : (clearing s).nextUid = s.nextUid := by
  unfold clearing setAlarm
  split <;> simp

theorem clearing_count (s : State) : (clearing s).port.requestCount = s.port.requestCount :=
  (setAlarm_reach _ _).keeps_port.2.2.2.1

theorem takeClear_sends {s : State} (hn : s.emerg.ownEntry = none) (hq : s.tx.queue.length < 20) :
    takeClear s = called .cleared (clearing s) := by
  have htx : _ = s.tx := (clearing_touches s).kept (b := .tx) (by simp)
  rw [takeClear, ← clearing, clearing_emerg]
  simp only [hn]
  exact offerCleared_joins (by rw [clearing_emerg]; exact hn) (by rw [htx]; exact hq)

theorem takeClear_asks {o : OwnEntry} {s : State} (ho : s.emerg.ownEntry = some o) :
    takeClear s = retract o.uid (clearing s) := by
  rw [takeClear, ← clearing, clearing_emerg]
  simp only [ho]

/-- The alarm can be cleared (R175). -/
abbrev Clearable (s : State) : Prop := s.emerg.alarm = .open ∨ s.emerg.alarm = .acknowledged ∨ s.emerg.alarm = .held

/-- No ALARM_OPEN record stands or is coming: none is closed (R177). -/
theorem clearAlarm_unrecorded {s : State} (ha : Clearable s)
    (hr : s.emerg.openRecord = .owed ∨ s.emerg.openRecord = .none) :
    ∃ group, clearAlarm s =
      (takeClear { s with emerg := { s.emerg with openRecord := .none, openGroup := group } }, .ok) := by
  obtain hr | hr := hr
  · refine ⟨none, ?_⟩
    obtain ha | ha | ha := ha <;> simp only [clearAlarm, ha, hr]
  · refine ⟨s.emerg.openGroup, ?_⟩
    have hself : { s with emerg := { s.emerg with openRecord := .none, openGroup := s.emerg.openGroup } } = s := by
      rw [← hr]
    rw [hself]
    obtain ha | ha | ha := ha <;> simp only [clearAlarm, ha, hr]

theorem clearAlarm_recorded {s : State} (ha : Clearable s)
    (hr : s.emerg.openRecord = .queued ∨ s.emerg.openRecord = .written) (h : StoreTakesGroups s)
    (hq : s.store.queue.length < 6) (hb : s.store.activity ≠ .idle) :
    clearAlarm s = (takeClear { s with store := { s.store with
      queue := s.store.queue ++ [⟨.alarmClear, [.alarmClear (s.emerg.number.getD 0)], false⟩] } }, .ok) := by
  have hjoin := offerGroup_joins .alarmClear [.alarmClear (s.emerg.number.getD 0)] h (no_waiting_checkpoint (by simp) _) hq
  rw [kickStore_busy (by exact hb)] at hjoin
  obtain hr | hr := hr <;> obtain ha | ha | ha := ha <;> simp only [clearAlarm, ha, hr, hjoin]

theorem clearAlarm_full {s : State} (ha : Clearable s)
    (hr : s.emerg.openRecord = .queued ∨ s.emerg.openRecord = .written) (h : StoreTakesGroups s)
    (hq : 6 ≤ s.store.queue.length) : clearAlarm s = (s, .storeBusy) := by
  have hfull := offerGroup_full .alarmClear [.alarmClear (s.emerg.number.getD 0)] h (no_waiting_checkpoint (by simp) _) hq
  obtain hr | hr := hr <;> obtain ha | ha | ha := ha <;> simp only [clearAlarm, ha, hr, hfull]

/-- What the first CLEARED entry leaves, sent at once. -/
theorem takeClear_sent {s : State} (hn : s.emerg.ownEntry = none) (hq : s.tx.queue.length < 20) :
    OnlyTouches [.link, .tx, .emerg, .port] s (takeClear s)
      ∧ (takeClear s).port.requestCount = s.port.requestCount
      ∧ (takeClear s).emerg = { s.emerg with
          alarm := .clearing, repeatTimer := none, clearedSent := 0, ownEntry := some ⟨.cleared, s.nextUid⟩,
          nextRepeat := min 65535 (s.emerg.nextRepeat + 1) }
      ∧ (takeClear s).tx.queue.map resting = (s.tx.queue ++ [{ ownEmergency .cleared s with uid := s.nextUid }]).map resting := by
  have htouch := clearing_touches s
  have htx : _ = s.tx := htouch.kept (b := .tx) (by simp)
  have hoffers : _ = s.offers := htouch.kept (b := .offers) (by simp)
  have hlink : _ = s.link := htouch.kept (b := .link) (by simp)
  have hcalled := called_touches .cleared (clearing s)
  have hown : ownEmergency .cleared (clearing s) = ownEmergency .cleared s := by
    simp [ownEmergency, clearing_emerg, State.station, State.cell, hlink, hoffers]
  rw [takeClear_sends hn hq]
  refine ⟨(htouch.widen (by simp)).trans (hcalled.widen (by simp)), ?_, ?_, ?_⟩
  · have hport : _ = (clearing s).port := hcalled.kept (b := .port) (by simp)
    rw [hport, clearing_count]
  · simp only [called, clearing_emerg, clearing_nextUid]
  · rw [called_queue, htx, hown, clearing_nextUid]

theorem clearAlarmSendsCleared : ClearAlarmSendsCleared := by
  intro s hs
  refine ⟨fun ha hr hown hq => ?_, fun ha hr hown hq htakes hlen hb => ?_, fun ha hr htakes hlen => ?_, fun ha => ?_⟩
  · obtain ⟨group, ho⟩ := clearAlarm_unrecorded (s := counted s) ha hr
    obtain ⟨htouch, hcount, hemerg, hqueue⟩ := takeClear_sent
      (s := { counted s with emerg := { (counted s).emerg with openRecord := .none, openGroup := group } }) hown (by simp [hq])
    have hstore : _ = s.store := htouch.kept (b := .store) (by simp)
    have hframes := map_resting (g := fun e => (e.cls, e.payload, e.dest)) (fun _ => rfl) hqueue
    refine completes_plain rfl hs ho ⟨answered_respond _ _ hcount, by simpa using congrArg Emerg.alarm hemerg,
      by simpa using congrArg Emerg.openRecord hemerg, by simpa using congrArg Emerg.repeatTimer hemerg,
      by simpa using congrArg Emerg.clearedSent hemerg, by simpa using congrArg Emerg.number hemerg, ?_,
      by simpa using hstore, onlyTouches_request (by simp) _ _ _ ?_⟩
    · simp only [settle_keeps, respond_keeps, hframes]
      simp [hq, ownEmergency, newEntry, State.station, State.cell, destAll]
    · exact htouch.before rfl fun b => by cases b <;> simp [Kept]
  · have ho := clearAlarm_recorded (s := counted s) ha hr htakes hlen hb
    obtain ⟨htouch, hcount, hemerg, -⟩ := takeClear_sent (s := { counted s with store := { s.store with
      queue := s.store.queue ++ [⟨.alarmClear, [.alarmClear (s.emerg.number.getD 0)], false⟩] } }) hown (by simp [hq])
    have hstore : _ = _ := htouch.kept (b := .store) (by simp)
    refine completes_plain rfl hs ho ⟨answered_respond _ _ hcount, by simpa using congrArg Emerg.alarm hemerg,
      by simpa using congrArg Emerg.repeatTimer hemerg, ?_, onlyTouches_request (by simp) _ _ _ ?_⟩
    · simp only [settle_keeps, respond_keeps]
      exact hstore
    · exact (htouch.widen (by simp)).before rfl fun b => by cases b <;> simp [Kept]
  · exact completes_plain rfl hs (clearAlarm_full (s := counted s) ha hr htakes hlen) (nothingBut_respond s _ _)
  · refine completes_unchanged rfl hs ?_
    obtain ha | ha := ha <;> simp [plain, clearAlarm, ha]

/-! ## CLEAR_ALARM while the own call stands in the queue (R50, R51, R175) -/

/-- The own OPEN entry taken out while the alarm is cleared: the first CLEARED entry follows (R175). -/
theorem retract_own {o : OwnEntry} {n : Nat} {b : PendEntry} {s : State} (ho : s.emerg.ownEntry = some o)
    (hphase : o.phase = .open) (ha : s.emerg.alarm = .clearing) (hb : findEntry o.uid s = some b)
    (howner : b.owner = .emergencyController) (href : b.ref = .alarm n) (hst : b.state = .waiting ∨ b.state = .deferring) :
    retract o.uid s = offerCleared { takenOut b s with emerg := { s.emerg with ownEntry := none } } := by
  have huid : o.uid = b.uid := (findEntry_uid hb).symm
  rw [retract_unkeyed hb hst]
  simp only [report, howner, emergencyResult, href, takenOut_keeps, ho, huid, if_true, ownResult, ha, hphase]

theorem takenOut_shorter {b : PendEntry} {s : State} (hb : b ∈ s.tx.queue) :
    (takenOut b s).tx.queue.length < s.tx.queue.length := by
  simp only [takenOut]
  exact List.length_filter_lt_length_iff_exists.2 ⟨b, hb, by simp⟩

theorem clearAlarmTakesTheCallBack : ClearAlarmTakesTheCallBack := by
  intro o n b s hs ha hr hown hphase hnumber hfind howner href
  obtain ⟨group, ho⟩ := clearAlarm_unrecorded (s := counted s) ha hr
  generalize hw : { counted s with emerg := { (counted s).emerg with openRecord := .none, openGroup := group } } = w at ho
  have hwe : w.emerg = { s.emerg with openRecord := .none, openGroup := group } := by rw [← hw]; rfl
  have hwtouch : OnlyTouches [.emerg] (counted s) w := by
    rw [← hw]
    exact ⟨rfl, fun b => by cases b <;> simp [Kept]⟩
  have hwtx : w.tx = s.tx := by rw [← hw]; rfl
  have hwcount : w.port.requestCount = wrapInc 255 s.port.requestCount := by rw [← hw]; rfl
  have hwuid : w.nextUid = s.nextUid := by rw [← hw]; rfl
  have hwlink : w.link = s.link := by rw [← hw]; rfl
  have hwoffers : w.offers = s.offers := by rw [← hw]; rfl
  have htouch := clearing_touches w
  have htx : (clearing w).tx = s.tx := (htouch.kept (b := .tx) (by simp)).trans hwtx
  have hlink : (clearing w).link = s.link := (htouch.kept (b := .link) (by simp)).trans hwlink
  have hoffers : (clearing w).offers = s.offers := (htouch.kept (b := .offers) (by simp)).trans hwoffers
  have hfind' : findEntry o.uid (clearing w) = some b := (findEntry_congr (by rw [htx])).trans hfind
  have hown' : w.emerg.ownEntry = some o := by rw [hwe]; exact hown
  have hbefore := (hwtouch.widen (more := [.tx, .emerg, .port]) (by simp)).trans (htouch.widen (by simp))
  rw [takeClear_asks hown'] at ho
  refine ⟨fun hst hlen => ?_, fun hst => ?_⟩
  · rw [retract_own (by rw [clearing_emerg, hwe]; exact hown) hphase (by rw [clearing_emerg]) hfind' howner href hst] at ho
    generalize hv : { takenOut b (clearing w) with emerg := { (clearing w).emerg with ownEntry := none } } = v at ho
    have hve : v.emerg = { s.emerg with
        openRecord := .none, openGroup := group, alarm := .clearing, repeatTimer := none, clearedSent := 0,
        ownEntry := none } := by
      rw [← hv, clearing_emerg, hwe]
    have hvq : v.tx.queue = s.tx.queue.filter fun a => a.uid != b.uid := by
      rw [← hv]
      simp [takenOut, htx]
    have hvlen : v.tx.queue.length < 20 := by
      have hshort := takenOut_shorter (s := clearing w) (findEntry_mem hfind')
      rw [htx] at hshort
      rw [← hv]
      exact Nat.lt_of_lt_of_le hshort hlen
    have hvuid : v.nextUid = s.nextUid := by
      rw [← hv]
      simp [clearing_nextUid, hwuid]
    have hvlink : v.link.station = s.link.station := by
      rw [← hv]
      simp only [takenOut]
      split <;> simp [hlink]
    have hvoffers : v.offers = s.offers := by
      rw [← hv]
      simp [hoffers]
    have hvcount : v.port.requestCount = wrapInc 255 s.port.requestCount := by
      rw [← hv]
      simp [clearing_count, hwcount]
    have hvtouch : OnlyTouches [.link, .tx, .emerg] (clearing w) v := by
      rw [← hv]
      exact takenOut_emerg_touches b _ _
    rw [offerCleared_joins (by rw [hve]) hvlen] at ho
    have hcalled := called_touches .cleared v
    have hport : _ = v.port := hcalled.kept (b := .port) (by simp)
    have hframes := map_resting (g := fun a => (a.uid, a.cls, a.payload)) (fun _ => rfl) (called_queue .cleared v)
    have huid : o.uid = b.uid := (findEntry_uid hfind).symm
    refine completes_plain rfl hs ho ⟨answered_respond _ _ (by rw [hport, hvcount]), by simp [called, hve],
      by simp [called, hve, hnumber], by simp [called, hve], by simp [called, hve], by simp [called, hve],
      by simp [called, hvuid], by simp [called, hve], ?_, onlyTouches_request (by simp) _ _ _ ?_⟩
    · simp only [settle_keeps, respond_keeps, hframes, hvq, List.map_append, huid]
      simp [ownEmergency, newEntry, hve, hnumber, State.station, hvlink, State.cell, hvoffers, hvuid]
    · exact (hbefore.widen (by simp)).trans ((hvtouch.widen (by simp)).trans (hcalled.widen (by simp)))
  · rw [retract_keyed hfind' (.inl hst)] at ho
    refine completes_plain rfl hs ho ⟨answered_respond _ _ (by simp [clearing_count, hwcount]), by simp [clearing_emerg],
      by simp [clearing_emerg, hwe, hnumber], by simp [clearing_emerg, hwe], by simp [clearing_emerg],
      by simp [clearing_emerg], by simp [clearing_emerg, hwe, hown], by simp [clearing_emerg, hwe], ?_,
      onlyTouches_request (by simp) _ _ _ ?_⟩
    · simp [htx, updateWhere]
    · exact hbefore.trans ((updateEntry_touches _ _ _).widen (by simp))

end Sys2Proof.Claims
end

section
/-! SUPPORT. The pending queue as an entry joins, entry by entry (R8, R9, R41): what is in an exchange stands. -/

namespace Sys2Proof.Claims

open Sys2Proof.Machine

/-- The queue is as it was but for which of its unkeyed entries are held. -/
def Reheld (q r : List PendEntry) : Prop :=
  List.Forall₂ (fun a b => resting b = resting a ∧ b.unkeyed = a.unkeyed ∧ (a.unkeyed = false → b = a)) q r

theorem reheld_refl (q : List PendEntry) : Reheld q q := List.forall₂_same.2 fun _ _ => ⟨rfl, rfl, fun _ => rfl⟩

theorem reheld_trans {p q r : List PendEntry} (h : Reheld p q) (k : Reheld q r) : Reheld p r := by
  induction h generalizing r with
  | nil => exact k
  | @cons a b p q hab _ ih =>
    cases k with
    | @cons _ c _ r hbc hqr =>
      obtain ⟨hr, hu, he⟩ := hab
      obtain ⟨hr', hu', he'⟩ := hbc
      refine .cons ⟨hr'.trans hr, hu'.trans hu, fun ha => ?_⟩ (ih hqr)
      rw [he' (hu.trans ha), he ha]

theorem reheld_map {q : List PendEntry} {f : PendEntry → PendEntry}
    (hf : ∀ a ∈ q, resting (f a) = resting a ∧ (f a).unkeyed = a.unkeyed ∧ (a.unkeyed = false → f a = a)) :
    Reheld q (q.map f) := by
  rw [Reheld, List.forall₂_map_right_iff]
  exact List.forall₂_same.2 hf

theorem reheld_resting {q r : List PendEntry} (h : Reheld q r) : r.map resting = q.map resting := by
  induction h with
  | nil => rfl
  | cons hab _ ih => rw [List.map_cons, List.map_cons, hab.1, ih]

theorem reheld_uid {q r : List PendEntry} (h : Reheld q r) : r.map (·.uid) = q.map (·.uid) :=
  map_resting (fun _ => rfl) (reheld_resting h)

/-- An entry afterwards was one before. -/
theorem reheld_from {q r : List PendEntry} (h : Reheld q r) {b : PendEntry} (hb : b ∈ r) :
    ∃ a ∈ q, resting b = resting a ∧ b.unkeyed = a.unkeyed ∧ (a.unkeyed = false → b = a) := by
  induction h with
  | nil => simp at hb
  | @cons a c q r hac _ ih =>
    rw [List.mem_cons] at hb
    obtain rfl | hb := hb
    · exact ⟨a, by simp, hac⟩
    · obtain ⟨d, hd, hrest⟩ := ih hb
      exact ⟨d, by simp [hd], hrest⟩

/-- An entry before is one afterwards. -/
theorem reheld_to {q r : List PendEntry} (h : Reheld q r) {a : PendEntry} (ha : a ∈ q) :
    ∃ b ∈ r, resting b = resting a ∧ b.unkeyed = a.unkeyed ∧ (a.unkeyed = false → b = a) := by
  induction h with
  | nil => simp at ha
  | @cons c b q r hcb _ ih =>
    rw [List.mem_cons] at ha
    obtain rfl | ha := ha
    · exact ⟨b, by simp, hcb⟩
    · obtain ⟨d, hd, hrest⟩ := ih ha
      exact ⟨d, by simp [hd], hrest⟩

theorem unkeyed_waiting {e : PendEntry} (h : e.state = .waiting) : e.unkeyed = true := unkeyed_of (.inl h)

theorem present_reheld {e : PendEntry} {b : Bool} {s : State} (hn : (s.tx.queue.map (·.uid)).Nodup) (he : e ∈ s.tx.queue)
    (hw : e.state = .waiting) : Reheld s.tx.queue (present e b s).tx.queue := by
  rw [(presented_present e b s).1.2]
  refine reheld_map fun a ha => ?_
  by_cases h : a.uid = e.uid
  · have hae : a = e := List.inj_on_of_nodup_map hn ha he h
    subst hae
    simp [resting, PendEntry.unkeyed, hw]
  · simp [h]

theorem handBackDeferring_reheld (s : State) : Reheld s.tx.queue (handBackDeferring s).tx.queue := by
  by_cases h : s.link.side = .deferring
  · rw [handBackDeferring_held h]
    refine reheld_map fun a _ => ?_
    by_cases ha : a.state = .deferring <;> simp [ha, resting, PendEntry.unkeyed]
  · rw [handBackDeferring_none h]
    exact reheld_refl _

theorem accessOpportunity_reheld {b : Bool} {s : State} (hn : (s.tx.queue.map (·.uid)).Nodup) :
    Reheld s.tx.queue (accessOpportunity b s).tx.queue := by
  unfold accessOpportunity
  split
  · split
    next e he =>
      obtain ⟨hm, hw, -⟩ := choose_mem he
      exact present_reheld hn hm hw
    · exact reheld_refl _
  · exact reheld_refl _

theorem displace_reheld {b : Bool} {s : State} (hn : (s.tx.queue.map (·.uid)).Nodup) :
    Reheld s.tx.queue (displace b s).tx.queue := by
  unfold displace
  repeat' split
  · have hback := handBackDeferring_reheld s
    exact reheld_trans hback (accessOpportunity_reheld (by rw [reheld_uid hback]; exact hn))
  · exact reheld_refl _
  · exact reheld_refl _

theorem joined_uids {e : PendEntry} {s : State} (h : NamedOnce s) : NamedOnce (joined e s) := by
  obtain ⟨hn, hlt⟩ := h
  refine ⟨?_, fun a ha => ?_⟩
  · simp only [joined, List.map_append, List.map_cons, List.map_nil]
    refine List.nodup_append.2 ⟨hn, by simp, fun u hu v hv => ?_⟩
    obtain ⟨a, ha, rfl⟩ := List.mem_map.1 hu
    have := hlt a ha
    simp only [List.mem_singleton] at hv
    omega
  · have ha' : a ∈ s.tx.queue ∨ a = { e with uid := s.nextUid, state := .waiting, attempts := 0, seq := none } := by
      simpa [joined] using ha
    obtain ha' | rfl := ha'
    · exact Nat.lt_succ_of_lt (hlt a ha')
    · exact Nat.lt_succ_self _

theorem joinEntry_reheld {e : PendEntry} {s : State} (h : NamedOnce s) :
    Reheld (joined e s).tx.queue (joinEntry e s).tx.queue := by
  have hn := (joined_uids (e := e) h).1
  rw [joinEntry_eq]
  repeat' split
  · exact accessOpportunity_reheld hn
  · exact reheld_refl _
  · exact displace_reheld hn

theorem called_reheld {p : Phase} {s : State} (h : NamedOnce s) :
    Reheld (joined (ownEmergency p s) s).tx.queue (called p s).tx.queue :=
  joinEntry_reheld h

/-- An entry of the queue is one still as the call joins. -/
theorem called_to {p : Phase} {s : State} (h : NamedOnce s) {a : PendEntry} (ha : a ∈ s.tx.queue) :
    ∃ b ∈ (called p s).tx.queue, resting b = resting a ∧ b.unkeyed = a.unkeyed ∧ (a.unkeyed = false → b = a) :=
  reheld_to (called_reheld h) (by simp [joined, ha])

theorem called_joined {p : Phase} {s : State} (h : NamedOnce s) :
    ∃ e ∈ (called p s).tx.queue, e.cls = .emergencyOrigin ∧ e.owner = .emergencyController := by
  obtain ⟨b, hb, hrest, -⟩ := reheld_to (called_reheld (p := p) h)
    (a := { ownEmergency p s with uid := s.nextUid, state := .waiting, attempts := 0, seq := none }) (by simp [joined])
  exact ⟨b, hb, congrArg (fun e => e.cls) hrest, congrArg (fun e => e.owner) hrest⟩

end Sys2Proof.Claims
end

section
/-! SUPPORT. What a raise does to the offers, the trip and a BEACON (R56, R79, R107, R170). -/

namespace Sys2Proof.Claims

open Sys2Proof.Machine

/-! ## A BEACON (R56) -/

/-- Entries whose results nobody reads are taken out one after another. -/
theorem foldl_removeUnkeyed {o : TxOutcome} (l : List PendEntry) (h : ∀ e ∈ l, e.owner = .beaconCycle) (s : State) :
    (l.foldl (fun s e => removeUnkeyed e o false s) s).tx.queue =
        s.tx.queue.filter (fun a => l.all fun e => a.uid != e.uid)
      ∧ OnlyTouches [.link, .tx] s (l.foldl (fun s e => removeUnkeyed e o false s) s)
      ∧ (l.foldl (fun s e => removeUnkeyed e o false s) s).nextUid = s.nextUid := by
  induction l generalizing s with
  | nil => exact ⟨(List.filter_eq_self.2 fun a _ => by simp).symm, onlyTouches_refl _ s, rfl⟩
  | cons e l ih =>
    have hstep : removeUnkeyed e o false s = takenOut e s := by
      rw [removeUnkeyed_eq]
      simp [report, h e (by simp)]
    obtain ⟨hqueue, htouch, huid⟩ := ih (fun a ha => h a (by simp [ha])) (takenOut e s)
    rw [List.foldl_cons, hstep]
    refine ⟨?_, (takenOut_touches e s).trans htouch, by rw [huid]; simp⟩
    rw [hqueue]
    simp only [takenOut, List.filter_filter, List.all_cons]
    exact List.filter_congr fun a _ => Bool.and_comm _ _

/-- No BEACON waits or is held. -/
def NoBeaconWaits (q : List PendEntry) : Prop := ∀ e ∈ q, e.cls = .beacon → e.unkeyed = false

/-- The queue without the BEACONs that wait. -/
theorem removeWhere_beacon {s : State} (hn : NamedOnce s)
    (ho : ∀ e ∈ s.tx.queue, e.cls = .beacon → e.owner = .beaconCycle) :
    ∃ t, removeWhere (fun e => e.cls == .beacon) .removed s = t ∧ OnlyTouches [.link, .tx] s t ∧ NamedOnce t
      ∧ t.nextUid = s.nextUid ∧ t.tx.queue.length ≤ s.tx.queue.length ∧ NoBeaconWaits t.tx.queue
      ∧ ∀ e ∈ s.tx.queue, e.cls ≠ .beacon → e ∈ t.tx.queue := by
  generalize hl : s.tx.queue.filter (fun e => e.unkeyed && e.cls == .beacon) = l
  have hmem : ∀ e, e ∈ l ↔ e ∈ s.tx.queue ∧ e.unkeyed = true ∧ e.cls = .beacon := by
    intro e
    rw [← hl, List.mem_filter]
    simp
  obtain ⟨hqueue, htouch, huid⟩ := foldl_removeUnkeyed (o := .removed) l (fun e he => by
    obtain ⟨hq, -, hc⟩ := (hmem e).1 he
    exact ho e hq hc) s
  refine ⟨l.foldl (fun s e => removeUnkeyed e .removed false s) s, by rw [removeWhere, hl], htouch, ⟨?_, ?_⟩, huid, ?_, ?_, ?_⟩
  · rw [hqueue]
    exact hn.1.sublist (List.filter_sublist.map _)
  · intro e he
    rw [hqueue] at he
    rw [huid]
    exact hn.2 e (List.mem_filter.1 he).1
  · rw [hqueue]
    exact List.length_filter_le _ _
  · intro e he hc
    rw [hqueue] at he
    obtain ⟨hq, hout⟩ := List.mem_filter.1 he
    by_contra hu
    rw [Bool.not_eq_false] at hu
    have := List.all_eq_true.1 hout e ((hmem e).2 ⟨hq, hu, hc⟩)
    simp at this
  · intro e he hc
    rw [hqueue]
    refine List.mem_filter.2 ⟨he, List.all_eq_true.2 fun a ha => ?_⟩
    obtain ⟨hq, -, hb⟩ := (hmem a).1 ha
    simp only [bne_iff_ne, ne_eq]
    intro hid
    exact hc (List.inj_on_of_nodup_map hn.1 he hq hid ▸ hb)

theorem noBeaconWaits_called {s : State} (hn : NamedOnce s) (h : NoBeaconWaits s.tx.queue) (p : Phase) :
    NoBeaconWaits (called p s).tx.queue := by
  intro e he hc
  obtain ⟨a, ha, hrest, hunkeyed, -⟩ := reheld_from (called_reheld hn) he
  have hcls : e.cls = a.cls := congrArg (fun e => e.cls) hrest
  have ha' : a ∈ s.tx.queue ∨
      a = { ownEmergency p s with uid := s.nextUid, state := .waiting, attempts := 0, seq := none } := by
    simpa [joined] using ha
  obtain ha' | rfl := ha'
  · rw [hunkeyed]
    exact h a ha' (hcls ▸ hc)
  · rw [hcls] at hc
    simp [ownEmergency, newEntry] at hc

theorem not_waiting_of_keyed {e : PendEntry} (h : e.unkeyed = false) : e.state ≠ .waiting ∧ e.state ≠ .deferring := by
  simpa [PendEntry.unkeyed] using h

/-! ## The call after the treatment -/

/-- The alarm out of QUIET, the neighbours not treated yet. -/
def calling (s : State) : State := setAlarm (startsAs (raising .host s).link.state) (raising .host s)

theorem calling_touches (s : State) : OnlyTouches [.link, .store, .emerg, .port] s (calling s) :=
  (raising_touches .host s).trans ((setAlarm_touches _ _).widen (by simp))

theorem offerAlarmOpen_nextUid (s : State) : (offerAlarmOpen s).nextUid = s.nextUid := by
  unfold offerAlarmOpen
  split
  next r _ =>
    have h : (offerGroup .alarmOpen [.alarmOpen r] s).1.nextUid = s.nextUid := by
      unfold offerGroup
      repeat' split
      all_goals simp [kickStore]
      all_goals split <;> simp [startHead_keeps]
    generalize offerGroup .alarmOpen [.alarmOpen r] s = x at h
    obtain ⟨t, a⟩ := x
    cases a <;> exact h
  · rfl

theorem calling_nextUid (s : State) : (calling s).nextUid = s.nextUid := by
  have hset : ∀ a u, (setAlarm a u).nextUid = u.nextUid := fun a u => by
    unfold setAlarm
    split <;> simp
  have hleave : ∀ u, (leavesSilent u).nextUid = u.nextUid := fun u => by
    unfold leavesSilent enterRecovering setLink
    repeat' split
    all_goals simp
  rw [calling, hset, raising, hleave, offerAlarmOpen_nextUid]
  rfl

theorem calling_ownEntry (s : State) : (calling s).emerg.ownEntry = s.emerg.ownEntry := by
  obtain ⟨rec, group, hemerg⟩ := raising_emerg .host s
  rw [calling, setAlarm_emerg, hemerg]
  rfl

theorem calling_count (s : State) : (calling s).port.requestCount = s.port.requestCount := by
  have h : Reach (numbered .host s) (calling s) := by
    refine (offerAlarmOpen_reach _).trans (Reach.trans ?_ (setAlarm_reach _ _))
    unfold raising leavesSilent
    split
    · exact enterRecovering_reach _
    · exact Reach.refl _
  exact h.keeps_port.2.2.2.1

/-- RAISE_ALARM, `v` being the state as the neighbours have been treated. -/
theorem hostRaise_called {s v : State} (ha : s.emerg.alarm = .quiet) (hv : alarmLeavesQuiet (calling s) = v)
    (hn : v.emerg.ownEntry = none) (hq : v.tx.queue.length < 20) :
    ∃ u n, hostRaise s = (u, .ok, .alarmNumber n) ∧ u = { called .open v with emerg := u.emerg }
      ∧ u.emerg.alarm = startsAs s.link.state ∧ u.emerg.repeatTimer = timerAtStart s
      ∧ u.emerg.number = some (if s.emerg.lastNumber < 255 then s.emerg.lastNumber + 1 else 0)
      ∧ OnlyTouches [.link, .tx, .emerg] v u := by
  obtain ⟨halarm, hnumber, -, hrepeats, -⟩ := raiseAlarm_call .host s
  have hraise : raiseAlarm .host s =
      if startsAs (raising .host s).link.state = .open then
        { called .open v with emerg := { (called .open v).emerg with repeatTimer := some 2 } }
      else called .open v := by
    rw [raiseAlarm_eq, ← raising, alarmStarts_eq, ← calling, hv, offerOwn_joins hn hq]
  refine ⟨_, _, hostRaise_quiet ha, ?_, halarm, hrepeats, hnumber, ?_⟩
  · rw [hraise]
    split <;> rfl
  · rw [hraise]
    split
    · exact (called_touches .open v).trans ⟨rfl, fun b => by cases b <;> simp [Kept]⟩
    · exact called_touches .open v

end Sys2Proof.Claims
end

section
/-! SUPPORT. RAISE_ALARM with offers, a trip and a BEACON to treat (R56, R79, R107, R170). -/

namespace Sys2Proof.Claims

open Sys2Proof.Machine

theorem afterAlarm_id (o : OfferEntry) : (afterAlarm o).id = o.id := by
  unfold afterAlarm
  split <;> rfl

/-- One entry that sends nothing, as the alarm treats it (R79). -/
theorem alarmOnOffer_offers {o : OfferEntry} {s : State} (hl : Listed o s) (hs : SendsNothing o)
    (hh : s.offers.heldJob = some o.id ↔
      (o.state = .awarded ∨ o.state = .accepting ∨ o.state = .held ∨ o.state = .heldUnconfirmed)) :
    (alarmOnOffer s o).offers = { s.offers with table := tableWith o (afterAlarm o) s } := by
  obtain ⟨hwait, hawarded⟩ := hs
  unfold alarmOnOffer afterAlarm
  split
  next h => exact absurd h hwait
  next h =>
    simpa [h] using updateOffer_offers_of_held hl (by simp [stopTimers]) (by simpa [OfferState.isJobHeld, h] using hh)
  next h => exact absurd h hawarded
  all_goals
    next h => simp [h, tableWith_self hl]

theorem alarmOnOffer_touches {o : OfferEntry} {s : State} (hs : SendsNothing o) :
    OnlyTouches [.offers, .msg, .port] s (alarmOnOffer s o) ∧ (alarmOnOffer s o).msg.queue = s.msg.queue
      ∧ (alarmOnOffer s o).nextUid = s.nextUid := by
  obtain ⟨hwait, hawarded⟩ := hs
  unfold alarmOnOffer
  split
  next h => exact absurd h hwait
  next h => exact ⟨updateOffer_touches _ _ _, by simp, by simp⟩
  next h => exact absurd h hawarded
  all_goals exact ⟨onlyTouches_refl _ s, rfl, rfl⟩

theorem foldl_nextUid {α : Type} {g : State → α → State} (l : List α) (hg : ∀ o ∈ l, ∀ s, (g s o).nextUid = s.nextUid)
    (s : State) : (l.foldl g s).nextUid = s.nextUid := by
  induction l generalizing s with
  | nil => rfl
  | cons o l ih => rw [List.foldl_cons, ih (fun a ha => hg a (by simp [ha])), hg o (by simp)]

theorem callStands_of {s u v : State} {n : Nat} (hu : u = { called .open v with emerg := u.emerg }) (hv : NamedOnce v)
    (halarm : u.emerg.alarm = startsAs s.link.state) (hrepeats : u.emerg.repeatTimer = timerAtStart s)
    (hnumber : u.emerg.number = some (if s.emerg.lastNumber < 255 then s.emerg.lastNumber + 1 else 0)) :
    CallStands s (settle (respond .ok n r u)) := by
  obtain ⟨e, he, hrest⟩ := called_joined (p := .open) hv
  refine ⟨by simpa using halarm, by simpa using hrepeats, by simpa using hnumber, e, ?_, hrest⟩
  simp only [settle_keeps, respond_keeps]
  rw [hu]
  exact he

/-- The raise with offers that send nothing. -/
theorem raiseTreatsTheTable {s : State} (hs : Up s) (ha : s.emerg.alarm = .quiet) (hn : s.emerg.ownEntry = none)
    (hlen : s.tx.queue.length < 20) (hnamed : NamedOnce s) (honce : EachOfferOnce s) (hone : OneJobHeld s)
    (hsend : ∀ o ∈ s.offers.table, SendsNothing o)
    (hbeacon : ∀ e ∈ s.tx.queue, e.cls = .beacon → e.owner = .beaconCycle) :
    Completes .raiseAlarm s fun t =>
      CallStands s t ∧ t.offers = { s.offers with table := s.offers.table.map afterAlarm }
        ∧ t.fare = { s.fare with trip := s.fare.trip.map fun trip => { trip with flags.emergencyDuringTrip := true } }
        ∧ (∀ e ∈ t.tx.queue, e.cls = .beacon → e.state ≠ .waiting ∧ e.state ≠ .deferring)
        ∧ (∀ e ∈ s.tx.queue, e.cls ≠ .beacon → ∃ e' ∈ t.tx.queue, e'.uid = e.uid ∧ e'.payload = e.payload)
        ∧ OnlyTouches [.link, .tx, .offers, .fare, .store, .msg, .emerg, .port] s t ∧ t.msg.queue = s.msg.queue := by
  have hcalling := calling_touches (counted s)
  have hcoffers : (calling (counted s)).offers = s.offers := hcalling.kept (b := .offers) (by simp)
  have hctx : (calling (counted s)).tx = s.tx := hcalling.kept (b := .tx) (by simp)
  have hcfare : (calling (counted s)).fare = s.fare := hcalling.kept (b := .fare) (by simp)
  have hcmsg : (calling (counted s)).msg.queue = s.msg.queue := kept_msg_queue (hcalling.kept (b := .msg) (by simp))
  have hcown : (calling (counted s)).emerg.ownEntry = none := (calling_ownEntry (counted s)).trans hn
  have hcuid : (calling (counted s)).nextUid = s.nextUid := calling_nextUid (counted s)
  -- The offers in table order.
  generalize hw : s.offers.table.foldl alarmOnOffer (calling (counted s)) = w
  have hwoffers : w.offers = { s.offers with table := s.offers.table.map afterAlarm } := by
    have h := foldl_treats_table (g := alarmOnOffer) (s := calling (counted s)) afterAlarm_id
      (fun o ho u hl hh => alarmOnOffer_offers hl (hsend o (by rwa [hcoffers] at ho))
        (by rw [hh, hcoffers]; exact hone o (by rwa [hcoffers] at ho))) (by rw [EachOfferOnce, hcoffers]; exact honce)
    rwa [hcoffers, hw] at h
  obtain ⟨hwtouch, hwmsg⟩ := foldl_touches (g := alarmOnOffer) s.offers.table
    (fun o ho u => ⟨(alarmOnOffer_touches (hsend o ho)).1, (alarmOnOffer_touches (hsend o ho)).2.1⟩) (calling (counted s))
  have hwuid : w.nextUid = s.nextUid := by
    rw [← hw, foldl_nextUid _ fun o ho u => (alarmOnOffer_touches (hsend o ho)).2.2, hcuid]
  rw [hw] at hwtouch hwmsg
  have hwtx : w.tx = s.tx := (hwtouch.kept (b := .tx) (by simp)).trans hctx
  have hwfare : w.fare = s.fare := (hwtouch.kept (b := .fare) (by simp)).trans hcfare
  have hwemerg : w.emerg.ownEntry = none := by
    have h : { w.emerg with lamp := (calling (counted s)).emerg.lamp, lampOn := (calling (counted s)).emerg.lampOn } =
      (calling (counted s)).emerg := hwtouch.kept (b := .emerg) (by simp)
    rw [← hcown, ← h]
  -- The BEACONs.
  obtain ⟨v, hv, hvtouch, hvnamed, hvuid, hvlen, hvbeacon, hvothers⟩ := removeWhere_beacon (s := flagEmergency w)
    (by simpa [NamedOnce, flagEmergency, hwtx, hwuid] using hnamed) (by simpa [flagEmergency, hwtx] using hbeacon)
  have hleft : alarmLeavesQuiet (calling (counted s)) = v := by
    rw [alarmLeavesQuiet, hcoffers, hw, hv]
  have hvown : v.emerg.ownEntry = none := by
    have h : { v.emerg with lamp := (flagEmergency w).emerg.lamp, lampOn := (flagEmergency w).emerg.lampOn } =
      (flagEmergency w).emerg := hvtouch.kept (b := .emerg) (by simp)
    have h' : (flagEmergency w).emerg.ownEntry = none := hwemerg
    rw [← h', ← h]
  have hvq : v.tx.queue.length < 20 := by
    have : (flagEmergency w).tx.queue.length = s.tx.queue.length := by simp [flagEmergency, hwtx]
    omega
  -- The call.
  obtain ⟨u, n, ho, hu, halarm, hrepeats, hnumber, hutouch⟩ := hostRaise_called (s := counted s) ha hleft hvown hvq
  have huoffers : u.offers = w.offers :=
    (hutouch.kept (b := .offers) (by simp)).trans (hvtouch.kept (b := .offers) (by simp))
  have hufare : u.fare = (flagEmergency w).fare :=
    (hutouch.kept (b := .fare) (by simp)).trans (hvtouch.kept (b := .fare) (by simp))
  have humsg : u.msg.queue = s.msg.queue :=
    (kept_msg_queue (hutouch.kept (b := .msg) (by simp))).trans
      ((kept_msg_queue (hvtouch.kept (b := .msg) (by simp))).trans (hwmsg.trans hcmsg))
  have hutx : u.tx = (called .open v).tx := by rw [hu]
  refine completes_request rfl hs ho ⟨callStands_of hu hvnamed halarm hrepeats hnumber, ?_, ?_, fun e he hc => ?_,
    fun e he hc => ?_, onlyTouches_request (by simp) _ _ _ ?_, by simpa using humsg⟩
  · simp [huoffers, hwoffers]
  · simp [hufare, flagEmergency, hwfare]
  · simp only [settle_keeps, respond_keeps, hutx] at he
    exact not_waiting_of_keyed (noBeaconWaits_called hvnamed hvbeacon .open e he hc)
  · have hmem : e ∈ (flagEmergency w).tx.queue := by
      simpa [flagEmergency, hwtx] using he
    obtain ⟨b, hb, hrest, -⟩ := called_to (p := .open) hvnamed (hvothers e hmem hc)
    refine ⟨b, ?_, congrArg (fun e => e.uid) hrest, congrArg (fun e => e.payload) hrest⟩
    simpa only [settle_keeps, respond_keeps, hutx] using hb
  · have hmiddle := (hwtouch.widen (more := [.link, .tx, .offers, .fare, .store, .msg, .emerg, .port]) (by simp)).trans
      ((flagEmergency_touches w).widen (by simp))
    exact (hcalling.widen (by simp)).trans (hmiddle.trans ((hvtouch.widen (by simp)).trans (hutouch.widen (by simp))))

/-! ## A BID, and an award, of the only entry -/

/-- The raise with one offer entry and no BEACON: `w` is the state as the entry has been treated. -/
theorem raiseTreatsTheEntry {s w : State} {o : OfferEntry} {P : State → Prop} (hs : Up s) (ha : s.emerg.alarm = .quiet)
    (hn : s.emerg.ownEntry = none) (ht : s.offers.table = [o]) (hw : alarmOnOffer (calling (counted s)) o = w)
    {may : List Block} (htouch : OnlyTouches may (calling (counted s)) w) (hemerg : .emerg ∉ may)
    (hmay : ∀ b ∈ may, b ∈ [Block.link, .tx, .offers, .fare, .store, .msg, .emerg, .port]) (hlen : w.tx.queue.length < 20)
    (hnamed : NamedOnce w) (hb : ∀ e ∈ w.tx.queue, e.cls ≠ .beacon)
    (hp : ∀ t, t.offers = w.offers → t.tx = (called .open (flagEmergency w)).tx → P t) :
    Completes .raiseAlarm s fun t =>
      CallStands s t ∧ P t ∧ OnlyTouches [.link, .tx, .offers, .fare, .store, .msg, .emerg, .port] s t := by
  have hcalling := calling_touches (counted s)
  have hcoffers : (calling (counted s)).offers = s.offers := hcalling.kept (b := .offers) (by simp)
  have hleft : alarmLeavesQuiet (calling (counted s)) = flagEmergency w := by
    rw [alarmLeavesQuiet, hcoffers, ht, List.foldl_cons, List.foldl_nil, hw]
    exact removeWhere_none fun e he _ => by simpa using hb e he
  have hown : (flagEmergency w).emerg.ownEntry = none := by
    have h : { w.emerg with lamp := (calling (counted s)).emerg.lamp, lampOn := (calling (counted s)).emerg.lampOn } =
      (calling (counted s)).emerg := htouch.kept hemerg
    have h' : (calling (counted s)).emerg.ownEntry = none := (calling_ownEntry (counted s)).trans hn
    rw [← h', ← h]
    rfl
  obtain ⟨u, n, ho, hu, halarm, hrepeats, hnumber, hutouch⟩ := hostRaise_called (s := counted s) ha hleft hown hlen
  have huoffers : u.offers = w.offers := hutouch.kept (b := .offers) (by simp)
  have hutx : u.tx = (called .open (flagEmergency w)).tx := by rw [hu]
  refine completes_request rfl hs ho ⟨callStands_of hu hnamed halarm hrepeats hnumber, hp _ (by simp [huoffers])
    (by simp [hutx]), onlyTouches_request (by simp) _ _ _ ?_⟩
  exact (hcalling.widen (by simp)).trans
    ((htouch.widen hmay).trans (((flagEmergency_touches w).widen (by simp)).trans (hutouch.widen (by simp))))

theorem offerResult_nextUid (r : TxResult) (s : State) : (offerResult r s).nextUid = s.nextUid := by
  unfold offerResult
  repeat' split
  · rfl
  · simp
  · simp

/-- The queue as a BID of the only entry is asked back. -/
theorem retractBid_sole_queue {o : OfferEntry} {b : PendEntry} {s : State} (why : RetractReason)
    (h : s.offers.table = [o]) (hb : HasBid o b s) :
    (retractBid why o.id s).nextUid = s.nextUid
      ∧ ((retractBid why o.id s).tx.queue = s.tx.queue.filter (fun a => a.uid != b.uid)
        ∨ (retractBid why o.id s).tx.queue = askedBack b.uid s.tx.queue
        ∨ (retractBid why o.id s).tx.queue = s.tx.queue) := by
  obtain ⟨hs, hf, -, hfind, howner⟩ := hb
  have hl := listed_sole h
  constructor
  · rw [retractBid_eq why hl hf, retract]
    have hfind' : findEntry b.uid (updateOffer o.id (fun e => { e with bidFrame := e.bidFrame.map (recordReason why) }) s) =
        some b := by
      have htx : _ = s.tx := (updateOffer_touches o.id
        (fun e => { e with bidFrame := e.bidFrame.map (recordReason why) }) s).kept (b := .tx) (by simp)
      exact (findEntry_congr (by rw [htx])).trans hfind
    rw [hfind']
    dsimp only
    split
    · rw [removeUnkeyed_eq, report, howner]
      simp [offerResult_nextUid]
    · rw [removeUnkeyed_eq, report, howner]
      simp [offerResult_nextUid]
    · simp
    · simp
    · simp
  · have hfree : o.state.isJobHeld = false := by simp [hs, OfferState.isJobHeld]
    have out := fun hst => retractBid_unkeyed why hl hf (ownsFrame_sole b.uid h) hfind howner hst (.inl hfree)
    have kept := fun hst => retractBid_keyed why hl hf hfind hst
    have outTx : b.state = .waiting ∨ b.state = .deferring → (retractBid why o.id s).tx = (takenOut b s).tx := fun hst =>
      (out hst).touches.kept (b := .tx) (by simp)
    cases hst : b.state with
    | waiting => exact .inl (congrArg Tx.queue (outTx (.inl hst)))
    | deferring => exact .inl (congrArg Tx.queue (outTx (.inr hst)))
    | onAir => exact .inr (.inl (congrArg Tx.queue (kept (.inl hst)).2.1))
    | awaitLack => exact .inr (.inl (congrArg Tx.queue (kept (.inr hst)).2.1))
    | retractPending =>
      have htx : _ = s.tx := (retractBid_pending why hl hf hfind hst).kept (b := .tx) (by simp)
      exact .inr (.inr (congrArg Tx.queue htx))

theorem askedBack_uids (u : Nat) (q : List PendEntry) : (askedBack u q).map (·.uid) = q.map (·.uid) := by
  rw [askedBack, List.map_map]
  exact List.map_congr_left fun a _ => by by_cases h : a.uid = u <;> simp [h]

theorem namedOnce_of {q r : List PendEntry} {n : Nat} (hu : r.map (·.uid) = q.map (·.uid))
    (h : (q.map (·.uid)).Nodup ∧ ∀ e ∈ q, e.uid < n) : (r.map (·.uid)).Nodup ∧ ∀ e ∈ r, e.uid < n := by
  refine ⟨hu ▸ h.1, fun e he => ?_⟩
  have : e.uid ∈ q.map (·.uid) := hu ▸ List.mem_map_of_mem he
  obtain ⟨a, ha, hae⟩ := List.mem_map.1 this
  exact hae ▸ h.2 a ha

/-- What a retraction leaves of the queue keeps its names, its length and its classes. -/
theorem askedOut_fits {b : PendEntry} {q r : List PendEntry} {n : Nat}
    (h : r = q.filter (fun a => a.uid != b.uid) ∨ r = askedBack b.uid q ∨ r = q)
    (hn : (q.map (·.uid)).Nodup ∧ ∀ e ∈ q, e.uid < n) (hb : ∀ e ∈ q, e.cls ≠ .beacon) :
    r.length ≤ q.length ∧ ((r.map (·.uid)).Nodup ∧ ∀ e ∈ r, e.uid < n) ∧ ∀ e ∈ r, e.cls ≠ .beacon := by
  obtain rfl | rfl | rfl := h
  · exact ⟨List.length_filter_le _ _, ⟨hn.1.sublist (List.filter_sublist.map _), fun e he => hn.2 e (List.mem_filter.1 he).1⟩,
      fun e he => hb e (List.mem_filter.1 he).1⟩
  · refine ⟨by simp [askedBack], namedOnce_of (askedBack_uids _ _) hn, fun e he => ?_⟩
    obtain ⟨a, ha, rfl⟩ := List.mem_map.1 he
    have := hb a ha
    by_cases h : a.uid = b.uid <;> simpa [h] using this
  · exact ⟨le_rfl, hn, hb⟩

/-- The BID taken back stays so as the call joins. -/
theorem bidTakenBack_called {o : OfferEntry} {b : PendEntry} {why : RetractReason} {because : OfferReason} {p : Phase}
    {s v t : State} (hv : NamedOnce v) (hb : b.uid ≠ v.nextUid) (h : BidTakenBack o b why because s v)
    (ht : t.offers = v.offers) (hx : t.tx = (called p v).tx) : BidTakenBack o b why because s t := by
  obtain ⟨hout, hkept⟩ := h
  unfold BidTakenBack
  rw [ht, hx]
  refine ⟨fun hst => ?_, fun hst => ?_⟩
  · obtain ⟨htable, hgone, hothers⟩ := hout hst
    refine ⟨htable, ?_, fun a ha hne hc => ?_⟩
    · rw [reheld_uid (called_reheld hv)]
      simpa [joined, hb] using hgone
    · obtain ⟨a', ha', huid, hpay⟩ := hothers a ha hne hc
      obtain ⟨c, hc, hrest, -⟩ := called_to (p := p) hv ha'
      exact ⟨c, hc, (congrArg (fun e => e.uid) hrest).trans huid, (congrArg (fun e => e.payload) hrest).trans hpay⟩
  · obtain ⟨htable, a, ha, huid, hstate⟩ := hkept hst
    obtain ⟨c, hc, hrest, -, hsame⟩ := called_to (p := p) hv ha
    exact ⟨htable, c, hc, (congrArg (fun e => e.uid) hrest).trans huid,
      by rw [hsame (by simp [PendEntry.unkeyed, hstate]), hstate]⟩

theorem raiseTakesTheBidBack {s : State} {o : OfferEntry} {b : PendEntry} (hs : Up s) (ha : s.emerg.alarm = .quiet)
    (hn : s.emerg.ownEntry = none) (hlen : s.tx.queue.length < 20) (hnamed : NamedOnce s) (ht : s.offers.table = [o])
    (hbeacon : ∀ e ∈ s.tx.queue, e.cls ≠ .beacon) (hb : HasBid o b s) :
    Completes .raiseAlarm s fun t =>
      CallStands s t ∧ BidTakenBack o b .alarm .alarm s t
        ∧ OnlyTouches [.link, .tx, .offers, .fare, .store, .msg, .emerg, .port] s t := by
  have hcalling := calling_touches (counted s)
  have hcoffers : (calling (counted s)).offers = s.offers := hcalling.kept (b := .offers) (by simp)
  have hctx : (calling (counted s)).tx = s.tx := hcalling.kept (b := .tx) (by simp)
  have hcuid : (calling (counted s)).nextUid = s.nextUid := calling_nextUid (counted s)
  have hstep : alarmOnOffer (calling (counted s)) o = retractBid .alarm o.id (calling (counted s)) := by
    rw [alarmOnOffer, hb.1]
  generalize hc : calling (counted s) = c at hcoffers hctx hcuid hstep
  have hct : c.offers.table = [o] := by rw [hcoffers, ht]
  obtain ⟨hstate, hframe, hreply, hfind, howner⟩ := hb
  have hcb : HasBid o b c := ⟨hstate, hframe, hreply, (findEntry_congr (by rw [hctx])).trans hfind, howner⟩
  obtain ⟨hback, -, htouch⟩ := retractBid_sole hct hcb (.inr ⟨rfl, rfl⟩)
  obtain ⟨huid, hqueue⟩ := retractBid_sole_queue .alarm hct hcb
  generalize retractBid .alarm o.id c = w at hback htouch huid hqueue hstep
  rw [hctx] at hqueue
  rw [hcuid] at huid
  obtain ⟨hwlen, hwnamed, hwbeacon⟩ := askedOut_fits hqueue hnamed hbeacon
  rw [← huid] at hwnamed
  have hnew : b.uid ≠ w.nextUid := by
    have := hnamed.2 b (findEntry_mem hfind)
    omega
  exact raiseTreatsTheEntry hs ha hn ht (hc ▸ hstep) (hc ▸ htouch) (by simp) (by simp) (Nat.lt_of_le_of_lt hwlen hlen)
    hwnamed hwbeacon fun t hto htx =>
      bidTakenBack_called (v := flagEmergency w) hwnamed hnew (bidTakenBack_congr rfl rfl hctx.symm hback) hto htx

/-- A REFUSE that joins, whatever the link controller takes then (R75, R76). -/
theorem refuseOwn_sends {o : OfferEntry} {r : RefuseReason} {s : State} (hl : Listed o s) (hlen : s.tx.queue.length < 20)
    (hord : (s.tx.queue.filter fun e => !e.isEmergency).length < 18)
    (hh : o.state.isJobHeld = false ∨ s.offers.heldJob = some o.id) :
    OfferMoved o (refusedFor r (some ⟨s.nextUid, none⟩) o) (joinEntry (replyEntry o.id (.refuse o.id r) s) s) s
        (refuseOwn o.id r s)
      ∧ (refuseOwn o.id r s).nextUid = (joinEntry (replyEntry o.id (.refuse o.id r) s) s).nextUid := by
  have hoffer : offerEntry (replyEntry o.id (.refuse o.id r) s) s =
      (joinEntry (replyEntry o.id (.refuse o.id r) s) s, .joined s.nextUid) :=
    offerEntry_joins _ (refusedFull_eq_false hlen hord) rfl
  have hjoin := joinEntry_touches (replyEntry o.id (.refuse o.id r) s) s
  generalize joinEntry (replyEntry o.id (.refuse o.id r) s) s = v at hoffer hjoin
  have hvo : v.offers = s.offers := hjoin.kept (b := .offers) (by simp)
  have hvp : v.port = s.port := hjoin.kept (b := .port) (by simp)
  have hvm : v.msg.queue = s.msg.queue := kept_msg_queue (hjoin.kept (b := .msg) (by simp))
  have hrefuse : refuseOwn o.id r s =
      updateOffer o.id (fun e => { e with state := .refused, reason := some (.refusal r) })
        (updateOffer o.id (fun e => { e with replyFrame := some ⟨s.nextUid, none⟩ }) v) := by
    simp only [refuseOwn, offerRefuse, hoffer]
  obtain ⟨hoffers, hport⟩ := updateOffer_twice (o2 := refusedFor r (some ⟨s.nextUid, none⟩) o)
    (f := fun e => { e with replyFrame := some ⟨s.nextUid, none⟩ })
    (g := fun e => { e with state := .refused, reason := some (.refusal r) }) (listed_congr (by rw [hvo]) hl) rfl rfl rfl
    (by simp [stopTimers, refusedFor]) (by rwa [hvo]) rfl rfl
  rw [hrefuse]
  refine ⟨⟨?_, ?_, (updateOffer_touches _ _ _).trans (updateOffer_touches _ _ _), by simp [hvm]⟩, by simp⟩
  · rw [hoffers, hvo, tableWith_congr (s := s) (t := v) (by rw [hvo])]
  · rw [hport, hvp]
    exact if_congr Iff.rfl rfl (raise_port _ _ _ _ hvp)

theorem joinEntry_nextUid (e : PendEntry) (s : State) : (joinEntry e s).nextUid = s.nextUid + 1 := by
  have hopp : ∀ b u, (accessOpportunity b u).nextUid = u.nextUid := fun b u => by
    unfold accessOpportunity present
    repeat' split
    all_goals simp
  have hback : ∀ u, (handBackDeferring u).nextUid = u.nextUid := fun u => by
    unfold handBackDeferring
    split <;> rfl
  rw [joinEntry_eq]
  repeat' split
  · rw [hopp]; rfl
  · rfl
  · unfold displace
    repeat' split
    · rw [hopp, hback]; rfl
    · rfl
    · rfl

theorem raiseRefusesTheAward {s : State} {o : OfferEntry} (hs : Up s) (ha : s.emerg.alarm = .quiet)
    (hn : s.emerg.ownEntry = none) (hlen : s.tx.queue.length < 19) (hnamed : NamedOnce s) (ht : s.offers.table = [o])
    (hbeacon : ∀ e ∈ s.tx.queue, e.cls ≠ .beacon) (hst : o.state = .awarded) (hheld : s.offers.heldJob = some o.id)
    (hord : (s.tx.queue.filter fun e => !e.isEmergency).length < 18) :
    Completes .raiseAlarm s fun t =>
      CallStands s t
        ∧ t.offers = { s.offers with
            table := [{ o with state := .refused, reason := some (.refusal .unavailable), awardTimer := none,
                               acceptTimer := none, replyFrame := some ⟨s.nextUid, none⟩ }]
            heldJob := none }
        ∧ (∃ e ∈ t.tx.queue, e.uid = s.nextUid ∧ e.cls = .reply ∧ e.payload = .refuse o.id .unavailable
          ∧ e.dest = o.id.base)
        ∧ OnlyTouches [.link, .tx, .offers, .fare, .store, .msg, .emerg, .port] s t := by
  have hcalling := calling_touches (counted s)
  have hcuid : (calling (counted s)).nextUid = s.nextUid := calling_nextUid (counted s)
  have hcoffers : (calling (counted s)).offers = s.offers := hcalling.kept (b := .offers) (by simp)
  have hctx : (calling (counted s)).tx = s.tx := hcalling.kept (b := .tx) (by simp)
  have hstep : alarmOnOffer (calling (counted s)) o = refuseOwn o.id .unavailable (calling (counted s)) := by
    rw [alarmOnOffer, hst]
  generalize hc : calling (counted s) = c at hcuid hcoffers hctx hstep
  have hcnamed : NamedOnce c := by rw [NamedOnce, hctx, hcuid]; exact hnamed
  have hct : c.offers.table = [o] := by rw [hcoffers, ht]
  obtain ⟨⟨hoffers, -, htouch, -⟩, huid⟩ := refuseOwn_sends (r := .unavailable) (s := c) (listed_sole hct)
    (by rw [hctx]; omega) (by rw [hctx]; exact hord) (.inr (by rw [hcoffers]; exact hheld))
  generalize he : replyEntry o.id (.refuse o.id .unavailable) c = e at htouch huid
  have hjoin := joinEntry_reheld (e := e) hcnamed
  have hwtx : _ = (joinEntry e c).tx := htouch.kept (b := .tx) (by simp)
  have hjtouch := (joinEntry_touches e c).widen (more := [.link, .tx, .offers, .msg, .port]) (by simp)
  have hwnamed : NamedOnce (refuseOwn o.id .unavailable c) := by
    rw [NamedOnce, hwtx, huid, joinEntry_nextUid]
    exact namedOnce_of (reheld_uid hjoin) (joined_uids hcnamed)
  have hcount : (refuseOwn o.id .unavailable c).tx.queue.length = s.tx.queue.length + 1 := by
    rw [hwtx, ← List.Forall₂.length_eq hjoin]
    simp [joined, hctx]
  have hclasses : ∀ a ∈ (refuseOwn o.id .unavailable c).tx.queue, a.cls ≠ .beacon := by
    intro a hm
    rw [hwtx] at hm
    obtain ⟨a0, ha0, hrest, -⟩ := reheld_from hjoin hm
    have hcls : a.cls = a0.cls := congrArg (fun e => e.cls) hrest
    rw [hcls]
    obtain ha0 | rfl := (by simpa [joined, hctx] using ha0 :
      a0 ∈ s.tx.queue ∨ a0 = { e with uid := c.nextUid, state := .waiting, attempts := 0, seq := none })
    · exact hbeacon a0 ha0
    · rw [← he]
      simp [replyEntry, newEntry]
  have hmoved : OnlyTouches [.link, .tx, .offers, .msg, .port] c (refuseOwn o.id .unavailable c) :=
    hjtouch.trans (htouch.widen (by simp))
  have hdone := raiseTreatsTheEntry (P := fun t =>
      t.offers = { s.offers with
            table := [{ o with state := .refused, reason := some (.refusal .unavailable), awardTimer := none,
                               acceptTimer := none, replyFrame := some ⟨s.nextUid, none⟩ }]
            heldJob := none }
        ∧ ∃ e ∈ t.tx.queue, e.uid = s.nextUid ∧ e.cls = .reply ∧ e.payload = .refuse o.id .unavailable
          ∧ e.dest = o.id.base) hs ha hn ht (by rw [hc]; exact hstep) (by rw [hc]; exact hmoved) (by simp) (by simp)
    (by omega) hwnamed hclasses fun t hto htx => ⟨?_, ?_⟩
  · obtain ⟨t, hexec, hstands, ⟨hoff, hent⟩, htouched⟩ := hdone
    exact ⟨t, hexec, hstands, hoff, hent, htouched⟩
  · rw [hto, hoffers, tableWith_sole hct, hcuid, hcoffers]
    simp [refusedFor, heldAfter, OfferState.isJobHeld, hheld]
  · obtain ⟨a, ha, hrest, -⟩ := reheld_to hjoin
      (a := { e with uid := c.nextUid, state := .waiting, attempts := 0, seq := none }) (by simp [joined])
    obtain ⟨b, hb, hrest', -⟩ := called_to (p := .open) (s := flagEmergency (refuseOwn o.id .unavailable c)) hwnamed
      (a := a) (by rw [← hwtx] at ha; exact ha)
    have hall := hrest'.trans hrest
    refine ⟨b, htx ▸ hb, (congrArg (fun e => e.uid) hall).trans hcuid, (congrArg (fun e => e.cls) hall).trans ?_,
      (congrArg (fun e => e.payload) hall).trans ?_, (congrArg (fun e => e.dest) hall).trans ?_⟩ <;> rw [← he] <;> rfl

theorem raiseAlarmTreatsTheNeighbours : RaiseAlarmTreatsTheNeighbours := by
  intro s hs ha hn hlen hnamed
  refine ⟨fun honce hone hsend hbeacon => raiseTreatsTheTable hs ha hn hlen hnamed honce hone hsend hbeacon,
    fun o ht hbeacon => ⟨fun b hb => raiseTakesTheBidBack hs ha hn hlen hnamed ht hbeacon hb, fun hst hheld hord hshort =>
      raiseRefusesTheAward hs ha hn hshort hnamed ht hbeacon hst hheld hord⟩⟩

/-- Settles O23. -/
theorem alarmIsRaisedAndCleared : Obligations.AlarmIsRaisedAndCleared :=
  ⟨raiseAlarmOpensTheCall, clearAlarmSendsCleared, clearAlarmTakesTheCallBack, raiseAlarmTreatsTheNeighbours⟩

end Sys2Proof.Claims
end

section
/-! SUPPORT. The message pages and the messages' lifetimes (R152, R158), and what a second counts (R55, R65, R71, R152, R190). -/

namespace Sys2Proof.Claims

open Sys2Proof.Machine

/-! ## Composing the pages -/

/-- A message on a page stands in the queue. -/
theorem messageOn_mem {m : Message} {n : Nat} {s : State} (h : messageOn s n = some m) : m ∈ s.msg.queue := by
  unfold messageOn at h
  split at h
  · exact (List.mem_filter.1 (List.mem_reverse.1 (List.mem_of_getElem? h))).1
  · cases h

/-- The entries that the pages' composing leaves: those that were not NEW on the shown page (R158). -/
theorem newToShown_mem {m : Message} {s : State} (hm : m ∈ s.msg.queue) (hs : m.state ≠ .new)
    (hu : ∀ a ∈ s.msg.queue, a.pair = m.pair → a = m) : m ∈ (newToShown s).msg.queue := by
  unfold newToShown
  split
  next a ha =>
    split
    next h =>
      refine List.mem_map.2 ⟨m, hm, if_neg ?_⟩
      rw [beq_iff_eq]
      intro hp
      exact hs (hu a (messageOn_mem ha) hp.symm ▸ h.2)
    · exact hm
  · exact hm

theorem newToShown_length (s : State) : (newToShown s).msg.queue.length = s.msg.queue.length := by
  unfold newToShown
  repeat' split
  · simp [updateWhere]
  · rfl
  · rfl

theorem newToShown_pairs (s : State) : (newToShown s).msg.queue.map (·.pair) = s.msg.queue.map (·.pair) := by
  unfold newToShown
  split
  · split
    · rw [updateWhere, List.map_map]
      exact List.map_congr_left fun a _ => by
        simp only [Function.comp_apply]
        split <;> rfl
    · rfl
  · rfl

theorem composeMessages_touches (s : State) : OnlyTouches [.msg] s (composeMessages s) :=
  ⟨by simp, fun b => by cases b <;> simp [Kept]⟩

theorem composeMessages_mem {m : Message} {s : State} (hm : m ∈ s.msg.queue) (hs : m.state ≠ .new)
    (hu : ∀ a ∈ s.msg.queue, a.pair = m.pair → a = m) : m ∈ (composeMessages s).msg.queue := by
  rw [(composeMessages_keeps_msg s).1]
  exact newToShown_mem hm hs hu

/-! ## One message changed -/

theorem updateMessage_touches (p : MsgPair) (f : Message → Message) (s : State) : OnlyTouches [.msg] s (updateMessage p f s) :=
  ⟨rfl, fun b => by cases b <;> simp [Kept, updateMessage]⟩

/-- A change of a message that leaves its pair: it stands once still. -/
theorem queued_updateMessage {m : Message} {f : Message → Message} {s : State} (h : Queued m s) (hf : (f m).pair = m.pair) :
    Queued (f m) (updateMessage m.pair f s) := by
  obtain ⟨hm, hu⟩ := h
  refine ⟨List.mem_map.2 ⟨m, hm, by simp⟩, fun a ha hp => ?_⟩
  obtain ⟨b, hb, rfl⟩ := List.mem_map.1 ha
  by_cases hb' : b.pair = m.pair
  · simp [hu b hb hb']
  · have hne : ¬ (b.pair == m.pair) = true := by simpa using hb'
    rw [if_neg hne, hf] at hp
    exact absurd hp hb'

/-- A message that is not NEW stands as the pages are composed. -/
theorem queued_composeMessages {m : Message} {s : State} (h : Queued m s) (hs : m.state ≠ .new) :
    Queued m (composeMessages s) := by
  obtain ⟨hm, hu⟩ := h
  refine ⟨composeMessages_mem hm hs hu, fun a ha hp => ?_⟩
  rw [(composeMessages_keeps_msg s).1] at ha
  unfold newToShown at ha
  split at ha
  next c hc =>
    split at ha
    next hnew =>
      obtain ⟨b, hb, rfl⟩ := List.mem_map.1 ha
      have hbp : b.pair = m.pair := by
        rw [← hp]
        split <;> rfl
      have hbm := hu b hb hbp
      subst hbm
      refine if_neg ?_
      rw [beq_iff_eq]
      intro hcp
      exact hs (hu c (messageOn_mem hc) hcp.symm ▸ hnew.2)
    · exact hu a ha hp
  · exact hu a ha hp

theorem queued_congr {m : Message} {s t : State} (h : t.msg.queue = s.msg.queue) (hq : Queued m s) : Queued m t := by
  rw [Queued, h]
  exact hq

/-- A receipt that is not owed is not offered (R155). -/
theorem reofferReceipt_settled {m : Message} {s : State} (h : Queued m s) (hr : ∀ k, m.receipt ≠ some (.owed k)) :
    reofferReceipt m.pair s = s := by
  unfold reofferReceipt
  rw [findMessage_of_queued h]
  split
  next k hk => exact absurd hk (hr k)
  · rfl

/-! ## An expiry (R152) -/

/-- A message as its lifetime ends. -/
def expired (m : Message) : Message := { m with state := .expired, lifetime := some 0 }

theorem expireMessage_spec {m : Message} {s : State} (h : Queued m s) (hr : ∀ k, m.receipt ≠ some (.owed k)) :
    expired m ∈ (expireMessage m.pair s).msg.queue
      ∧ (expireMessage m.pair s).msg.queue.length = s.msg.queue.length
      ∧ (expireMessage m.pair s).msg.recent = s.msg.recent
      ∧ (expireMessage m.pair s).port = (raise .messageExpired (.message m.pair) s).port
      ∧ OnlyTouches [.msg, .port] s (expireMessage m.pair s) := by
  generalize hv : updateMessage m.pair expired s = v
  have hq : Queued (expired m) v := by
    rw [← hv]
    exact queued_updateMessage h rfl
  have hcomposed : Queued (expired m) (composeMessages (raise .messageExpired (.message m.pair) v)) :=
    queued_composeMessages (queued_congr (by simp) hq) (by simp [expired])
  have hexpire : expireMessage m.pair s = composeMessages (raise .messageExpired (.message m.pair) v) := by
    rw [expireMessage, ← reofferReceipt_settled hcomposed hr, ← hv]
    rfl
  have hvp : v.port = s.port := by
    rw [← hv]
    rfl
  rw [hexpire]
  refine ⟨hcomposed.1, ?_, ?_, ?_, ?_⟩
  · rw [(composeMessages_keeps_msg _).1, newToShown_length, ← hv]
    simp [updateMessage, updateWhere]
  · rw [← hv]
    simp [updateMessage]
  · simpa using raise_port _ _ _ _ hvp
  · rw [← hv]
    exact ((updateMessage_touches _ _ _).widen (by simp)).trans
      (((raise_touches _ _ _).widen (by simp)).trans ((composeMessages_touches _).widen (by simp)))

theorem lastSecond_iff (m : Message) :
    LastSecond m ↔ m.lifetime.any (fun n => decide (n ≤ 1)) = true ∧ m.state ≠ .expired := by
  unfold LastSecond
  refine and_congr_left fun _ => ?_
  cases m.lifetime with
  | none => simp
  | some n => simp; omega

theorem messageExpiry_eq {m : Message} {s : State} (h : Queued m s) :
    messageExpiry m.pair s = if s.awake = true ∧ LastSecond m then expireMessage m.pair s else s := by
  simp only [messageExpiry, findMessage_of_queued h, lastSecond_iff]

/-! ## A second (R190) -/

/-- The messages a second older. -/
def agedMessages (q : List Message) : List Message := q.map fun m => { m with lifetime := m.lifetime.map (· - 1) }

theorem messageSecond_eq (s : State) :
    messageSecond s =
      ((agedMessages s.msg.queue).filter Message.overdue).foldl (fun s m => expireMessage m.pair s)
        { s with msg := { s.msg with queue := agedMessages s.msg.queue } } := rfl

theorem overdue_aged (m : Message) :
    Message.overdue { m with lifetime := m.lifetime.map (· - 1) } = true ↔ LastSecond m := by
  unfold Message.overdue LastSecond
  rcases m.lifetime with - | n
  · simp
  · simp
    intro _
    omega

theorem messageSecond_none {s : State} (h : ∀ m ∈ s.msg.queue, ¬ LastSecond m) :
    messageSecond s = { s with msg := { s.msg with queue := agedMessages s.msg.queue } } := by
  have hnone : (agedMessages s.msg.queue).filter Message.overdue = [] := by
    rw [List.filter_eq_nil_iff]
    intro a ha hover
    obtain ⟨m, hm, rfl⟩ := List.mem_map.1 ha
    exact h m hm ((overdue_aged m).1 hover)
  rw [messageSecond_eq, hnone, List.foldl_nil]

/-- The only entry of a list that meets a test. -/
theorem filter_sole {α : Type} {p : α → Bool} {x : α} {l : List α} (hn : l.Nodup) (hx : x ∈ l) (hp : p x = true)
    (hu : ∀ a ∈ l, p a = true → a = x) : l.filter p = [x] := by
  have hall : ∀ a ∈ l.filter p, a = x := fun a ha => hu a (List.mem_filter.1 ha).1 (List.mem_filter.1 ha).2
  have hrep : l.filter p = List.replicate (l.filter p).length x := List.eq_replicate_iff.2 ⟨rfl, hall⟩
  have hnodup : (List.replicate (l.filter p).length x).Nodup := hrep ▸ hn.filter p
  have hpos : x ∈ l.filter p := List.mem_filter.2 ⟨hx, hp⟩
  have hlen : (l.filter p).length = 1 :=
    Nat.le_antisymm (List.nodup_replicate.1 hnodup) (List.length_pos_of_mem hpos)
  rw [hrep, hlen]
  rfl

theorem messageSecond_sole {m : Message} {s : State} (hm : m ∈ s.msg.queue) (hlast : LastSecond m)
    (hn : (s.msg.queue.map (·.pair)).Nodup) (hu : ∀ a ∈ s.msg.queue, LastSecond a → a = m) :
    messageSecond s = expireMessage m.pair { s with msg := { s.msg with queue := agedMessages s.msg.queue } } := by
  have hpairs : (agedMessages s.msg.queue).map (·.pair) = s.msg.queue.map (·.pair) := by
    simp [agedMessages]
  have hsole : (agedMessages s.msg.queue).filter Message.overdue = [{ m with lifetime := m.lifetime.map (· - 1) }] := by
    refine filter_sole (List.Nodup.of_map _ (hpairs ▸ hn)) (List.mem_map.2 ⟨m, hm, rfl⟩) ((overdue_aged m).2 hlast)
      fun a ha hover => ?_
    obtain ⟨b, hb, rfl⟩ := List.mem_map.1 ha
    rw [hu b hb ((overdue_aged b).1 hover)]
  rw [messageSecond_eq, hsole, List.foldl_cons, List.foldl_nil]

/-- The state as a second has counted everything but the messages. -/
def ticked (s : State) : State :=
  emergencySecond (offerSecond { s with
    elapsed := s.elapsed + 1
    port := { s.port with clock := s.port.clock + 1 }
    offers := { s.offers with
      positionAge := if s.offers.cell.isSome then min 65535 (s.offers.positionAge + 1) else s.offers.positionAge }
    tx := { s.tx with tickTimer := s.tx.tickTimer.map (· - 1) } })

theorem clockSecond_awake {s : State} (hr : s.port.inReset = false) (hc : s.port.clock < 4294967295)
    (hp : s.port.part = .running ∨ s.port.part = .dormant) : clockSecond s = messageSecond (ticked s) := by
  have hawake : s.awake = true := by
    obtain h | h := hp <;> simp [State.awake, h]
  have htick : clockTick { s with elapsed := s.elapsed + 1 } =
      { s with elapsed := s.elapsed + 1, port := { s.port with clock := s.port.clock + 1 } } := if_pos hc
  rw [clockSecond, if_neg (by simp [hr]), htick]
  exact if_pos hawake

theorem clockSecond_asleep {s : State} (hr : s.port.inReset = false) (hc : s.port.clock < 4294967295)
    (hp : ¬ (s.port.part = .running ∨ s.port.part = .dormant)) :
    clockSecond s = { s with elapsed := s.elapsed + 1, port := { s.port with clock := s.port.clock + 1 } } := by
  have hasleep : s.awake = false := by
    simpa [State.awake] using hp
  have htick : clockTick { s with elapsed := s.elapsed + 1 } =
      { s with elapsed := s.elapsed + 1, port := { s.port with clock := s.port.clock + 1 } } := if_pos hc
  rw [clockSecond, if_neg (by simp [hr]), htick]
  exact if_neg (by simpa [State.awake] using hp)

@[simp] theorem ticked_keeps (s : State) :
    (ticked s).elapsed = s.elapsed + 1 ∧ (ticked s).port = { s.port with clock := s.port.clock + 1 }
      ∧ (ticked s).tx = { s.tx with tickTimer := s.tx.tickTimer.map (· - 1) }
      ∧ (ticked s).msg.queue = s.msg.queue ∧ (ticked s).msg.recent = s.msg.recent
      ∧ (ticked s).emerg = { s.emerg with
        repeatTimer := s.emerg.repeatTimer.map (· - 1), spacingTimer := s.emerg.spacingTimer.map (· - 1),
        markerTimer := s.emerg.markerTimer.map (· - 1) } := by
  simp [ticked, emergencySecond, offerSecond]

theorem ticked_offers (s : State) :
    (ticked s).offers = { s.offers with
      positionAge := if s.offers.cell.isSome then min 65535 (s.offers.positionAge + 1) else s.offers.positionAge
      table := s.offers.table.map fun e =>
        { e with awardTimer := e.awardTimer.map (· - 1), acceptTimer := e.acceptTimer.map (· - 1) } } := by
  simp [ticked, emergencySecond, offerSecond]

theorem ticked_touches (s : State) : OnlyTouches [.tx, .offers, .msg, .emerg, .port] s (ticked s) :=
  ⟨by simp [ticked, emergencySecond, offerSecond],
    fun b => by cases b <;> simp [Kept, ticked, emergencySecond, offerSecond]⟩

theorem secondsAndMinutesCount : SecondsAndMinutesCount := by
  intro s hr hlife
  refine ⟨fun hc => ?_, fun hp => ?_, fun hp => ?_⟩
  · by_cases hp : s.port.part = .running ∨ s.port.part = .dormant
    · have hrun := (clockSecond_awake hr hc hp).trans (messageSecond_none (s := ticked s) (by simpa using hlife))
      have hmsg : OnlyTouches [.tx, .offers, .msg, .emerg, .port] (ticked s)
          { ticked s with msg := { (ticked s).msg with queue := agedMessages (ticked s).msg.queue } } :=
        ⟨rfl, fun b => by cases b <;> simp [Kept]⟩
      refine completes_event hrun rfl ⟨by simp, by simp, fun _ => ⟨by simp [ticked_offers], by simp [ticked_offers],
        by simp [ticked_offers], by simp [ticked_offers], by simp [agedMessages], by simp, by simp, by simp, by simp, by simp,
        onlyTouches_settle ((ticked_touches s).trans hmsg)⟩, fun hsleep => ?_⟩
      obtain h | h := hsleep <;> simp [h] at hp
    · refine completes_event (clockSecond_asleep hr hc hp) rfl ⟨by simp, by simp, fun h => absurd h hp, fun _ =>
        onlyTouches_settle ⟨rfl, fun b => by cases b <;> simp [Kept]⟩⟩
  · have hawake : s.awake = true := by
      obtain h | h := hp <;> simp [State.awake, h]
    have hrun : idleMinute s = { s with offers := { s.offers with idleMinutes := min 255 (s.offers.idleMinutes + 1) } } :=
      if_pos hawake
    exact completes_event hrun rfl ⟨by simp, onlyTouches_settle ⟨rfl, fun b => by cases b <;> simp [Kept]⟩⟩
  · have hrun : idleMinute s = s := by
      refine if_neg ?_
      obtain h | h := hp <;> simp [State.awake, h]
    exact completes_nothing (congrArg (fun u => Host.Outcome.next (settle u)) hrun)

theorem messageLifetimeEnds : MessageLifetimeEnds := by
  intro m s hp hq hr
  have hawake : s.awake = true := by
    obtain h | h := hp <;> simp [State.awake, h]
  refine ⟨fun hlast => ?_, fun hlast => ?_, fun hlast hn hu hreset hc => ?_⟩
  · have hrun := (messageExpiry_eq hq).trans (if_pos ⟨hawake, hlast⟩)
    obtain ⟨hmem, hlen, hrecent, hport, htouch⟩ := expireMessage_spec hq hr
    exact completes_event hrun rfl ⟨⟨_, by simpa [expired] using hmem, rfl⟩, by simpa using hlen, by simpa using hrecent,
      by simpa using hport, onlyTouches_settle htouch⟩
  · have hrun := (messageExpiry_eq hq).trans (if_neg (fun h => hlast h.2))
    exact completes_nothing (congrArg (fun u => Host.Outcome.next (settle u)) hrun)
  · obtain ⟨hm, -⟩ := hq
    have hm' : m ∈ (ticked s).msg.queue := by simpa using hm
    have hn' : ((ticked s).msg.queue.map (·.pair)).Nodup := by simpa using hn
    have hu' : ∀ a ∈ (ticked s).msg.queue, LastSecond a → a = m := by simpa using hu
    have hrun := (clockSecond_awake hreset hc hp).trans (messageSecond_sole hm' hlast hn' hu')
    generalize hw : { ticked s with msg := { (ticked s).msg with queue := agedMessages (ticked s).msg.queue } } = w at hrun
    have hwq : w.msg.queue = agedMessages s.msg.queue := by
      rw [← hw]
      simp
    have hpairs : (agedMessages s.msg.queue).map (·.pair) = s.msg.queue.map (·.pair) := by
      simp [agedMessages]
    have hqueued : Queued { m with lifetime := m.lifetime.map (· - 1) } w := by
      have hin : { m with lifetime := m.lifetime.map (· - 1) } ∈ w.msg.queue := by
        rw [hwq]
        exact List.mem_map.2 ⟨m, hm, rfl⟩
      refine ⟨hin, fun a ha hpair => ?_⟩
      refine List.inj_on_of_nodup_map (f := (·.pair)) ?_ ha hin hpair
      rw [hwq, hpairs]
      exact hn
    obtain ⟨hmem, hlen, hrecent, hport, htouch⟩ := expireMessage_spec hqueued hr
    have hwp : w.port = { s.port with clock := s.port.clock + 1 } := by
      rw [← hw]
      simp
    have hwtouch : OnlyTouches [.tx, .offers, .msg, .emerg, .port] s w := by
      rw [← hw]
      exact (ticked_touches s).trans ⟨rfl, fun b => by cases b <;> simp [Kept]⟩
    have htx : _ = w.tx := htouch.kept (b := .tx) (by simp)
    have hemerg : { (expireMessage m.pair w).emerg with lamp := w.emerg.lamp, lampOn := w.emerg.lampOn } = w.emerg :=
      htouch.kept (b := .emerg) (by simp)
    have hwrepeat : w.emerg.repeatTimer = s.emerg.repeatTimer.map (· - 1) := by
      rw [← hw]
      simp
    have hwtx : w.tx = { s.tx with tickTimer := s.tx.tickTimer.map (· - 1) } := by
      rw [← hw]
      simp
    refine completes_event hrun rfl ⟨⟨_, by simpa [expired] using hmem, rfl⟩, ?_, ?_, ?_, ?_, ?_, onlyTouches_settle ?_⟩
    · simp only [settle_keeps_msg]
      rw [hlen, hwq]
      simp [agedMessages]
    · simp only [settle_keeps_msg]
      rw [hrecent, ← hw]
      simp
    · simp only [settle_keeps]
      rw [hport]
      exact raise_port _ _ _ _ hwp
    · simp only [settle_keeps_emerg]
      rw [← hwrepeat, ← hemerg]
    · simp only [settle_keeps]
      exact htx.trans hwtx
    · exact hwtouch.trans (htouch.widen (by simp))

/-- Settles O45. -/
theorem timeMovesTheClockAndTheLifetimes : Obligations.TimeMovesTheClockAndTheLifetimes :=
  ⟨secondsAndMinutesCount, messageLifetimeEnds⟩

end Sys2Proof.Claims
end

section
/-! SUPPORT. The resets (R22, R39, R59, R83, R110, R147, R165, R186, R199). -/

namespace Sys2Proof.Claims

open Sys2Proof.Machine

/-- What the start-up scan leaves of the store: the queue, the settings, and which sectors are marked faulty. -/
structure Scanned (s t : State) : Prop where
  queue : t.store.queue = s.store.queue
  carry : t.store.historyCarry = s.store.historyCarry
  dropped : t.store.dropped = s.store.dropped
  supply : t.store.supplyLow = s.store.supplyLow
  scan : s.store.scan.isSome = true → t.store.scan.isSome = true
  faults : t.store.sectors.map (·.fault) = s.store.sectors.map (·.fault)

namespace Scanned

theorem refl (s : State) : Scanned s s := ⟨rfl, rfl, rfl, rfl, id, rfl⟩

theorem trans {s t u : State} (h : Scanned s t) (k : Scanned t u) : Scanned s u :=
  ⟨k.queue.trans h.queue, k.carry.trans h.carry, k.dropped.trans h.dropped, k.supply.trans h.supply, k.scan ∘ h.scan,
    k.faults.trans h.faults⟩

end Scanned

/-- A change of a sector that leaves its fault mark. -/
theorem updateSector_faults {n : Nat} {f : Sector → Sector} (hf : ∀ c, (f c).fault = c.fault) (s : State) :
    (updateSector n f s).store.sectors.map (·.fault) = s.store.sectors.map (·.fault) := by
  rw [updateSector_store, List.map_set, hf]
  by_cases h : n - 1 < s.store.sectors.length
  · have hself : (sectorOf s n).fault = (s.store.sectors.map (·.fault))[n - 1]'(by simpa using h) := by
      simp [sectorOf, List.getD, h]
    rw [hself, List.set_getElem_self]
  · exact List.set_eq_of_length_le (by simpa using h)

theorem updateSector_scanned {n : Nat} {f : Sector → Sector} (hf : ∀ c, (f c).fault = c.fault) (s : State) :
    Scanned s (updateSector n f s) :=
  ⟨rfl, rfl, rfl, rfl, id, updateSector_faults hf s⟩

theorem beginErase_scanned (n : Nat) (s : State) : Scanned s (beginErase n s) := by
  unfold beginErase
  dsimp only
  split
  · exact ⟨rfl, rfl, rfl, rfl, id, rfl⟩
  · exact Scanned.trans (t := { s with store := { s.store with
      erasing := some n, inProgress := !s.held, activity := .erasing } }) ⟨rfl, rfl, rfl, rfl, id, rfl⟩
      (updateSector_scanned (by exact fun _ => rfl) _)

theorem haltStore_scanned (s : State) : Scanned s (haltStore s) := by
  unfold haltStore
  exact ⟨by simp, by simp, by simp, by simp, by simp, by simp⟩

theorem beginSwap_scanned (s : State) : Scanned s (beginSwap s) := by
  unfold beginSwap
  repeat' split
  · exact ⟨rfl, rfl, rfl, rfl, id, rfl⟩
  · exact beginErase_scanned _ s
  · exact haltStore_scanned s

/-- The scan's own record rewritten. -/
theorem withScan_scanned (c : Option Scan) (s : State) (hc : s.store.scan.isSome = true → c.isSome = true) :
    Scanned s { s with store := { s.store with scan := c } } :=
  ⟨rfl, rfl, rfl, rfl, hc, rfl⟩

theorem formatNext_scanned (s : State) : Scanned s (formatNext s) := by
  unfold formatNext
  repeat' split
  · exact (withScan_scanned _ s (by simp)).trans (beginErase_scanned _ _)
  · exact ⟨rfl, rfl, rfl, rfl, id, rfl⟩
  · exact (withScan_scanned _ s (by simp)).trans (haltStore_scanned _)
  · exact .refl s
  · exact .refl s

theorem nextRepair_scanned (s : State) : Scanned s (nextRepair s) := by
  have mark : ∀ f : Scan → Scan, Scanned s { s with store := { s.store with scan := s.store.scan.map f } } := fun f =>
    withScan_scanned _ s (by simp)
  unfold nextRepair
  dsimp only
  repeat' split
  · exact (mark _).trans (beginErase_scanned _ _)
  · exact (mark fun c => { c with repaired := true }).trans ⟨rfl, rfl, rfl, rfl, id, rfl⟩
  · exact .refl s
  · exact (mark fun c => { c with repaired := true }).trans ⟨rfl, rfl, rfl, rfl, id, rfl⟩
  · refine Scanned.trans (t := markRepaired s) (mark _) (Scanned.trans ?_ (beginErase_scanned _ _))
    exact withScan_scanned _ _ (by simp [markRepaired])
  · refine Scanned.trans (t := markRepaired s) (mark _) (Scanned.trans ?_ (beginSwap_scanned _))
    exact withScan_scanned _ _ (by simp [markRepaired])
  · exact (mark _).trans (beginErase_scanned _ _)
  · exact .refl s
  · exact (mark _).trans (formatNext_scanned _)
  · exact ⟨rfl, rfl, rfl, rfl, id, rfl⟩

theorem readHeader_fault (c : Sector) : (readHeader c).fault = c.fault := by
  unfold readHeader
  split <;> rfl

/-- The scan begins (R139). -/
def scanning (s : State) : State :=
  { s with store := { s.store with
      sectors := s.store.sectors.map readHeader
      scan := some { repaired := false, redoSwap := false, formatting := none, formatted := false } } }

theorem beginScan_eq (s : State) : beginScan s = nextRepair (scanning s) := rfl

theorem beginScan_scanned (s : State) : Scanned s (beginScan s) ∧ (beginScan s).store.scan.isSome = true := by
  have h := nextRepair_scanned (scanning s)
  rw [beginScan_eq]
  refine ⟨Scanned.trans (t := scanning s) ⟨rfl, rfl, rfl, rfl, fun _ => rfl, ?_⟩ h, h.scan rfl⟩
  simp only [scanning, List.map_map]
  exact List.map_congr_left fun c _ => readHeader_fault c

theorem beginScan_port (s : State) :
    (beginScan s).port.part = s.port.part ∧ (beginScan s).port.inReset = s.port.inReset
      ∧ (beginScan s).port.response = s.port.response ∧ (beginScan s).port.requestCount = s.port.requestCount
      ∧ (beginScan s).port.clock = s.port.clock := by
  obtain ⟨hpart, hreset, hresponse, hcount, -, -, hclock⟩ := (nextRepair_reach (scanning s)).keeps_port
  rw [beginScan_eq]
  exact ⟨hpart, hreset, hresponse, hcount, hclock⟩

/-! ## The blocks at their reset values -/

/-- Lamp off and bus dark: a state outside RUNNING at the reset values settles at them (R165, R186). -/
theorem settle_reset {s : State} (hp : s.port.part = .scanning) (hm : s.msg = .reset)
    (he : { s.emerg with lamp := Emerg.reset.lamp, lampOn := Emerg.reset.lampOn } = Emerg.reset)
    (hl : s.emerg.lamp = .off) (ho : s.emerg.lampOn = false) :
    (settle s).msg = .reset ∧ (settle s).emerg = .reset := by
  have hlit : s.lit = false := by simp [State.lit, hp]
  have hlamp : lampPattern s = .off := by simp [lampPattern, hp]
  have hemerg : s.emerg = .reset := by
    rw [← he]
    simp [Emerg.reset, ← hl, ← ho]
  constructor
  · rw [settle_msg, hlit, hm]
    rfl
  · rw [settle_emerg, hlamp, hemerg]
    rfl

theorem cutStore_touches (s : State) : OnlyTouches [.store] s (cutStore s) := by
  unfold cutStore
  repeat' split
  all_goals exact touches_store rfl

theorem putSlot_scanned (w : RecordWrite) (s : State) : Scanned s (putSlot w s) :=
  updateSector_scanned (by exact fun _ => rfl) s

theorem putHeader_scanned (h : HeaderWrite) (s : State) : Scanned s (putHeader h s) := by
  refine Scanned.trans (t := { s with store := { s.store with headerWrite := none, inProgress := false } })
    ⟨rfl, rfl, rfl, rfl, id, rfl⟩ (updateSector_scanned (by exact fun _ => rfl) _)

theorem cutStore_scanned (s : State) : Scanned s (cutStore s) := by
  have hdrawn : Scanned s s.useFree := ⟨by simp, by simp, by simp, by simp, by simp, by simp⟩
  unfold cutStore
  repeat' split
  · exact hdrawn.trans (putSlot_scanned _ _)
  · exact hdrawn.trans (putHeader_scanned _ _)
  · exact .refl s
  · exact hdrawn
  · exact .refl s

theorem clearFaults_fault {l : List Sector} {c : Sector} (h : c ∈ clearFaults l) : c.fault = false := by
  obtain ⟨a, -, rfl⟩ := List.mem_map.1 h
  rfl

theorem blocksAtReset_of {s u : State} {sectors : List Sector} (h : OnlyTouches [.store, .port] (resetBlocks sectors s) u)
    (hq : u.store.queue = []) (hc : u.store.historyCarry = true) (hd : u.store.dropped = 0) (hp : u.port.part = .scanning) (hl : u.emerg.lamp = .off)
    (ho : u.emerg.lampOn = false) (hb : u.msg.bus = .dark) : BlocksAtReset (settle u) := by
  have hlink : u.link = { Link.reset with carrier := s.link.carrier } := h.kept (b := .link) (by simp)
  have hmsg : { u.msg with bus := Msg.reset.bus } = Msg.reset := h.kept (b := .msg) (by simp)
  obtain ⟨hm, he⟩ := settle_reset hp (by rw [← hmsg]; simp [Msg.reset, ← hb]) (h.kept (b := .emerg) (by simp)) hl ho
  have hrx : u.rx = .reset := h.kept (b := .rx) (by simp)
  have htx : u.tx = .reset := h.kept (b := .tx) (by simp)
  have hoffers : u.offers = .reset := h.kept (b := .offers) (by simp)
  have hfare : u.fare = .reset := h.kept (b := .fare) (by simp)
  have htrips : u.trips = .reset := h.kept (b := .trips) (by simp)
  refine ⟨?_, by simpa using hrx, by simpa using htx, by simpa using hoffers, by simpa using hfare, by simpa using htrips,
    hm, he, by simpa using hq, by simpa using hc, by simpa using hd⟩
  simp only [settle_keeps, hlink]
  rfl

/-- The scan touches neither lamp nor bus. -/
theorem nextRepair_lamp (s : State) :
    (nextRepair s).emerg = s.emerg ∧ (nextRepair s).msg = s.msg := by
  have hemerg : ∀ u, (haltStore u).emerg = u.emerg ∧ (haltStore u).msg = u.msg := fun u => by simp [haltStore]
  have herase : ∀ n u, (beginErase n u).emerg = u.emerg ∧ (beginErase n u).msg = u.msg := fun n u => by
    unfold beginErase
    dsimp only
    split <;> exact ⟨rfl, rfl⟩
  have hswap : ∀ u, (beginSwap u).emerg = u.emerg ∧ (beginSwap u).msg = u.msg := fun u => by
    unfold beginSwap
    repeat' split
    · exact ⟨rfl, rfl⟩
    · exact herase _ u
    · exact hemerg u
  have hformat : ∀ u, (formatNext u).emerg = u.emerg ∧ (formatNext u).msg = u.msg := fun u => by
    unfold formatNext
    repeat' split
    · exact herase _ _
    · exact ⟨rfl, rfl⟩
    · exact hemerg _
    · exact ⟨rfl, rfl⟩
    · exact ⟨rfl, rfl⟩
  unfold nextRepair
  dsimp only
  repeat' split
  all_goals first | exact herase _ _ | exact hswap _ | exact hformat _ | exact ⟨rfl, rfl⟩

theorem powerOn_resets (s : State) :
    ∃ u, powerOn s = u ∧ BlocksAtReset (settle u) ∧ u.link = .reset ∧ u.port.part = .scanning ∧ u.port.inReset = false
      ∧ u.port.requestCount = 0 ∧ u.port.clock = 0 ∧ u.port.response = none ∧ u.store.supplyLow = false
      ∧ u.store.scan.isSome = true ∧ (∀ c ∈ u.store.sectors, c.fault = false) ∧ u.pending = s.pending := by
  generalize hv : resetBlocks (clearFaults (cutStore s).store.sectors) (cutStore s) = v
  generalize hw : { v with link := { v.link with carrier := false }, store := { v.store with supplyLow := false } } = w
  have hwreset : w = { resetBlocks (clearFaults (cutStore s).store.sectors) { cutStore s with
      link := { (cutStore s).link with carrier := false } } with store := { v.store with supplyLow := false } } := by
    rw [← hw, ← hv]
    rfl
  obtain ⟨hscan, hsome⟩ := beginScan_scanned w
  obtain ⟨hpart, hreset, hresponse, hcount, hclock⟩ := beginScan_port w
  have htouch := beginScan_touches w
  have hlamp := nextRepair_lamp (scanning w)
  have hlink : (beginScan w).link = w.link := htouch.kept (b := .link) (by simp)
  refine ⟨beginScan w, by rw [← hw, ← hv]; rfl, ?_, ?_, ?_, ?_, ?_, ?_, ?_, ?_, hsome, ?_, ?_⟩
  · refine blocksAtReset_of (s := { cutStore s with link := { (cutStore s).link with carrier := false } })
      (sectors := clearFaults (cutStore s).store.sectors) (htouch.before ?_ fun b => ?_) ?_ ?_ ?_ ?_ ?_ ?_ ?_
    · rw [hwreset]
    · rw [hwreset]
      cases b <;> simp [Kept]
    · rw [hscan.queue, hwreset, ← hv]
      rfl
    · rw [hscan.carry, hwreset, ← hv]
      rfl
    · rw [hscan.dropped, hwreset, ← hv]
      rfl
    · rw [hpart, hwreset]
      rfl
    · rw [beginScan_eq, hlamp.1, scanning, hwreset]
      rfl
    · rw [beginScan_eq, hlamp.1, scanning, hwreset]
      rfl
    · rw [beginScan_eq, hlamp.2, scanning, hwreset]
      rfl
  · rw [hlink, hwreset]
    rfl
  · rw [hpart, hwreset]
    rfl
  · rw [hreset, hwreset]
    rfl
  · rw [hcount, hwreset]
    rfl
  · rw [hclock, hwreset]
    rfl
  · rw [hresponse, hwreset]
    rfl
  · rw [hscan.supply, hwreset]
  · have hclear : (beginScan w).store.sectors.map (·.fault) = (clearFaults (cutStore s).store.sectors).map (·.fault) := by
      rw [hscan.faults, hwreset, ← hv]
      rfl
    intro c hc
    have hmem : c.fault ∈ (clearFaults (cutStore s).store.sectors).map (·.fault) :=
      hclear ▸ List.mem_map_of_mem (f := (·.fault)) hc
    obtain ⟨a, ha, hfault⟩ := List.mem_map.1 hmem
    rw [← hfault, clearFaults_fault ha]
  · rw [htouch.1, hwreset]
    exact (cutStore_touches s).1

/-- Settles O41. -/
theorem resetsClearAndScan : Obligations.ResetsClearAndScan := by
  intro s
  refine ⟨?_, ?_, fun hr => ?_, fun hr => ?_⟩
  · obtain ⟨u, hu, hblocks, hlink, hpart, hreset, hcount, hclock, hresponse, hsupply, hscan, hfaults, hpending⟩ :=
      powerOn_resets s
    exact completes_event hu rfl ⟨hblocks, by simpa using hlink, by simpa using hpart, by simpa using hreset,
      by simpa using hcount, by simpa using hclock, by simpa using hresponse, by simpa using hsupply, by simpa using hscan,
      by simpa using hfaults, by simpa using hpending⟩
  · have hcut := cutStore_touches s
    have hscan := cutStore_scanned s
    have hlink : (cutStore s).link = s.link := hcut.kept (b := .link) (by simp)
    refine completes_event (u := resetPin s) rfl rfl ⟨?_, ?_, ?_, ?_, ?_, ?_, ?_⟩
    · refine blocksAtReset_of (s := cutStore s) (sectors := (cutStore s).store.sectors) ⟨rfl, fun b => ?_⟩
        rfl rfl rfl rfl rfl rfl rfl
      cases b <;> simp [Kept, resetPin]
    · simp [resetPin, resetBlocks]
    · simp [resetPin, resetBlocks, hlink]
    · simpa [resetPin, resetBlocks] using hscan.supply
    · simp [resetPin, resetBlocks]
    · simpa [resetPin, resetBlocks] using hscan.faults
    · simpa [resetPin, resetBlocks] using hcut.1
  · have hrun : resetPinRelease s = beginScan { s with port := { s.port with inReset := false } } := if_pos hr
    obtain ⟨-, hsome⟩ := beginScan_scanned { s with port := { s.port with inReset := false } }
    obtain ⟨hpart, hreset, -⟩ := beginScan_port { s with port := { s.port with inReset := false } }
    refine completes_event hrun rfl ⟨by simpa using hreset, by simpa using hpart, by simpa using hsome, onlyTouches_settle ?_⟩
    exact (beginScan_touches _).before rfl fun b => by cases b <;> simp [Kept]
  · have hrun : resetPinRelease s = s := if_neg (by simp [hr])
    exact completes_nothing (congrArg (fun u => Host.Outcome.next (settle u)) hrun)

end Sys2Proof.Claims
end

section
/-! SUPPORT. START_UP_SCAN_END: what the records give (R111, R126, R127, R142, R144, R167, R178). -/

namespace Sys2Proof.Claims

open Sys2Proof.Machine

/-! ## What the newest records say -/

theorem totalizerOf_some {rs : List Record} {r : Record} {tt : Totals} {n : Nat}
    (h : newest Record.isTotalizer rs = some r) (hb : r.body = .totalizer tt n) : totalizerOf rs = some (r, tt, n) := by
  simp [totalizerOf, h, hb]

theorem totalizerOf_none {rs : List Record} (h : newest Record.isTotalizer rs = none) : totalizerOf rs = none := by
  simp [totalizerOf, h]

theorem shiftOf_some {rs : List Record} {r : Record} {sh : Shift} {n : Nat}
    (h : newest Record.isShift rs = some r) (hb : r.body = .shift sh n) : shiftOf rs = some (r, sh, n) := by
  simp [shiftOf, h, hb]

theorem shiftOf_none {rs : List Record} (h : newest Record.isShift rs = none) : shiftOf rs = none := by
  simp [shiftOf, h]

theorem recordedLastTrip_recorded (rs : List Record) : LastTripRecorded rs (recordedLastTrip rs) := by
  refine ⟨fun r h tt sh a b ht hr hs hh => ?_, fun r tt a ht hr hs => ?_, fun h sh b ht hs hh => ?_, fun ht hs => ?_⟩
  · simp [recordedLastTrip, totalizerOf_some ht hr, shiftOf_some hs hh]
  · simp [recordedLastTrip, totalizerOf_some ht hr, shiftOf_none hs]
  · simp [recordedLastTrip, totalizerOf_none ht, shiftOf_some hs hh]
  · simp [recordedLastTrip, totalizerOf_none ht, shiftOf_none hs]

theorem isUploadDoneOf_iff {n : Nat} {r : Record} : isUploadDoneOf n r = true ↔ r.body = .uploadDone n := by
  unfold isUploadDoneOf
  cases r.body <;> simp

theorem lastClosedFrom_rebuilt (rs : List Record) : LastClosedRebuilt rs (lastClosedFrom rs) := by
  refine ⟨fun h => by simp [lastClosedFrom, h], fun r x h hb => ?_⟩
  have htrip : r.trip? = some x := by simp [Record.trip?, hb]
  have hlast : lastClosedFrom rs =
      some (if (rs.any fun u => isUploadDoneOf x.number u && decide (r.writeNo < u.writeNo))
        || (r.carry == .historyCopy && x.upload == .unsent) then { x with upload := .delivered } else x) := by
    simp only [lastClosedFrom, h, Option.bind_some, htrip, Option.map_some]
  have hsettled : ((rs.any fun u => isUploadDoneOf x.number u && decide (r.writeNo < u.writeNo))
      || (r.carry == .historyCopy && x.upload == .unsent)) = true ↔
      (∃ u ∈ rs, u.body = .uploadDone x.number ∧ r.writeNo < u.writeNo) ∨ (r.carry = .historyCopy ∧ x.upload = .unsent) := by
    simp [isUploadDoneOf_iff]
  refine ⟨fun hs => ?_, fun hs => ?_⟩
  · rw [hlast, if_pos (hsettled.2 hs)]
  · rw [hlast, if_neg (fun hc => hs (hsettled.1 hc))]

/-! ## The handing over -/

theorem completeRepairs_idle (n : Nat) {s : State} (h : s.store.inProgress = false) : completeRepairs n s = s := by
  cases n with
  | zero => rfl
  | succ n => simp [completeRepairs, h]

theorem startUpScanEnd_hands {c : Scan} {s : State} (hp : s.port.part = .scanning) (hr : s.port.inReset = false)
    (hc : s.store.scan = some c) (hi : s.store.inProgress = false) (hrec : s.store.record = none)
    (hhead : s.store.headerWrite = none) (herase : s.store.erasing = none) : startUpScanEnd s = handOver c s := by
  have hleft : repairsLeft s = false := by simp [repairsLeft, hrec, hhead, herase]
  rw [startUpScanEnd, completeRepairs_idle 4000 hi]
  simp only [hc, hp, hr, hleft, and_self, if_true]

/-- The books as the records give them. -/
def rebuilt (s : State) : State :=
  rebuildAlarm (allRecords s) (restoreTrip (allRecords s) (rebuildTrips (allRecords s) s))

/-- The write counter taken up above the records' numbers. -/
def counterRead (s : State) : State := { s.useFree with store.writeCounter := writeCounterFrom s }

/-- The active sector passed over, where there is one. -/
def activePassed (s : State) : State := (activeSector s).elim s fun n => passOver n s

theorem counterRead_spec (s : State) :
    OnlyTouches [.store] s (counterRead s) ∧ (counterRead s).emerg = s.emerg ∧ (counterRead s).port = s.port :=
  ⟨touches_store rfl, rfl, rfl⟩

/-- The scan closed with its result, the part given over. -/
def handed (c : Scan) (s : State) : State :=
  { s with
    store.scan := none
    store.startUp := startUpResult c
    store.activity := if s.store.activity = .halted then .halted else .idle
    port.part := .unconfigured
    port.handedOver := true }

theorem handOver_eq (c : Scan) (s : State) :
    handOver c s = startUpNotice (startUpResult c) (handed c (activePassed (counterRead (rebuilt s)))) := by
  unfold handOver
  extract_lets rs books source store read passed
  have hbooks : books = rebuilt s := rfl
  have hread : read = counterRead books := rfl
  have hpassed : passed = activePassed read := rfl
  rw [← hbooks, ← hread, ← hpassed]
  rfl

theorem handed_touches (c : Scan) (s : State) : OnlyTouches [.store, .port] s (handed c s) :=
  ⟨rfl, fun b => by cases b <;> simp [Kept, handed]⟩

theorem activePassed_spec (s : State) :
    OnlyTouches [.store] s (activePassed s) ∧ (activePassed s).emerg = s.emerg ∧ (activePassed s).port = s.port := by
  unfold activePassed
  cases activeSector s with
  | none => exact ⟨onlyTouches_refl _ s, rfl, rfl⟩
  | some n => exact ⟨touches_store rfl, rfl, rfl⟩

theorem startUpNotice_touches (r : StartUp) (s : State) : OnlyTouches [.port] s (startUpNotice r s) := by
  unfold startUpNotice
  split
  · exact onlyTouches_refl _ s
  · exact raise_touches _ _ s
  · exact raise_touches _ _ s

theorem startUpNotice_port (r : StartUp) (s : State) :
    (startUpNotice r s).port.part = s.port.part ∧ (startUpNotice r s).port.handedOver = s.port.handedOver := by
  unfold startUpNotice
  split <;> simp

/-- The scan's end gives the store and the part state, and leaves the books as they were rebuilt. -/
theorem handOver_spec (c : Scan) (s : State) :
    OnlyTouches [.store, .port] (rebuilt s) (handOver c s) ∧ (handOver c s).emerg = (rebuilt s).emerg
      ∧ (handOver c s).port.part = .unconfigured ∧ (handOver c s).port.handedOver = true
      ∧ (handOver c s).store.scan = none ∧ (handOver c s).store.startUp = startUpResult c
      ∧ (startUpResult c = .scanned → (handOver c s).port.notices = (rebuilt s).port.notices) := by
  obtain ⟨htouch, hemerg, hport⟩ := activePassed_spec (counterRead (rebuilt s))
  obtain ⟨hread, hreademerg, hreadport⟩ := counterRead_spec (rebuilt s)
  rw [handOver_eq]
  generalize activePassed (counterRead (rebuilt s)) = v at *
  have hnotice := startUpNotice_touches (startUpResult c) (handed c v)
  have hstore := hnotice.kept (b := .store) (by simp)
  obtain ⟨hpart, hhanded⟩ := startUpNotice_port (startUpResult c) (handed c v)
  refine ⟨?_, ?_, hpart, hhanded, (congrArg Store.scan hstore :), (congrArg Store.startUp hstore :), fun hs => ?_⟩
  · exact ((hread.trans htouch).widen (by simp)).trans ((handed_touches c v).trans (hnotice.widen (by simp)))
  · rw [← hreademerg, ← hemerg]
    unfold startUpNotice
    split <;> simp [handed]
  · rw [hs, ← hreadport, ← hport]
    rfl

theorem rebuilt_touches (s : State) : OnlyTouches [.fare, .trips, .emerg] s (rebuilt s) := by
  unfold rebuilt restoreTrip
  split <;> exact ⟨rfl, fun b => by cases b <;> simp [Kept, rebuildAlarm, rebuildTrips]⟩

theorem rebuilt_trips (s : State) : (rebuilt s).trips = (rebuildTrips (allRecords s) s).trips := by
  unfold rebuilt restoreTrip
  split <;> rfl

theorem rebuilt_fare (s : State) : (rebuilt s).fare = (restoreTrip (allRecords s) s).fare := by
  unfold rebuilt restoreTrip
  split <;> rfl

theorem rebuilt_emerg (s : State) :
    (rebuilt s).emerg = { s.emerg with
      lastNumber := ((newest (fun r => r.alarmOpen?.isSome) (allRecords s)).bind (·.alarmOpen?)).elim 255 (·.number)
      restore := ((openAlarm (allRecords s)).bind (·.alarmOpen?)).map fun a => ⟨a.number, a.time, a.cell⟩ } := by
  unfold rebuilt restoreTrip
  split <;> rfl

theorem startUpResult_cases (c : Scan) :
    (c.formatted = true → startUpResult c = .formatted)
      ∧ (c.formatted = false → c.repaired = true → startUpResult c = .repaired)
      ∧ (c.formatted = false → c.repaired = false → startUpResult c = .scanned) := by
  unfold startUpResult
  exact ⟨fun h => by simp [h], fun h h' => by simp [h, h'], fun h h' => by simp [h, h']⟩

/-- Settles O42. -/
theorem scanEndRebuildsTheBooks : Obligations.ScanEndRebuildsTheBooks := by
  intro c s hp hr hc hi hrec hhead herase
  obtain ⟨htouch, hemerg, hpart, hhanded, hscan, hstart, hnotices⟩ := handOver_spec c s
  obtain ⟨hformatted, hrepaired, hscanned⟩ := startUpResult_cases c
  have htrips : (handOver c s).trips = (rebuildTrips (allRecords s) s).trips :=
    (htouch.kept (b := .trips) (by simp)).trans (rebuilt_trips s)
  have hfare : (handOver c s).fare = (restoreTrip (allRecords s) s).fare :=
    (htouch.kept (b := .fare) (by simp)).trans (rebuilt_fare s)
  rw [rebuilt_emerg] at hemerg
  refine completes_event (startUpScanEnd_hands hp hr hc hi hrec hhead herase) rfl ⟨by simpa using hpart,
    by simpa using hhanded, by simpa using hscan, fun h => by simp [hstart, hformatted h],
    fun h h' => by simp [hstart, hrepaired h h'], fun h h' => ⟨by simp [hstart, hscanned h h'], ?_⟩,
    fun tt n hnew => ?_, fun hnone => ?_, fun sh n hnew => ?_, ?_, fun hnone => ?_, fun k hk => ?_, fun hnone => ?_, ?_,
    fun hnone => ?_, fun r a hnew hb => ?_, fun hnone => ?_, fun r a hopen hb => ?_, onlyTouches_settle ?_⟩
  · simp only [settle_keeps, hnotices (hscanned h h')]
    exact congrArg Port.notices ((rebuilt_touches s).kept (b := .port) (by simp))
  · obtain ⟨r, hnew, hb⟩ := hnew
    simp [htrips, rebuildTrips, totalizerOf_some hnew hb]
  · simp [htrips, rebuildTrips, totalizerOf_none hnone]
  · obtain ⟨r, hnew, hb⟩ := hnew
    simp [htrips, rebuildTrips, shiftOf_some hnew hb]
  · simp [htrips, rebuildTrips]
  · simp [hfare, restoreTrip, hnone]
  · simp [hfare, htrips, restoreTrip, rebuildTrips, hk, tripFrom]
  · simpa [htrips, rebuildTrips, hnone] using recordedLastTrip_recorded (allRecords s)
  · simpa [htrips, rebuildTrips] using lastClosedFrom_rebuilt (allRecords s)
  · simp [hemerg, hnone]
  · have ha : r.alarmOpen? = some a := by simp [Record.alarmOpen?, hb]
    simp [hemerg, hnew, ha]
  · simp [hemerg, hnone]
  · have ha : r.alarmOpen? = some a := by simp [Record.alarmOpen?, hb]
    simp [hemerg, hopen, ha]
  · exact ((rebuilt_touches s).widen (by simp)).trans (htouch.widen (by simp))

end Sys2Proof.Claims
end

section
/-! SUPPORT. BEACON_TICK (R55, R56, R124). -/

namespace Sys2Proof.Claims

open Sys2Proof.Machine

/-- The tick after its position has been offered, the cycle not at its end. -/
theorem beaconTick_within {f : BeaconForm} {s : State} (hs : Up s) (ht : s.tx.tickTimer.isSome = true)
    (hf : s.tx.cycleTable[s.tx.cycleIndex]? = some f) (hi : (offerBeacon f s).tx.cycleIndex < 15) :
    beaconTick s = { offerBeacon f s with tx := { (offerBeacon f s).tx with
      cycleIndex := (offerBeacon f s).tx.cycleIndex + 1, tickTimer := some (offerBeacon f s).tx.tick } } := by
  rw [beaconTick, if_pos ⟨ht, running_of_up hs⟩]
  simp [List.getD, hf, wrapInc, hi]

theorem beaconTick_rollover {f : BeaconForm} {s : State} (hs : Up s) (ht : s.tx.tickTimer.isSome = true)
    (hf : s.tx.cycleTable[s.tx.cycleIndex]? = some f) (hi : (offerBeacon f s).tx.cycleIndex = 15) :
    beaconTick s = rollover { offerBeacon f s with tx := { (offerBeacon f s).tx with
      cycleIndex := 0, tickTimer := some (offerBeacon f s).tx.tick } } := by
  rw [beaconTick, if_pos ⟨ht, running_of_up hs⟩]
  simp [List.getD, hf, wrapInc, hi]

theorem offerBeacon_none (s : State) : offerBeacon .none s = s := by
  unfold offerBeacon
  split <;> rfl

theorem offerBeacon_joins {s : State} (ha : s.emerg.alarm = .quiet) (hsilent : s.link.state ≠ .silent)
    (hrecovering : s.link.state ≠ .recovering) (hc : s.offers.cell.isSome = true) (hb : ∀ e ∈ s.tx.queue, e.cls ≠ .beacon)
    (hq : ReplyJoinsQuietly s) : offerBeacon .full s = joined (beaconEntry true s) s := by
  have hallowed : beaconAllowed s = true := by
    simpa [beaconAllowed, ha, LinkState.mute, hsilent, hrecovering, hc] using hb
  obtain ⟨hlen, hord, hi, hcarrier⟩ := hq
  have hlink : refusedLink s.link.state (beaconEntry true s).cls = false := by
    simp [beaconEntry, newEntry, refusedLink, LinkState.mute, hsilent, hrecovering]
  rw [offerBeacon, if_pos hallowed, offerEntry_quiet hlen hord (quiescent_of_busy hi hcarrier) hlink]

theorem rollover_reports {u : UploadEntry} {base : Nat} {s : State} (hbase : s.trips.homeBase = some base)
    (hu : s.trips.uploads.find? (fun u => u.trip.upload == .unsent) = some u)
    (hd : ∀ a ∈ s.trips.uploads, a.doneOwed = false) (hq : ReplyJoinsQuietly s) :
    rollover s = setUpload u.trip.number .queued
      (joined (newEntry .tripRecorder (.trip u.trip.number) .normal (.tripReport (tripReportOf u.trip)) base s.fleet) s) := by
  obtain ⟨hlen, hord, hi, hcarrier⟩ := hq
  have hoffer := offerEntry_quiet
    (e := newEntry .tripRecorder (.trip u.trip.number) .normal (.tripReport (tripReportOf u.trip)) base s.fleet) hlen hord
    (quiescent_of_busy hi hcarrier) rfl
  have hreport : offerReport u s = setUpload u.trip.number .queued
      (joined (newEntry .tripRecorder (.trip u.trip.number) .normal (.tripReport (tripReportOf u.trip)) base s.fleet) s) := by
    simp only [offerReport, hbase, hoffer]
  have hnone : (offerReport u s).trips.uploads.filter (·.doneOwed) = [] := by
    rw [hreport, List.filter_eq_nil_iff]
    intro a ha
    simp only [setUpload, raise_keeps, updateWhere, joined_keeps] at ha
    obtain ⟨b, hb, rfl⟩ := List.mem_map.1 ha
    have hbd := hd b hb
    split <;> simp [hbd]
  rw [rollover, hu]
  simp only [offerOwedDone, hnone, List.foldl_nil]
  exact hreport

/-- Settles O43. -/
theorem beaconTickOffersAndReports : Obligations.BeaconTickOffersAndReports := by
  intro s
  refine ⟨fun hs ht hf hi ha hsilent hrecovering hc hb hq => ?_, fun hs ht hf hi => ?_,
    fun hs ht hf hi hq u base hbase hu hd => ?_, fun ht => ?_⟩
  · have hoffer := offerBeacon_joins ha hsilent hrecovering hc hb hq
    have hrun := beaconTick_within hs ht hf (by rw [hoffer]; exact hi)
    rw [hoffer] at hrun
    refine completes_event hrun rfl ⟨⟨{ beaconEntry true s with
      uid := s.nextUid, state := .waiting, attempts := 0, seq := none }, by simp only [settle_keeps, joined], rfl, rfl, rfl,
      rfl⟩, onlyTouches_settle ?_⟩
    exact (joined_touches (beaconEntry true s) s).trans ⟨rfl, fun b => by cases b <;> simp [Kept]⟩
  · have hrun := beaconTick_within hs ht hf (by rw [offerBeacon_none]; exact hi)
    rw [offerBeacon_none] at hrun
    exact completes_event hrun rfl ⟨by simp, onlyTouches_settle ⟨rfl, fun b => by cases b <;> simp [Kept]⟩⟩
  · have hrun := beaconTick_rollover hs ht hf (by rw [offerBeacon_none]; exact hi)
    rw [offerBeacon_none, rollover_reports (u := u) (base := base) (by exact hbase) (by exact hu) (by exact hd)
      (by exact hq)] at hrun
    refine completes_event hrun rfl ⟨⟨_, by simp [setUpload, joined]; rfl, rfl, rfl, rfl, _, rfl, rfl, rfl, rfl, rfl⟩, ?_, ?_,
      onlyTouches_settle ?_⟩
    · simp [setUpload, updateWhere]
    · simp only [settle_keeps, setUpload]
      exact raise_port _ _ _ _ rfl
    · exact ((raise_touches _ _ _).widen (by simp)).before rfl fun b => by cases b <;> simp [Kept]
  · have hrun : beaconTick s = s := if_neg (by simp [ht])
    exact completes_nothing (congrArg (fun u => Host.Outcome.next (settle u)) hrun)

end Sys2Proof.Claims
end

section
/-! SUPPORT. MSG_READ and MSG_REPLY (R153, R154, R155). -/

namespace Sys2Proof.Claims

open Sys2Proof.Machine

/-! ## A message repaged and its receipt offered -/

/-- A message changed, and the pages composed after it. -/
def repaged (f : Message → Message) (m : Message) (s : State) : State := composeMessages (updateMessage m.pair f s)

theorem repaged_queued {f : Message → Message} {m : Message} {s : State} (h : Queued m s) (hf : (f m).pair = m.pair)
    (hnew : (f m).state ≠ .new) : Queued (f m) (repaged f m s) :=
  queued_composeMessages (queued_updateMessage h hf) hnew

theorem repaged_length (f : Message → Message) (m : Message) (s : State) :
    (repaged f m s).msg.queue.length = s.msg.queue.length := by
  rw [repaged, (composeMessages_keeps_msg _).1, newToShown_length]
  simp [updateMessage, updateWhere]

theorem repaged_touches (f : Message → Message) (m : Message) (s : State) : OnlyTouches [.msg] s (repaged f m s) :=
  (updateMessage_touches _ _ _).trans (composeMessages_touches _)

theorem repaged_nextUid (f : Message → Message) (m : Message) (s : State) : (repaged f m s).nextUid = s.nextUid := by
  simp [repaged, updateMessage]

theorem repaged_shown (f : Message → Message) (m : Message) (s : State) :
    (repaged f m s).msg.recent = s.msg.recent ∧ (repaged f m s).msg.shown = s.msg.shown := by
  simp [repaged, updateMessage]

theorem repaged_quiet {f : Message → Message} {m : Message} {s : State} (h : ReplyJoinsQuietly s) :
    ReplyJoinsQuietly (repaged f m s) := by
  rw [ReplyJoinsQuietly, (repaged_touches f m s).kept (b := .tx) (by simp),
    (repaged_touches f m s).kept (b := .link) (by simp)]
  exact h

/-- The receipt of a message, queued. -/
def receiptSent (k : ReceiptKind) (m : Message) (s : State) : State :=
  updateMessage m.pair (fun a => { a with receipt := some (.queued s.nextUid) }) (joined (receiptEntry m k) s)

theorem offerReceipt_quiet {m : Message} {s : State} (k : ReceiptKind) (hm : Queued m s) (h : ReplyJoinsQuietly s) :
    offerReceipt m.pair k s = receiptSent k m s := by
  obtain ⟨hlen, hord, hi, hc⟩ := h
  have hoffer := offerEntry_quiet (e := receiptEntry m k) hlen hord (quiescent_of_busy hi hc) rfl
  simp only [offerReceipt, findMessage_of_queued hm, hoffer]
  rfl

theorem receiptSent_queued {m : Message} {s : State} (k : ReceiptKind) (h : Queued m s) :
    Queued { m with receipt := some (.queued s.nextUid) } (receiptSent k m s) :=
  queued_updateMessage (m := m) (s := joined (receiptEntry m k) s) h rfl

theorem receiptSent_length (k : ReceiptKind) (m : Message) (s : State) :
    (receiptSent k m s).msg.queue.length = s.msg.queue.length := by
  simp [receiptSent, updateMessage, updateWhere]

theorem receiptSent_touches (k : ReceiptKind) (m : Message) (s : State) : OnlyTouches [.tx, .msg] s (receiptSent k m s) :=
  ((joined_touches (receiptEntry m k) s).widen (by simp)).trans ((updateMessage_touches _ _ _).widen (by simp))

theorem receiptSent_tx {k : ReceiptKind} {m : Message} {s u : State} (htx : u.tx = s.tx) (huid : u.nextUid = s.nextUid) :
    ∃ e : PendEntry, (receiptSent k m u).tx = { s.tx with queue := s.tx.queue ++ [e] } ∧ e.uid = s.nextUid ∧ e.cls = .reply
      ∧ e.payload = .receipt m.pair.number k (m.replyChosen.getD 0) ∧ e.dest = m.pair.source ∧ e.fleet = m.fleet := by
  rw [← htx, ← huid]
  exact ⟨_, rfl, rfl, rfl, rfl, rfl, rfl⟩

theorem receiptField_of_queued {m : Message} {s : State} (h : Queued m s) : receiptField m.pair s = .receipt m.receipt := by
  simp [receiptField, findMessage_of_queued h]

/-- A message marked and its receipt queued: the request is answered with the receipt. -/
theorem receipt_completes {c : Instr} {t : TakenIn} {o : State → State × Status × Reply} {f : Message → Message}
    {m : Message} {k : ReceiptKind} {s : State} (hc : exec c s = .next (settle (judge t o s))) (hs : Up s) (hm : Queued m s)
    (hf : (f m).pair = m.pair) (hnew : (f m).state ≠ .new) (hq : ReplyJoinsQuietly s)
    (ho : o (counted s) = (offerReceipt m.pair k (repaged f m (counted s)), .ok,
      receiptField m.pair (offerReceipt m.pair k (repaged f m (counted s))))) :
    Completes c s fun t => JustAnswered .ok (.receipt (some (.queued s.nextUid))) s t ∧ OnlyTouches [.tx, .msg, .port] s t
      ∧ { f m with receipt := some (.queued s.nextUid) } ∈ t.msg.queue ∧ t.msg.queue.length = s.msg.queue.length
      ∧ ∃ e : PendEntry, t.tx = { s.tx with queue := s.tx.queue ++ [e] } ∧ e.uid = s.nextUid ∧ e.cls = .reply
        ∧ e.payload = .receipt m.pair.number k ((f m).replyChosen.getD 0) ∧ e.dest = m.pair.source ∧ e.fleet = (f m).fleet := by
  have hmarked : Queued (f m) (repaged f m (counted s)) := repaged_queued (by exact hm) hf hnew
  have htouch := repaged_touches f m (counted s)
  have hlen := repaged_length f m (counted s)
  have huid : (repaged f m (counted s)).nextUid = s.nextUid := repaged_nextUid f m (counted s)
  have hquiet : ReplyJoinsQuietly (repaged f m (counted s)) := repaged_quiet (by exact hq)
  generalize repaged f m (counted s) = v at *
  have hsent := receiptSent_queued k hmarked
  have hfield := receiptField_of_queued hsent
  have hsenttouch := receiptSent_touches k (f m) v
  have hsentlen := receiptSent_length k (f m) v
  have htx := receiptSent_tx (k := k) (m := f m) (htouch.kept (b := .tx) (by simp)) huid
  rw [← hf, offerReceipt_quiet k hmarked hquiet] at ho
  generalize receiptSent k (f m) v = w at *
  rw [show receiptField (f m).pair w = _ from hfield, huid] at ho
  rw [huid] at hsent
  rw [hf] at htx
  have hall : OnlyTouches [.tx, .msg] (counted s) w := (htouch.widen (by simp)).trans hsenttouch
  exact completes_request hc hs ho ⟨justAnswered_respond _ _ (hall.kept (b := .port) (by simp)),
    onlyTouches_request (by simp) _ _ _ (hall.widen (by simp)), by simpa using hsent.1,
    by simpa using hsentlen.trans hlen, by simpa using htx⟩

/-! ## The two requests -/

/-- A message marked as read. -/
def readMark (m : Message) : Message := { m with state := .read }


theorem msgRead_unread {m : Message} {s : State} (hm : Queued m s) (hr : ∀ k, m.receipt ≠ some (.owed k))
    (hst : m.state = .new ∨ m.state = .shown) :
    msgRead m.pair s =
      (if m.kind = .text then repaged readMark m s
        else offerReceipt m.pair .read (repaged readMark m s), .ok,
        receiptField m.pair (if m.kind = .text then repaged readMark m s
        else offerReceipt m.pair .read (repaged readMark m s))) := by
  simp only [msgRead, findMessage_of_queued hm, reofferReceipt_settled hm hr]
  obtain hst | hst := hst <;> rw [hst] <;> rfl

theorem msgRead_again {m : Message} {s : State} (hm : Queued m s) (hr : ∀ k, m.receipt ≠ some (.owed k))
    (hst : m.state = .read ∨ m.state = .replied) : msgRead m.pair s = (s, .ok, .receipt m.receipt) := by
  simp only [msgRead, findMessage_of_queued hm, reofferReceipt_settled hm hr, receiptField_of_queued hm]
  obtain hst | hst := hst <;> rw [hst]

theorem msgRead_expired {m : Message} {s : State} (hm : Queued m s) (hr : ∀ k, m.receipt ≠ some (.owed k))
    (hst : m.state = .expired) : msgRead m.pair s = (s, .state, .bare) := by
  simp only [msgRead, findMessage_of_queued hm, reofferReceipt_settled hm hr, hst]

/-- The reply that a message is repaged with. -/
def repliedWith (n : Nat) (m : Message) : Message := { m with state := .replied, replyChosen := some n }

theorem msgReply_chosen {m : Message} {n : Nat} {s : State} (hm : Queued m s) (hr : ∀ k, m.receipt ≠ some (.owed k))
    (hk : m.kind = .query) (hst : m.state ≠ .replied) (hst' : m.state ≠ .expired) (hn : n < m.replies.length) :
    msgReply m.pair n s = (offerReceipt m.pair .reply (repaged (repliedWith n) m s), .ok,
      receiptField m.pair (offerReceipt m.pair .reply (repaged (repliedWith n) m s))) := by
  simp only [msgReply, findMessage_of_queued hm, reofferReceipt_settled hm hr, hk, hst, hst', Nat.not_le.2 hn, ne_eq,
    not_true_eq_false, or_self, if_false]
  rfl

theorem msgReply_state {m : Message} {n : Nat} {s : State} (hm : Queued m s) (hr : ∀ k, m.receipt ≠ some (.owed k))
    (h : m.kind ≠ .query ∨ m.state = .replied ∨ m.state = .expired) : msgReply m.pair n s = (s, .state, .bare) := by
  simp only [msgReply, findMessage_of_queued hm, reofferReceipt_settled hm hr]
  split
  · rfl
  · next hk => exact if_pos (h.resolve_left hk)

theorem msgReply_range {m : Message} {n : Nat} {s : State} (hm : Queued m s) (hr : ∀ k, m.receipt ≠ some (.owed k))
    (hk : m.kind = .query) (hst : m.state ≠ .replied) (hst' : m.state ≠ .expired) (hn : m.replies.length ≤ n) :
    msgReply m.pair n s = (s, .range, .bare) := by
  simp [msgReply, findMessage_of_queued hm, reofferReceipt_settled hm hr, hk, hst, hst', hn]

theorem completes_weaken {c : Instr} {s : State} {P Q : State → Prop} (h : Completes c s P) (hpq : ∀ t, P t → Q t) :
    Completes c s Q :=
  h.imp fun t ⟨ht, hp⟩ => ⟨ht, hpq t hp⟩

theorem msgReadMarksTheMessage : MsgReadMarksTheMessage := by
  intro m s hs hm hr
  have hmc : Queued m (counted s) := hm
  refine ⟨fun hst hk => ?_, fun hst hk hq => ?_, fun hst => ?_, fun hst => ?_⟩
  · have ho := msgRead_unread hmc hr hst
    rw [if_pos hk] at ho
    have hread : Queued (readMark m) (repaged readMark m (counted s)) := repaged_queued hmc rfl MsgState.noConfusion
    have hfield := receiptField_of_queued hread
    have htouch := repaged_touches readMark m (counted s)
    have hlen := repaged_length readMark m (counted s)
    obtain ⟨hrecent, hshown⟩ := repaged_shown readMark m (counted s)
    generalize repaged readMark m (counted s) = v at *
    rw [show receiptField m.pair v = .receipt m.receipt from hfield] at ho
    exact completes_request rfl hs ho ⟨justAnswered_respond _ _ (htouch.kept (b := .port) (by simp)),
      onlyTouches_request (by simp) _ _ _ (htouch.widen (by simp)), ⟨readMark m, by simpa using hread.1, rfl⟩, by simpa using hlen,
      by simpa using hrecent, by simpa using hshown⟩
  · have ho := msgRead_unread hmc hr hst
    rw [if_neg hk] at ho
    refine completes_weaken (receipt_completes rfl hs hm rfl MsgState.noConfusion hq ho)
      fun t ⟨hport, htouch, hmem, hlen, e, htx, huid, hcls, hpay, hdest, hfleet⟩ =>
        ⟨hport, htouch, ⟨_, hmem, rfl⟩, hlen, e, htx, huid, hcls, ⟨_, hpay⟩, hdest, hfleet⟩
  · exact completes_request rfl hs (msgRead_again hmc hr hst) (nothingBut_respond _ _ _)
  · exact completes_request rfl hs (msgRead_expired hmc hr hst) (nothingBut_respond _ _ _)

theorem msgReplyQueuesAReceipt : MsgReplyQueuesAReceipt := by
  intro m n s hs hm hr
  have hmc : Queued m (counted s) := hm
  refine ⟨fun hk hst hst' hn hq => ?_, fun h => ?_, fun hk hst hst' hn => ?_⟩
  · refine completes_weaken (receipt_completes rfl hs hm rfl MsgState.noConfusion hq
      (msgReply_chosen hmc hr hk hst hst' hn)) fun t ⟨hport, htouch, hmem, _, htx⟩ => ⟨hport, htouch, ⟨_, hmem, rfl⟩, htx⟩
  · exact completes_request rfl hs (msgReply_state hmc hr h) (nothingBut_respond _ _ _)
  · exact completes_request rfl hs (msgReply_range hmc hr hk hst hst' hn) (nothingBut_respond _ _ _)

/-- Settles O21. -/
theorem messagesAreReadAndAnswered : Obligations.MessagesAreReadAndAnswered :=
  ⟨msgReadMarksTheMessage, msgReplyQueuesAReceipt⟩

end Sys2Proof.Claims
end

section
/-! SUPPORT. The display memory by its lines (R157, R161). -/

namespace Sys2Proof.Claims

open Sys2Proof.Machine

/-! ## One line of the memory changed -/

/-- A line of the display memory, where it stands. -/
def lineAt (p l : Nat) (s : State) : Option Line := s.msg.pages[p]?.bind (·[l]?)

theorem attrOf_lineAt (p l : Nat) (s : State) : attrOf p l s = (lineAt p l s).map (·.attr) := rfl

theorem charOf_lineAt (p l c : Nat) (s : State) : charOf p l c s = (lineAt p l s).bind (·.chars[c]?) := rfl

/-- One line changed; `setChar` and `setAttr` are of this form. -/
def setLine (p l : Nat) (f : Line → Line) (s : State) : State :=
  setPage p ((pageOf s p).set l (f ((pageOf s p).getD l .blank))) s

theorem setChar_eq_setLine (p l c : Nat) (b : Byte) (s : State) :
    setChar p l c b s = setLine p l (fun x => { x with chars := x.chars.set c b }) s := rfl

theorem setAttr_eq_setLine (p l : Nat) (a : LineAttr) (s : State) :
    setAttr p l a s = setLine p l (fun x => { x with attr := a }) s := rfl

theorem lineAt_setLine_self (p l : Nat) (f : Line → Line) (s : State) :
    lineAt p l (setLine p l f s) = (lineAt p l s).map f := by
  cases hp : s.msg.pages[p]? with
  | none => simp [lineAt, setLine, List.set_eq_of_length_le (List.getElem?_eq_none_iff.1 hp), hp]
  | some page =>
    have hlen : p < s.msg.pages.length := (List.getElem?_eq_some_iff.1 hp).1
    cases hl : page[l]? with
    | none => simp [lineAt, setLine, pageOf, List.getD, hp, List.getElem?_set_self hlen, List.getElem?_eq_none_iff.1 hl]
    | some x =>
      have hllen : l < page.length := (List.getElem?_eq_some_iff.1 hl).1
      simp [lineAt, setLine, pageOf, List.getD, hp, List.getElem?_set_self hlen, List.getElem?_set_self hllen, hl]

theorem lineAt_setLine_other {p l q m : Nat} {f : Line → Line} {s : State} (h : ¬ (q = p ∧ m = l)) :
    lineAt q m (setLine p l f s) = lineAt q m s := by
  by_cases hq : q = p
  · subst hq
    have hm : l ≠ m := fun hm => h ⟨rfl, hm.symm⟩
    cases hp : s.msg.pages[q]? with
    | none => simp [lineAt, setLine, List.set_eq_of_length_le (List.getElem?_eq_none_iff.1 hp), hp]
    | some page =>
      have hlen : q < s.msg.pages.length := (List.getElem?_eq_some_iff.1 hp).1
      simp [lineAt, setLine, pageOf, List.getD, hp, List.getElem?_set_self hlen, List.getElem?_set_ne hm]
  · simp [lineAt, setLine, List.getElem?_set_ne (Ne.symm hq)]

theorem attrOf_setChar (p l c q m : Nat) (b : Byte) (s : State) : attrOf q m (setChar p l c b s) = attrOf q m s := by
  rw [setChar_eq_setLine, attrOf_lineAt, attrOf_lineAt]
  by_cases h : q = p ∧ m = l
  · obtain ⟨rfl, rfl⟩ := h
    rw [lineAt_setLine_self, Option.map_map]
    rfl
  · rw [lineAt_setLine_other h]

theorem charOf_setAttr (p l q m k : Nat) (a : LineAttr) (s : State) : charOf q m k (setAttr p l a s) = charOf q m k s := by
  rw [setAttr_eq_setLine, charOf_lineAt, charOf_lineAt]
  by_cases h : q = p ∧ m = l
  · obtain ⟨rfl, rfl⟩ := h
    rw [lineAt_setLine_self, Option.bind_map]
    rfl
  · rw [lineAt_setLine_other h]

theorem attrOf_setAttr_other {p l q m : Nat} {a : LineAttr} {s : State} (h : ¬ (q = p ∧ m = l)) :
    attrOf q m (setAttr p l a s) = attrOf q m s := by
  rw [setAttr_eq_setLine, attrOf_lineAt, lineAt_setLine_other h, attrOf_lineAt]

/-- Every line of the memory stands. -/
theorem lineAt_of_shape {p l : Nat} {s : State} (h : DisplayShape s) (hp : p < 8) (hl : l < 4) :
    ∃ x, lineAt p l s = some x ∧ x.chars.length = 20 := by
  obtain ⟨hpages, hshape⟩ := h
  have hplen : p < s.msg.pages.length := by omega
  obtain ⟨hlines, hchars⟩ := hshape s.msg.pages[p] (List.getElem_mem hplen)
  have hllen : l < s.msg.pages[p].length := by omega
  exact ⟨s.msg.pages[p][l], by simp [lineAt, List.getElem?_eq_getElem hplen, List.getElem?_eq_getElem hllen],
    hchars _ (List.getElem_mem hllen)⟩

theorem attrOf_setAttr_self {p l : Nat} {a : LineAttr} {s : State} (h : (attrOf p l s).isSome) :
    attrOf p l (setAttr p l a s) = some a := by
  rw [attrOf_lineAt, Option.isSome_map] at h
  obtain ⟨x, hx⟩ := Option.isSome_iff_exists.1 h
  rw [setAttr_eq_setLine, attrOf_lineAt, lineAt_setLine_self, hx]
  rfl

theorem attrOf_congr {p l : Nat} {s t : State} (h : t.msg.pages = s.msg.pages) : attrOf p l t = attrOf p l s := by
  simp only [attrOf, h]

/-! ## The cursor -/

theorem advance_eq (c : Cursor) : advance c = placeAfter c := by
  unfold advance placeAfter
  split
  · rfl
  · split <;> rfl

theorem advanceBy_eq (n : Nat) (c : Cursor) : advanceBy n c = placesOn n c := by
  induction n generalizing c with
  | zero => rfl
  | succ n ih => rw [advanceBy, placesOn, ih, advance_eq]

theorem visited_eq (n : Nat) (c : Cursor) : visited n c = (List.range n).map fun k => placesOn k c := by
  induction n generalizing c with
  | zero => rfl
  | succ n ih =>
    rw [visited, List.range_succ_eq_map, List.map_cons, List.map_map, ih, advance_eq]
    rfl

/-- Every place after a place of the memory is one, on the same page. -/
theorem placesOn_within (n : Nat) {c : Cursor} (hl : c.line < 4) (hc : c.col < 20) :
    (placesOn n c).page = c.page ∧ (placesOn n c).line < 4 ∧ (placesOn n c).col < 20 := by
  induction n generalizing c with
  | zero => exact ⟨rfl, hl, hc⟩
  | succ n ih =>
    have hstep : (placeAfter c).page = c.page ∧ (placeAfter c).line < 4 ∧ (placeAfter c).col < 20 := by
      unfold placeAfter
      split
      next h => exact ⟨rfl, hl, Nat.succ_lt_succ h⟩
      next =>
        split
        next h => exact ⟨rfl, Nat.succ_lt_succ h, Nat.zero_lt_succ _⟩
        next => exact ⟨rfl, Nat.zero_lt_succ _, Nat.zero_lt_succ _⟩
    obtain ⟨hpage, hline, hcol⟩ := hstep
    rw [placesOn, ← hpage]
    exact ih hline hcol

/-- Where a request names its place. -/
theorem positionStatus_of_names {pos : Option Cursor} {c : Cursor} {s : State} (h : NamesPlace pos c s) :
    positionStatus pos s = .ok ∧ pos.all positionOk = true ∧ pos.getD s.msg.cursor = c := by
  obtain ⟨hpage, hline, hcol, ⟨rfl, hedit⟩ | ⟨rfl, hcursor⟩⟩ := h
  · refine ⟨if_neg (by simp [hedit, hpage]), ?_, rfl⟩
    have : c.page ≤ 7 := by omega
    simp [positionOk, this, hline, hcol]
  · exact ⟨rfl, rfl, hcursor⟩

/-! ## The lines read -/

theorem linesOf_lines (l : List Cursor) : (linesOf l).map (·.line) = (l.map (·.line)).eraseDups := by
  induction l using List.reverseRecOn with
  | nil => rfl
  | append_singleton l c ih =>
    have hsnoc : linesOf (l ++ [c]) = if (linesOf l).any (·.line == c.line) then linesOf l else linesOf l ++ [c] := by
      simp [linesOf, List.foldl_append]
    have hany : (linesOf l).any (·.line == c.line) = true ↔ c.line ∈ l.map (·.line) := by
      rw [← List.mem_eraseDups, ← ih, List.mem_map]
      simp
    rw [hsnoc, List.map_append, List.eraseDups_append, ← ih]
    by_cases h : c.line ∈ l.map (·.line)
    · rw [if_pos (hany.2 h)]
      have hout : [c.line].removeAll (l.map (·.line)) = [] := by
        simp only [List.removeAll, List.elem_eq_mem, List.filter, h, decide_true, Bool.not_true]
      simp [hout]
    · rw [if_neg (fun hc => h (hany.1 hc))]
      have hin : [c.line].removeAll (l.map (·.line)) = [c.line] := by
        simp only [List.removeAll, List.elem_eq_mem, List.filter, h, decide_false, Bool.not_false]
      simp [hin, List.eraseDups_cons]

theorem linesOf_mem {l : List Cursor} {c : Cursor} (h : c ∈ linesOf l) : c ∈ l := by
  induction l using List.reverseRecOn with
  | nil => exact h
  | append_singleton l d ih =>
    have hsnoc : linesOf (l ++ [d]) = if (linesOf l).any (·.line == d.line) then linesOf l else linesOf l ++ [d] := by
      simp [linesOf, List.foldl_append]
    rw [hsnoc] at h
    split at h
    · exact List.mem_append_left _ (ih h)
    · obtain h | h := List.mem_append.1 h
      · exact List.mem_append_left _ (ih h)
      · exact List.mem_append_right _ h

end Sys2Proof.Claims
end

section
/-! SUPPORT. DISPLAY_SELECT, DISPLAY_WRITE, DISPLAY_READ and edit mode (R158 to R164). -/

namespace Sys2Proof.Claims

open Sys2Proof.Machine

theorem lit_of_up {s t : State} (h : Up s) (hp : t.port.part = s.port.part) : t.lit = true := by
  simp [State.lit, hp, h.1]

/-- The display as a request's answer leaves it: the bus shows the page. -/
theorem settle_respond_msg {s v : State} (st : Status) (n : Nat) (r : Reply) (h : Up s) (hp : v.port.part = s.port.part) :
    (settle (respond st n r v)).msg = { v.msg with bus := .page (pageOf v v.msg.shown) } := by
  rw [settle_msg, lit_of_up (t := respond st n r v) h hp]
  rfl

/-! ## DISPLAY_SELECT (R159) -/

theorem composeMessages_otherPages {n : Nat} {s : State} (hn : n = 0 ∨ n = 1 ∨ n = 6 ∨ n = 7) :
    pageOf (composeMessages s) n = pageOf s n := by
  have hpages : (newToShown s).msg.pages = s.msg.pages := by
    unfold newToShown
    split
    · split <;> rfl
    · rfl
  unfold pageOf composeMessages
  simp only [setPage_msg, hpages]
  obtain rfl | rfl | rfl | rfl := hn <;> simp [List.getD]

theorem newToShown_otherPages {s : State} (hn : s.msg.shown = 0 ∨ s.msg.shown = 1 ∨ s.msg.shown = 6 ∨ s.msg.shown = 7) :
    newToShown s = s := by
  have hnone : messageOn s s.msg.shown = none := if_neg (by omega)
  simp [newToShown, hnone]

theorem displaySelectShowsThePage : DisplaySelectShowsThePage := by
  intro n s hs
  refine ⟨fun hn => ?_, fun hn => ?_⟩
  · have ho : displaySelect n (counted s) = (showPage n (counted s), .ok) := if_pos hn
    obtain ⟨hqueue, hshown, hrecent, _, _, hcursor, hedit, _⟩ :=
      composeMessages_keeps_msg { counted s with msg := { (counted s).msg with shown := n } }
    have htouch : OnlyTouches [.msg] (counted s) (showPage n (counted s)) :=
      (composeMessages_touches _).before rfl fun b => by cases b <;> simp [Kept]
    have hpage : n = 0 ∨ n = 1 ∨ n = 6 ∨ n = 7 → pageOf (showPage n (counted s)) n = s.msg.pages.getD n [] :=
      fun hc => composeMessages_otherPages hc
    have hsame : n = 0 ∨ n = 1 ∨ n = 6 ∨ n = 7 → (showPage n (counted s)).msg.queue = s.msg.queue := fun hc =>
      hqueue.trans (congrArg (fun u => u.msg.queue) (newToShown_otherPages hc))
    have hport := htouch.kept (b := .port) (by simp)
    change (showPage n (counted s)).msg.shown = n at hshown
    change (showPage n (counted s)).msg.recent = s.msg.recent at hrecent
    change (showPage n (counted s)).msg.cursor = s.msg.cursor at hcursor
    change (showPage n (counted s)).msg.editMode = s.msg.editMode at hedit
    generalize showPage n (counted s) = v at *
    refine completes_plain rfl hs ho ⟨justAnswered_respond _ _ hport, by simpa using hshown, by simpa using hcursor,
      by simpa using hedit, by simpa using hrecent, fun hc => ⟨by simpa using hsame hc, ?_⟩,
      onlyTouches_request (by simp) _ _ _ (htouch.widen (by simp))⟩
    rw [settle_respond_msg _ _ _ hs (congrArg Port.part hport :)]
    exact congrArg Bus.page ((congrArg (pageOf v) hshown).trans (hpage hc))
  · exact completes_plain rfl hs (if_neg (Nat.not_le.2 hn)) (nothingBut_respond _ _ _)

/-! ## DISPLAY_WRITE (R161) -/

/-- The `LineAttr` that a code in range names. -/
theorem attrInRange_all {attr : Option Nat} (h : AttrInRange attr) :
    attr.all (fun a => (lineAttrOf a).isSome) = true := by
  cases attr with
  | none => rfl
  | some n =>
    obtain ⟨hlo, hhi⟩ := h n rfl
    interval_cases n <;> rfl

theorem displayWrite_ok {pos : Option Cursor} {c : Cursor} {text : List Byte} {attr : Option Nat} {s : State}
    (hp : NamesPlace pos c s) (hlo : 1 ≤ text.length) (hhi : text.length ≤ 80) (htext : ∀ a ∈ text, 32 ≤ a.toNat)
    (ha : AttrInRange attr) :
    displayWrite pos text attr 0 s =
      (writeText (attr.bind lineAttrOf) text { s with msg.cursor := c }, .ok,
        .cursor (writeText (attr.bind lineAttrOf) text { s with msg.cursor := c }).msg.cursor) := by
  obtain ⟨hstatus, hpos, hcursor⟩ := positionStatus_of_names hp
  have hok : textOk text = true := List.all_eq_true.2 fun a h => decide_eq_true (htext a h)
  have hlen : inRange 1 80 text.length = true := by simp [inRange, hlo, hhi]
  simp only [displayWrite, hpos, hlen, hok, attrInRange_all ha, hstatus, hcursor, and_self, if_true]

theorem writeText_touches (a : Option LineAttr) (text : List Byte) (s : State) :
    OnlyTouches [.msg] s (writeText a text s) := by
  induction text generalizing s with
  | nil => exact onlyTouches_refl _ s
  | cons b text ih =>
    refine OnlyTouches.trans ?_ (ih _)
    cases a <;> exact ⟨rfl, fun b => by cases b <;> simp [Kept, setAttr]⟩

/-- One character written, with its line's `LineAttr` where there is one. -/
def charWritten (a : Option LineAttr) (b : Byte) (c : Cursor) (s : State) : State :=
  a.elim (setChar c.page c.line c.col b s) fun a => setAttr c.page c.line a (setChar c.page c.line c.col b s)

theorem writeText_one (a : Option LineAttr) (b : Byte) (c : Cursor) (s : State) :
    writeText a [b] { s with msg.cursor := c }
      = { charWritten a b c { s with msg.cursor := c } with
          msg := { (charWritten a b c { s with msg.cursor := c }).msg with cursor := placeAfter c } } := by
  rw [← advance_eq]
  rfl

theorem charOf_charWritten (a : Option LineAttr) (b : Byte) (c : Cursor) (q m k : Nat) (s : State) :
    charOf q m k (charWritten a b c s) = charOf q m k (setChar c.page c.line c.col b s) := by
  cases a with
  | none => rfl
  | some a => exact charOf_setAttr ..

theorem attrOf_charWritten_other {a : Option LineAttr} {b : Byte} {c : Cursor} {q m : Nat} {s : State}
    (h : ¬ (q = c.page ∧ m = c.line)) : attrOf q m (charWritten a b c s) = attrOf q m s := by
  cases a with
  | none => exact attrOf_setChar ..
  | some a => exact (attrOf_setAttr_other h).trans (attrOf_setChar ..)

theorem attrOf_charWritten_self {a : Option LineAttr} {b : Byte} {c : Cursor} {s : State}
    (h : (attrOf c.page c.line s).isSome) :
    attrOf c.page c.line (charWritten a b c s) = a.elim (attrOf c.page c.line s) some := by
  cases a with
  | none => exact attrOf_setChar ..
  | some a => exact attrOf_setAttr_self (by rwa [attrOf_setChar])

theorem charWritten_touches (a : Option LineAttr) (b : Byte) (c : Cursor) (s : State) :
    (charWritten a b c s).msg.queue = s.msg.queue ∧ (charWritten a b c s).msg.shown = s.msg.shown
      ∧ (charWritten a b c s).msg.editMode = s.msg.editMode := by
  cases a <;> exact ⟨rfl, rfl, rfl⟩

theorem displayWritePutsTheCharacter : DisplayWritePutsTheCharacter := by
  intro pos c b attr s hs hd hp hb ha
  have ho := displayWrite_ok (s := counted s) (text := [b]) hp (Nat.le_refl 1) (Nat.le_add_left 1 79) (by simpa using hb) ha
  have htouch := writeText_touches (attr.bind lineAttrOf) [b] { counted s with msg := { (counted s).msg with cursor := c } }
  rw [writeText_one] at ho htouch
  obtain ⟨hpage, hline, hcol, _⟩ := hp
  have hself : charOf c.page c.line c.col (charWritten (attr.bind lineAttrOf) b c
      { counted s with msg := { (counted s).msg with cursor := c } }) = some b :=
    (charOf_charWritten ..).trans (charOf_setChar_self (by exact hd) (by omega) (by omega) (by omega))
  have hother : ∀ p l k : Nat, ¬ (p = c.page ∧ l = c.line ∧ k = c.col) → charOf p l k (charWritten (attr.bind lineAttrOf) b c
      { counted s with msg := { (counted s).msg with cursor := c } }) = charOf p l k s := fun p l k h =>
    (charOf_charWritten ..).trans (charOf_setChar_other h)
  have hattr : attrOf c.page c.line (charWritten (attr.bind lineAttrOf) b c
      { counted s with msg := { (counted s).msg with cursor := c } })
        = (attr.bind lineAttrOf).elim (attrOf c.page c.line s) some := by
    obtain ⟨x, hx, _⟩ := lineAt_of_shape hd (p := c.page) (l := c.line) (by omega) (by omega)
    exact attrOf_charWritten_self (s := { counted s with msg := { (counted s).msg with cursor := c } })
      (by rw [attrOf_lineAt, Option.isSome_map]; exact Option.isSome_of_eq_some hx)
  have hattrs : ∀ p l : Nat, ¬ (p = c.page ∧ l = c.line) → attrOf p l (charWritten (attr.bind lineAttrOf) b c
      { counted s with msg := { (counted s).msg with cursor := c } }) = attrOf p l s := fun p l h =>
    attrOf_charWritten_other h
  obtain ⟨hqueue, hshown, hedit⟩ := charWritten_touches (attr.bind lineAttrOf) b c
    { counted s with msg := { (counted s).msg with cursor := c } }
  generalize charWritten (attr.bind lineAttrOf) b c { counted s with msg := { (counted s).msg with cursor := c } } = v at *
  have hport := htouch.kept (b := .port) (by simp)
  refine completes_request rfl hs ho ⟨justAnswered_respond _ _ hport, by simp, ?_, fun p l k h => ?_, ?_, fun p l h => ?_,
    by simpa using hqueue, by simpa using hshown, by simpa using hedit,
    onlyTouches_request (by simp) _ _ _ (OnlyTouches.before (htouch.widen (by simp)) rfl fun b => by
      cases b <;> simp [Kept])⟩
  · exact (charOf_congr (by simp)).trans hself
  · exact (charOf_congr (by simp)).trans (hother p l k h)
  · refine (attrOf_congr (by simp)).trans (hattr.trans ?_)
    cases attr with
    | none => rfl
    | some n =>
      obtain ⟨hlo, hhi⟩ := ha n rfl
      interval_cases n <;> rfl
  · exact (attrOf_congr (by simp)).trans (hattrs p l h)

/-! ## The writing goes on -/

/-- The message unit of two states, but for the bus. -/
def SameDisplay (s t : State) : Prop := t.msg = { s.msg with bus := t.msg.bus }

theorem sameDisplay_writeText (a : Option LineAttr) (text : List Byte) {s t : State} (h : SameDisplay s t) :
    SameDisplay (writeText a text s) (writeText a text t) := by
  induction text generalizing s t with
  | nil => exact h
  | cons b text ih =>
    refine ih ?_
    unfold SameDisplay at *
    cases a <;> simp only [setChar, setAttr, setPage, pageOf, Option.elim] <;> rw [h]

theorem displayWriteGoesOn : DisplayWriteGoesOn := by
  intro pos c b text attr s hs hp hb hlo hhi htext ha
  have hall : ∀ x ∈ b :: text, 32 ≤ x.toNat := by
    intro x hx
    obtain rfl | hx := List.mem_cons.1 hx
    · exact hb
    · exact htext x hx
  have hone := displayWrite_ok (s := counted s) (text := [b]) hp (Nat.le_refl 1) (Nat.le_add_left 1 79) (by simpa using hb) ha
  have hwhole := displayWrite_ok (s := counted s) (text := b :: text) hp (by simp) (Nat.succ_le_succ hhi) hall ha
  have hgoes : writeText (attr.bind lineAttrOf) (b :: text) { counted s with msg := { (counted s).msg with cursor := c } }
      = writeText (attr.bind lineAttrOf) text
        (writeText (attr.bind lineAttrOf) [b] { counted s with msg := { (counted s).msg with cursor := c } }) := rfl
  have htouch := writeText_touches (attr.bind lineAttrOf) [b] { counted s with msg := { (counted s).msg with cursor := c } }
  have hcursor : (writeText (attr.bind lineAttrOf) [b]
      { counted s with msg := { (counted s).msg with cursor := c } }).msg.cursor = placeAfter c := by
    rw [writeText_one]
  rw [hgoes] at hwhole
  generalize writeText (attr.bind lineAttrOf) [b] { counted s with msg := { (counted s).msg with cursor := c } } = w at *
  have hwport : w.port = (counted s).port := htouch.kept (b := .port) (by simp)
  obtain ⟨u, hu, hueq⟩ := completes_request (P := (· = settle (respond .ok (wrapInc 255 s.port.requestCount)
    (.cursor w.msg.cursor) w))) (c := .displayWrite pos [b] attr 0) rfl hs hone rfl
  have humsg : u.msg = { w.msg with bus := .page (pageOf w w.msg.shown) } := by
    rw [hueq]
    exact settle_respond_msg _ _ _ hs (congrArg Port.part hwport :)
  have hup : Up u := by
    rw [hueq]
    simpa [Up, hwport] using hs
  obtain ⟨hpage, hline, hcol, _⟩ := hp
  obtain ⟨hpage', hline', hcol'⟩ := placesOn_within 1 (c := c) (by omega) (by omega)
  have hnames : NamesPlace none (placeAfter c) (counted u) :=
    ⟨(congrArg (fun p => p = 6 ∨ p = 7) hpage').mpr hpage, Nat.le_of_lt_succ hline', Nat.le_of_lt_succ hcol',
      .inr ⟨rfl, (congrArg Msg.cursor humsg).trans hcursor⟩⟩
  have hrest := displayWrite_ok (s := counted u) (text := text) hnames hlo (Nat.le_succ_of_le hhi) htext ha
  have hsame : SameDisplay (writeText (attr.bind lineAttrOf) text
      { counted u with msg := { (counted u).msg with cursor := placeAfter c } }) (writeText (attr.bind lineAttrOf) text w) := by
    refine sameDisplay_writeText _ _ ?_
    change w.msg = { u.msg with cursor := placeAfter c, bus := w.msg.bus }
    rw [humsg, ← hcursor]
  have hresttouch := writeText_touches (attr.bind lineAttrOf) text
    { counted u with msg := { (counted u).msg with cursor := placeAfter c } }
  have hwholetouch := writeText_touches (attr.bind lineAttrOf) text w
  generalize writeText (attr.bind lineAttrOf) text w = w₁ at *
  generalize writeText (attr.bind lineAttrOf) text
    { counted u with msg := { (counted u).msg with cursor := placeAfter c } } = w₂ at *
  obtain ⟨v, hv, hveq⟩ := completes_request (P := (· = settle (respond .ok (wrapInc 255 u.port.requestCount)
    (.cursor w₂.msg.cursor) w₂))) (c := .displayWrite none text attr 0) rfl hup hrest rfl
  have hport₁ : w₁.port = (counted s).port := (hwholetouch.kept (b := .port) (by simp)).trans hwport
  have hport₂ : w₂.port = (counted u).port := hresttouch.kept (b := .port) (by simp)
  have hvmsg : v.msg = { w₂.msg with bus := .page (pageOf w₂ w₂.msg.shown) } := by
    rw [hveq]
    exact settle_respond_msg _ _ _ hup (congrArg Port.part hport₂ :)
  have hvcursor : v.msg.cursor = w₁.msg.cursor := by rw [hvmsg, hsame]
  refine completes_request rfl hs hwhole ⟨u, v, hu, hv, ?_, ?_, onlyTouches_request (by simp) _ _ _ ?_⟩
  · rw [settle_respond_msg _ _ _ hs (congrArg Port.part hport₁ :), hvmsg, pageOf, pageOf, hsame]
  · rw [hvcursor]
    exact justAnswered_respond _ _ hport₁
  · exact OnlyTouches.before ((htouch.trans hwholetouch).widen (by simp)) rfl fun b => by cases b <;> simp [Kept]

/-! ## What the requests refuse -/

theorem displayRequestsAreRefused : DisplayRequestsAreRefused := by
  intro s hs
  refine ⟨fun c b n hpage hline hcol hedit hb hlo hhi => ?_, fun text h => ?_, fun n h => ?_⟩
  · have hpos : positionOk c = true := by simp [positionOk, hpage, hline, hcol]
    have hstatus : positionStatus (some c) (counted s) = .state :=
      if_pos (hedit.imp id fun h => by omega)
    have hlen : inRange 1 80 n = true := by simp [inRange, hlo, hhi]
    refine ⟨completes_request (u := counted s) (st := .state) (r := .bare) rfl hs ?_ (nothingBut_respond _ _ _),
      completes_request (u := counted s) (st := .state) (r := .bare) rfl hs ?_ (nothingBut_respond _ _ _)⟩
    · simp [displayWrite, hstatus, hpos, textOk, hb, inRange]
    · simp [displayRead, hstatus, hpos, hlen]
  · refine completes_request rfl hs (if_neg ?_) (nothingBut_respond _ _ _)
    rintro ⟨_, _, hlen, hok, _⟩
    rw [inRange, Bool.and_eq_true, decide_eq_true_eq, decide_eq_true_eq] at hlen
    obtain rfl | hlong | ⟨a, ha, hlow⟩ := h
    · simp at hlen
    · omega
    · have := List.all_eq_true.1 hok a ha
      exact absurd (of_decide_eq_true this) (Nat.not_le.2 hlow)
  · refine completes_request rfl hs (if_neg ?_) (nothingBut_respond _ _ _)
    rintro ⟨_, _, hlen⟩
    rw [inRange, Bool.and_eq_true, decide_eq_true_eq, decide_eq_true_eq] at hlen
    omega

/-! ## DISPLAY_READ (R162) -/

theorem charAt_of_shape {c : Cursor} {s : State} (h : DisplayShape s) (hp : c.page < 8) (hl : c.line < 4) (hc : c.col < 20) :
    some (charAt c s) = charOf c.page c.line c.col s ∧ some (attrAt c s) = attrOf c.page c.line s := by
  obtain ⟨x, hx, hlen⟩ := lineAt_of_shape h hp hl
  have hget : (pageOf s c.page).getD c.line .blank = x := by
    unfold lineAt at hx
    obtain ⟨page, hpage, hline⟩ := Option.bind_eq_some_iff.1 hx
    simp [pageOf, List.getD, hpage, hline]
  have hcol : c.col < x.chars.length := hlen ▸ hc
  rw [charOf_lineAt, attrOf_lineAt, hx, charAt, attrAt, hget]
  simp [List.getD, List.getElem?_eq_getElem hcol]

theorem displayReadReturnsTheCharacters : DisplayReadReturnsTheCharacters := by
  intro pos c n s hs hd hp hlo hhi
  obtain ⟨hstatus, hpos, hcursor⟩ := positionStatus_of_names (s := counted s) hp
  have hlen : inRange 1 80 n = true := by simp [inRange, hlo, hhi]
  obtain ⟨hpage, hline, hcol, _⟩ := hp
  have ho : displayRead pos n 0 (counted s) =
      ({ counted s with msg := { (counted s).msg with cursor := if s.msg.editMode = true then c else placesOn n c } }, .ok,
        .chars ((visited n c).map fun c => charAt c s) ((linesOf (visited n c)).map fun c => attrAt c s)
          (if s.msg.editMode = true then c else placesOn n c)) := by
    simp only [displayRead, hpos, hlen, hstatus, hcursor, and_self, if_true, advanceBy_eq]
    rfl
  have hcell : ∀ d ∈ visited n c, some (charAt d s) = charOf d.page d.line d.col s
      ∧ some (attrAt d s) = attrOf d.page d.line s ∧ d.page = c.page := by
    intro d hd'
    rw [visited_eq] at hd'
    obtain ⟨k, _, rfl⟩ := List.mem_map.1 hd'
    obtain ⟨hdp, hdl, hdc⟩ := placesOn_within k (c := c) (by omega) (by omega)
    obtain ⟨hchar, hattr⟩ := charAt_of_shape hd (c := placesOn k c) (by omega) hdl hdc
    exact ⟨hchar, hattr, hdp⟩
  refine completes_request rfl hs ho ⟨_, _, _, justAnswered_respond _ _ rfl, rfl, by simp, ?_, ?_, by simp, by simp, by simp,
    onlyTouches_request (by simp) _ _ _ ⟨rfl, fun b => by cases b <;> simp [Kept]⟩⟩
  · calc ((visited n c).map fun d => charAt d s).map some
        = (visited n c).map fun d => charOf d.page d.line d.col s := by
          rw [List.map_map]
          exact List.map_congr_left fun d h => (hcell d h).1
      _ = _ := by
          rw [visited_eq, List.map_map]
          rfl
  · calc ((linesOf (visited n c)).map fun d => attrAt d s).map some
        = ((linesOf (visited n c)).map (·.line)).map fun l => attrOf c.page l s := by
          rw [List.map_map, List.map_map]
          refine List.map_congr_left fun d h => ?_
          obtain ⟨_, hattr, hdp⟩ := hcell d (linesOf_mem h)
          exact hdp ▸ hattr
      _ = _ := by
          rw [linesOf_lines, visited_eq, List.map_map]
          rfl

/-! ## Edit mode (R163) -/

theorem editModeKeepsItsPlace : EditModeKeepsItsPlace := by
  intro s hs
  refine ⟨fun h => ⟨?_, ?_⟩, fun h => ⟨?_, fun c hc => ?_⟩⟩
  · refine completes_plain rfl hs (if_neg (by simpa using h)) ⟨justAnswered_respond _ _ rfl, ?_,
      onlyTouches_request (by simp) _ _ _ ⟨rfl, fun b => by cases b <;> simp [Kept]⟩⟩
    rw [settle_msg]
    rfl
  · exact completes_plain rfl hs (if_neg (by simpa using h)) (nothingBut_respond _ _ _)
  · exact completes_plain rfl hs (if_pos h) (nothingBut_respond _ _ _)
  · refine completes_plain rfl hs (if_pos h) ⟨justAnswered_respond _ _ rfl, ?_,
      onlyTouches_request (by simp) _ _ _ ⟨rfl, fun b => by cases b <;> simp [Kept]⟩⟩
    rw [settle_msg]
    simp [hc]

/-- Settles O22. -/
theorem displayFollowsItsRequests : Obligations.DisplayFollowsItsRequests :=
  ⟨displaySelectShowsThePage, displayWritePutsTheCharacter, displayWriteGoesOn, displayRequestsAreRefused,
    displayReadReturnsTheCharacters, editModeKeepsItsPlace⟩

end Sys2Proof.Claims
end

section
/-! SUPPORT. What of the link controller a presentation leaves (R8, R9). -/

namespace Sys2Proof.Claims

open Sys2Proof.Machine

/-- The link but for its side and the count of its entry. -/
def LinkAside (s t : State) : Prop := t.link = { s.link with side := t.link.side, deferral := t.link.deferral }

namespace LinkAside

theorem refl (s : State) : LinkAside s s := rfl

theorem trans {s t u : State} (h : LinkAside s t) (k : LinkAside t u) : LinkAside s u := by
  unfold LinkAside at *
  rw [k, h]

theorem of_link {s t : State} (h : t.link = s.link) : LinkAside s t := by
  rw [LinkAside, h]

end LinkAside

theorem present_aside (e : PendEntry) (b : Bool) (s : State) : LinkAside s (present e b s) := by
  obtain ⟨⟨⟨n, -, hlink⟩, -⟩, -⟩ := presented_present e b s
  rw [LinkAside, hlink]

theorem handBackDeferring_aside (s : State) : LinkAside s (handBackDeferring s) := by
  unfold handBackDeferring
  split <;> rfl

theorem accessOpportunity_aside (b : Bool) (s : State) : LinkAside s (accessOpportunity b s) := by
  unfold accessOpportunity
  repeat' split
  · exact present_aside _ b s
  · exact .refl s
  · exact .refl s

theorem displace_aside (b : Bool) (s : State) : LinkAside s (displace b s) := by
  unfold displace
  repeat' split
  · exact (handBackDeferring_aside s).trans (accessOpportunity_aside b _)
  · exact .refl s
  · exact .refl s

theorem channelBecomesFree_aside (s : State) : LinkAside s (channelBecomesFree s) := by
  unfold channelBecomesFree
  repeat' split
  · rfl
  · exact accessOpportunity_aside true s
  · exact .refl s

theorem joinEntry_aside (e : PendEntry) (s : State) : LinkAside s (joinEntry e s) := by
  rw [joinEntry_eq]
  repeat' split
  · exact (LinkAside.of_link rfl).trans (accessOpportunity_aside false _)
  · exact .of_link rfl
  · exact (LinkAside.of_link rfl).trans (displace_aside false _)

theorem offerEntry_aside (e : PendEntry) (s : State) : LinkAside s (offerEntry e s).1 := by
  unfold offerEntry
  repeat' split
  · exact .refl s
  · exact .refl s
  · exact joinEntry_aside e s

theorem offerOwn_aside (p : Phase) (s : State) : LinkAside s (offerOwn p s) := by
  unfold offerOwn
  split
  · exact .refl s
  · have h := offerEntry_aside (ownEmergency p s) s
    generalize offerEntry (ownEmergency p s) s = x at h
    obtain ⟨t, a⟩ := x
    cases a <;> exact h

theorem offerOwn_touches (p : Phase) (s : State) : OnlyTouches [.link, .tx, .emerg] s (offerOwn p s) := by
  unfold offerOwn
  split
  · exact onlyTouches_refl _ s
  · have h := offerEntry_touches (ownEmergency p s) s
    generalize offerEntry (ownEmergency p s) s = x at h
    obtain ⟨t, a⟩ := x
    have hw : OnlyTouches [.link, .tx, .emerg] s t := h.widen (by simp)
    cases a with
    | joined uid => exact hw.trans ⟨rfl, fun b => by cases b <;> simp [Kept]⟩
    | full => exact hw
    | link => exact hw

/-! ## The channel as it becomes free -/

theorem channelBecomesFree_empty {s : State} (hd : s.link.deferral = none) (hq : s.tx.queue = []) :
    channelBecomesFree s = s := by
  have hopp : accessOpportunity true s = s := by simp [accessOpportunity, hq, choose]
  simp [channelBecomesFree, hd, hopp]

theorem channelBecomesFree_chosen {e : PendEntry} {s : State} (hf : FreeSlots s) (hm : s.link.state.mute = false)
    (hi : s.link.side = .idle) (hd : s.link.deferral = none) (hc : ChosenIn s.tx.queue e) :
    channelBecomesFree s = present e true s := by
  have hp : canPresent s = true := by simp [canPresent, hf.1, hm, hf.2.1]
  simp [channelBecomesFree, (channelFree_iff s).2 hf, hd, accessOpportunity_chosen hp hi hc]

end Sys2Proof.Claims
end

section
/-! SUPPORT. The quiet spans of RECOVERING and the listen-in (R20, R22). -/

namespace Sys2Proof.Claims

open Sys2Proof.Machine

theorem countSlot_none {s : State} (h : s.link.deferral = none) : countSlot s = s := by simp [countSlot, h]

theorem quietSpanCompletes_counts {s : State} (hc : s.link.slotClock = true) (hr : s.link.state = .recovering)
    (hl : s.link.listenIn = none) (hp : s.link.partialSpan = 5) (hcar : s.link.carrier = false) (hk : s.link.keyed = false) :
    quietSpanCompletes s = if s.link.quietSpans < 79 then
      { s with link := { s.link with partialSpan := 0, quietSpans := s.link.quietSpans + 1 } } else recoveryCompletes s := by
  rw [quietSpanCompletes, if_pos ⟨hc, hr, hl, hp, hcar, hk⟩, quietSlot, if_neg (by omega)]

/-- The link as its recovery ends: the counts cleared, ACTIVE. -/
def recovered (s : State) : State :=
  setLink .active { s with link.sfc := 0, link.hfc := 0, link.quietSpans := 0, link.partialSpan := 0 }

theorem recovered_emerg (s : State) : (recovered s).emerg = s.emerg := by
  unfold recovered setLink
  split <;> simp

/-- A HELD alarm opened again, with its repeats. -/
def reopened (s : State) : State := offerOwn .open { setAlarm .open s with emerg.repeatTimer := some 2 }

theorem recoveryCompletes_eq (s : State) :
    recoveryCompletes s =
      channelBecomesFree (if s.emerg.alarm = .held then reopened (recovered s) else recovered s) := by
  rw [recoveryCompletes, ← congrArg Emerg.alarm (recovered_emerg s)]
  rfl

theorem recovered_link (s : State) : (recovered s).link = { s.link with
    state := .active, sfc := 0, hfc := 0, quietSpans := 0, partialSpan := 0 } := setLink_link _ _

theorem recovered_touches (s : State) : OnlyTouches [.link, .port] s (recovered s) :=
  (setLink_touches _ _).before rfl fun b => by cases b <;> simp [Kept]

theorem reopened_touches (s : State) : OnlyTouches [.link, .tx, .emerg, .port] s (reopened s) := by
  have hset : OnlyTouches [.emerg, .port] s { setAlarm .open s with emerg.repeatTimer := some 2 } :=
    (setAlarm_touches .open s).trans ⟨rfl, fun b => by cases b <;> simp [Kept]⟩
  exact (hset.widen (by simp)).trans ((offerOwn_touches _ _).widen (by simp))

theorem reopened_aside (s : State) : LinkAside s (reopened s) :=
  (LinkAside.of_link (setAlarm_link .open s)).trans (offerOwn_aside _ _)

theorem reopened_emerg (s : State) : (reopened s).emerg.alarm = .open ∧ (reopened s).emerg.repeatTimer = some 2 := by
  obtain ⟨halarm, _, _, hrepeat, _⟩ := offerOwn_call .open { setAlarm .open s with emerg.repeatTimer := some 2 }
  exact ⟨halarm.trans (congrArg Emerg.alarm (setAlarm_emerg .open s)), hrepeat⟩

theorem quietSpansRecoverTheLink : QuietSpansRecoverTheLink := by
  intro s hc hl hr hd
  have hslot : slotBoundary s = if s.link.carrier = false ∧ s.link.keyed = false then quietSlot s else s := by
    simp [slotBoundary, hc, countSlot_none hd, hl, hr]
  refine ⟨fun hcar hk hp => ?_, fun hbusy => ?_, fun hcar hk hp hq => ?_, fun hcar hk hp hq => ?_⟩
  · rw [if_pos ⟨hcar, hk⟩, quietSlot, if_pos hp] at hslot
    exact completes_link (congrArg (fun u => Host.Outcome.next (settle u)) hslot)
  · rw [if_neg (by rintro ⟨h, h'⟩; simp [h, h'] at hbusy)] at hslot
    exact completes_nothing (congrArg (fun u => Host.Outcome.next (settle u)) hslot)
  · have hrun := quietSpanCompletes_counts hc hr hl hp hcar hk
    rw [if_pos hq] at hrun
    exact completes_link (congrArg (fun u => Host.Outcome.next (settle u)) hrun)
  · have hrun := quietSpanCompletes_counts hc hr hl hp hcar hk
    rw [if_neg (by omega), recoveryCompletes_eq] at hrun
    have hlink := recovered_link s
    have hemerg : (recovered s).emerg.alarm = s.emerg.alarm ∧ (recovered s).emerg.repeatTimer = s.emerg.repeatTimer := by
      simp [recovered_emerg]
    have htouch : OnlyTouches [.link, .tx, .emerg, .port] s
        (if s.emerg.alarm = .held then reopened (recovered s) else recovered s) := by
      split
      · exact ((recovered_touches s).widen (by simp)).trans (reopened_touches _)
      · exact (recovered_touches s).widen (by simp)
    have haside : LinkAside (recovered s) (if s.emerg.alarm = .held then reopened (recovered s) else recovered s) := by
      split
      · exact reopened_aside _
      · exact .refl _
    have hheld : s.emerg.alarm = .held →
        (if s.emerg.alarm = .held then reopened (recovered s) else recovered s).emerg.alarm = .open
        ∧ (if s.emerg.alarm = .held then reopened (recovered s) else recovered s).emerg.repeatTimer = some 2 := fun h => by
      rw [if_pos h]
      exact reopened_emerg _
    have hnot : s.emerg.alarm ≠ .held →
        (if s.emerg.alarm = .held then reopened (recovered s) else recovered s).emerg.alarm = s.emerg.alarm
        ∧ (if s.emerg.alarm = .held then reopened (recovered s) else recovered s).emerg.repeatTimer = s.emerg.repeatTimer :=
      fun h => by
        rw [if_neg h]
        exact hemerg
    generalize (if s.emerg.alarm = .held then reopened (recovered s) else recovered s) = v at *
    obtain ⟨halarm, _, _, hrepeat, _⟩ := channelBecomesFree_call v
    have hall := haside.trans (channelBecomesFree_aside v)
    rw [LinkAside, hlink] at hall
    refine completes_event hrun rfl ⟨by simpa using congrArg Link.state hall, by simpa using congrArg Link.sfc hall,
      by simpa using congrArg Link.hfc hall, by simpa using congrArg Link.quietSpans hall,
      by simpa using congrArg Link.partialSpan hall, by simpa using congrArg Link.lastFault hall, fun h => ?_, fun h => ?_, onlyTouches_settle (htouch.trans
        ((channelBecomesFree_touches v).widen (by simp)))⟩
    · simpa [halarm, hrepeat] using hheld h
    · simpa [halarm, hrepeat] using hnot h

theorem listenInCountsQuietSlots : ListenInCountsQuietSlots := by
  intro n s hc hl hd hk
  have hslot : slotBoundary s = if s.link.carrier = false then
      { s with link := { s.link with listenIn := some (min 3 (n + 1)) } } else s := by
    simp [slotBoundary, hc, countSlot_none hd, hl, hk]
  refine ⟨fun hcar => ?_, fun hcar => ?_, fun hcar hn hq => ?_, fun hcar => ?_⟩
  · rw [if_pos hcar] at hslot
    exact completes_link (congrArg (fun u => Host.Outcome.next (settle u)) hslot)
  · rw [if_neg (by simp [hcar])] at hslot
    exact completes_nothing (congrArg (fun u => Host.Outcome.next (settle u)) hslot)
  · have hrun : listenInCompletes s = { s with link := { s.link with listenIn := none } } := by
      simp only [listenInCompletes, hl, hn, hc, hcar, and_self, if_true]
      exact channelBecomesFree_empty (by exact hd) (by exact hq)
    exact completes_link (congrArg (fun u => Host.Outcome.next (settle u)) hrun)
  · have hrun : listenInCompletes s = s := by simp [listenInCompletes, hl, hcar]
    exact completes_nothing (congrArg (fun u => Host.Outcome.next (settle u)) hrun)

theorem recoveryPresentsAWaitingEntry : RecoveryPresentsAWaitingEntry := by
  intro e s hr hf hp hq hi hd ha hc
  obtain ⟨hclock, hlisten, hcar, hk, hgap⟩ := hf
  have hrun := quietSpanCompletes_counts hclock hr hlisten hp hcar hk
  rw [if_neg (by omega), recoveryCompletes_eq, if_neg ha] at hrun
  have hlink := recovered_link s
  have htouch := recovered_touches s
  have hport : (recovered s).port = (raise .linkState .link s).port := by
    rw [recovered, setLink, if_neg (by simp [hr])]
    exact raise_port _ _ _ _ rfl
  have htx : (recovered s).tx = s.tx := htouch.kept (b := .tx) (by simp)
  generalize recovered s = v at *
  have hfree : FreeSlots v := by
    simp [FreeSlots, NoneOnAir, hlink, hclock, hlisten, hcar, hk, hgap]
  rw [channelBecomesFree_chosen (e := e) hfree (by simp [hlink, LinkState.mute]) (by simp [hlink, hi])
    (by simp [hlink, hd]) (by rw [htx]; exact hc)] at hrun
  have hpres := presented_of_idle (e := e) (b := true) (s := v) (l := { s.link with
    state := .active, sfc := 0, hfc := 0, quietSpans := 0, partialSpan := 0 }) (by simp [hlink, hi, hd])
  have hptouch := (presented_present e true v).2
  rw [htx] at hpres
  generalize present e true v = w at *
  have hwport : w.port = v.port := hptouch.kept (b := .port) (by simp)
  exact completes_event hrun rfl ⟨presented_settle (by simp) (by simp) hpres, by simpa [hwport] using hport,
    onlyTouches_settle ((htouch.widen (by simp)).trans (hptouch.widen (by simp)))⟩

/-- Settles O25. -/
theorem quietRecoversTheLinkAndEndsTheListenIn : Obligations.QuietRecoversTheLinkAndEndsTheListenIn :=
  ⟨quietSpansRecoverTheLink, listenInCountsQuietSlots, recoveryPresentsAWaitingEntry⟩

end Sys2Proof.Claims
end

section
/-! SUPPORT. The link moved to another state by its counts (R18, R47, R182). -/

namespace Sys2Proof.Claims

open Sys2Proof.Machine

/-! ## Relays removed from the queue -/

/-- A relay of the emergency controller that waits. -/
def WaitingRelay (e : PendEntry) : Prop :=
  e.state = .waiting ∧ e.owner = .emergencyController ∧ ∃ id : AlarmId, e.ref = .relay id

/-- The pairs of the relay table as a relay's removal leaves them. -/
def relaysWithout (id : AlarmId) (e : PendEntry) (l : List RelayEntry) : List RelayEntry :=
  (updateWhere (fun r => r.id == id) (relayResult ⟨e, .removed, false⟩) l).filter fun r => !r.agedOut || r.relaying

theorem removeUnkeyed_relay {e : PendEntry} {id : AlarmId} {s : State} (hw : e.state = .waiting)
    (ho : e.owner = .emergencyController) (href : e.ref = .relay id) :
    removeUnkeyed e .removed false s = { s with
      tx := { s.tx with queue := s.tx.queue.filter fun a => a.uid != e.uid }
      emerg := { s.emerg with relays := relaysWithout id e s.emerg.relays } } := by
  simp [removeUnkeyed, finishEntry, dequeue, report, hw, ho, href, emergencyResult, dropAged, updateRelay, relaysWithout]

theorem foldl_removeRelays (l : List PendEntry) (hl : ∀ e ∈ l, WaitingRelay e) (s : State) :
    ∃ rs, l.foldl (fun s e => removeUnkeyed e .removed false s) s = { s with
      tx := { s.tx with queue := s.tx.queue.filter fun a => l.all fun e => a.uid != e.uid }
      emerg := { s.emerg with relays := rs } } := by
  induction l generalizing s with
  | nil => exact ⟨s.emerg.relays, by simp⟩
  | cons e l ih =>
    obtain ⟨hw, ho, id, href⟩ := hl e (by simp)
    obtain ⟨rs, hrs⟩ := ih (fun a ha => hl a (by simp [ha])) (removeUnkeyed e .removed false s)
    refine ⟨rs, ?_⟩
    rw [List.foldl_cons, hrs, removeUnkeyed_relay hw ho href]
    simp [List.filter_filter, Bool.and_comm]

theorem relayResult_keeps (r : TxResult) (e : RelayEntry) :
    (relayResult r e).agedOut = e.agedOut ∧ (relayResult r e).id = e.id := by
  unfold relayResult relayResult.ackResult
  repeat' split
  all_goals exact ⟨rfl, rfl⟩

/-- One pair in the table, as a relay of any pair is removed. -/
theorem relaysWithout_one {id : AlarmId} {e : PendEntry} {r : RelayEntry} (ha : r.agedOut = false) :
    relaysWithout id e [r] = [if r.id = id then relayResult ⟨e, .removed, false⟩ r else r] := by
  by_cases h : r.id = id
  · simp [relaysWithout, updateWhere, h, (relayResult_keeps _ r).1, ha]
  · simp [relaysWithout, updateWhere, h, ha]

/-- A pair without a pending relay stands as other relays are removed. -/
theorem foldl_relays_settled {r : RelayEntry} (l : List PendEntry) (hl : ∀ e ∈ l, WaitingRelay e)
    (ha : r.agedOut = false) (hp : r.pending = none) (hk : r.ackRelay = .no ∨ r.ackRelay = .done) (s : State)
    (hr : s.emerg.relays = [r]) :
    (l.foldl (fun s e => removeUnkeyed e .removed false s) s).emerg.relays = [r] := by
  induction l generalizing s with
  | nil => exact hr
  | cons e l ih =>
    obtain ⟨hw, ho, id, href⟩ := hl e (by simp)
    refine ih (fun a ha => hl a (by simp [ha])) (removeUnkeyed e .removed false s) ?_
    rw [removeUnkeyed_relay hw ho href]
    have hstands : relayResult ⟨e, .removed, false⟩ r = r := by
      obtain hk | hk := hk <;> simp [relayResult, relayResult.ackResult, hp, hk]
    simp [hr, relaysWithout_one ha, hstands]

/-- The pair whose pending relay is among the removed: its highest repeat is as before. -/
theorem foldl_relays_pending {r : RelayEntry} {p : RelayPending} (l : List PendEntry) (hl : ∀ e ∈ l, WaitingRelay e)
    (ha : r.agedOut = false) (hp : r.pending = some p) (hk : r.ackRelay = .no ∨ r.ackRelay = .done)
    (hid : ∀ e ∈ l, e.uid = p.uid → e.ref = .relay r.id) (hin : ∃ e ∈ l, e.uid = p.uid) (s : State)
    (hr : s.emerg.relays = [r]) :
    (l.foldl (fun s e => removeUnkeyed e .removed false s) s).emerg.relays =
      [{ r with pending := none, highest := p.before }] := by
  induction l generalizing s with
  | nil =>
    obtain ⟨e, he, -⟩ := hin
    cases he
  | cons e l ih =>
    obtain ⟨hw, ho, id, href⟩ := hl e (by simp)
    have hrest : ∀ a ∈ l, WaitingRelay a := fun a ha => hl a (by simp [ha])
    have hstep : (removeUnkeyed e .removed false s).emerg.relays = relaysWithout id e [r] := by
      rw [removeUnkeyed_relay hw ho href, hr]
    rw [relaysWithout_one ha] at hstep
    by_cases huid : e.uid = p.uid
    · have hsame : id = r.id := by
        have := hid e (by simp) huid
        rw [href] at this
        injection this
      have hdone : relayResult ⟨e, .removed, false⟩ r = { r with pending := none, highest := p.before } := by
        simp [relayResult, hp, huid]
      rw [if_pos hsame.symm, hdone] at hstep
      exact foldl_relays_settled (r := { r with pending := none, highest := p.before }) l hrest ha rfl hk _ hstep
    · have hstands : relayResult ⟨e, .removed, false⟩ r = r := by
        obtain hk | hk := hk <;> simp [relayResult, relayResult.ackResult, hp, hk, Ne.symm huid]
      rw [hstands, ite_self] at hstep
      obtain ⟨a, ha', hauid⟩ := hin
      obtain rfl | ha' := List.mem_cons.1 ha'
      · exact absurd hauid huid
      · exact ih hrest (fun a ha => hid a (by simp [ha])) ⟨a, ha', hauid⟩ _ hstep

/-! ## The link moved (R18) -/

theorem evaluateLink_other {l : LinkState} {s : State} (hm : Moves s.link.sfc s.link.hfc l s) (hp : l ≠ .passive) :
    evaluateLink s = raise .linkState .link { s with link := { s.link with state := l } } := by
  obtain ⟨hsilent, hrec, hl, hne, hns, -⟩ := hm
  have hmute : s.link.state.mute = false := by simp [LinkState.mute, hsilent, hrec]
  have hset : setLink l s = raise .linkState .link { s with link := { s.link with state := l } } := if_neg (Ne.symm hne)
  simp only [evaluateLink, hmute, ← hl, if_neg hne, Bool.false_eq_true, if_false]
  cases l with
  | silent => exact absurd rfl hns
  | passive => exact absurd rfl hp
  | active => exact hset
  | warned => exact hset
  | recovering => exact hset

theorem evaluateLink_passive {s : State} (hm : Moves s.link.sfc s.link.hfc .passive s) :
    evaluateLink s = removeWhere (fun e => e.cls == .emergencyRelay) .removed
      (raise .linkState .link { s with link := { s.link with state := .passive } }) := by
  obtain ⟨hsilent, hrec, hl, hne, hns, -⟩ := hm
  have hmute : s.link.state.mute = false := by simp [LinkState.mute, hsilent, hrec]
  simp only [evaluateLink, hmute, ← hl, if_neg hne, Bool.false_eq_true, if_false, enterPassive, setLink, if_neg (Ne.symm hne)]

/-- A link that the counts move is moved, and its relays leave as it becomes PASSIVE (R18, R47). -/
theorem evaluateLink_moves {l : LinkState} {s : State} (hm : Moves s.link.sfc s.link.hfc l s) :
    LinkMovesTo l s.link s (evaluateLink s) := by
  have hraise : (raise .linkState .link { s with link := { s.link with state := l } }).port = (raise .linkState .link s).port :=
    raise_port _ _ _ _ rfl
  have htouch : OnlyTouches [.link, .port] s (raise .linkState .link { s with link := { s.link with state := l } }) :=
    ((raise_touches _ _ _).widen (by simp)).before rfl fun b => by cases b <;> simp [Kept]
  by_cases hp : l = .passive
  · subst hp
    rw [evaluateLink_passive hm]
    obtain ⟨-, -, -, -, -, hqueue⟩ := hm
    generalize hv : raise .linkState .link { s with link := { s.link with state := .passive } } = v at *
    have htx : v.tx = s.tx := htouch.kept (b := .tx) (by simp)
    have hemerg : v.emerg = s.emerg := by simp [← hv]
    have hlink : v.link = { s.link with state := .passive } := by simp [← hv]
    generalize hl : v.tx.queue.filter (fun e => e.unkeyed && e.cls == .emergencyRelay) = l
    have hmem : ∀ e, e ∈ l ↔ e ∈ s.tx.queue ∧ e.state = .waiting ∧ e.cls = .emergencyRelay := by
      intro e
      rw [← hl, List.mem_filter, htx]
      simp only [Bool.and_eq_true, beq_iff_eq, PendEntry.unkeyed, Bool.or_eq_true]
      exact ⟨fun ⟨hq, hu, hc⟩ => ⟨hq, hu.resolve_right (hqueue e hq).1, hc⟩, fun ⟨hq, hu, hc⟩ => ⟨hq, .inl hu, hc⟩⟩
    have hrelays : ∀ e ∈ l, WaitingRelay e := fun e he => by
      obtain ⟨hq, hw, hc⟩ := (hmem e).1 he
      exact ⟨hw, (hqueue e hq).2 hc⟩
    obtain ⟨rs, hrs⟩ := foldl_removeRelays l hrelays v
    have hremoved : removeWhere (fun e => e.cls == .emergencyRelay) .removed v =
        l.foldl (fun s e => removeUnkeyed e .removed false s) v := by rw [removeWhere, hl]
    rw [hremoved]
    refine ⟨by rw [hrs, ← hlink], by rw [hrs, ← hraise], fun h => absurd rfl h, fun _ hnodup => ⟨?_, ?_, ?_⟩⟩
    · rw [hrs]
      simp only [htx]
      congr 1
      refine List.filter_congr fun a ha => ?_
      rw [Bool.eq_iff_iff, List.all_eq_true, Bool.not_eq_true', Bool.and_eq_false_iff]
      simp only [bne_iff_ne, ne_eq, beq_eq_false_iff_ne]
      constructor
      · intro hall
        by_contra hc
        simp only [not_or, not_not] at hc
        exact hall a ((hmem a).2 ⟨ha, hc.2, hc.1⟩) rfl
      · intro hout e he heq
        obtain ⟨hq, hw, hc⟩ := (hmem e).1 he
        rw [List.inj_on_of_nodup_map hnodup ha hq heq] at hout
        exact hout.elim (fun h => h hc) (fun h => h hw)
    · intro r p e hr ha hpend hack hq huid hcls hw href
      refine foldl_relays_pending l hrelays ha hpend hack (fun a ha hau => ?_) ⟨e, (hmem e).2 ⟨hq, hw, hcls⟩, huid⟩ v
        (by rw [hemerg, hr])
      rw [List.inj_on_of_nodup_map hnodup ((hmem a).1 ha).1 hq (hau.trans huid.symm)]
      exact href
    · refine (htouch.widen (by simp)).trans ?_
      rw [hrs]
      exact ⟨rfl, fun b => by cases b <;> simp [Kept]⟩
  · rw [evaluateLink_other hm hp]
    exact ⟨by simp, hraise, fun _ => htouch, fun h => absurd h hp⟩

/-- What else the event does to the link leaves the move. -/
theorem linkMovesTo_settle {l : LinkState} {k₀ k : Link} {s v w u : State} (h : LinkMovesTo l k₀ v w)
    (hv : v = { s with link := k₀ }) (hu : u = { w with link := { k with state := l } }) : LinkMovesTo l k s (settle u) := by
  subst hv hu
  obtain ⟨-, hport, hother, hpassive⟩ := h
  refine ⟨by simp, ?_, fun hl => ?_, fun hl hn => ?_⟩
  · simp only [settle_keeps, hport]
    exact raise_port _ _ _ _ rfl
  · have hw : OnlyTouches [.link, .port] s w := (hother hl).before rfl fun b => by cases b <;> simp [Kept]
    exact onlyTouches_settle (hw.trans ⟨rfl, fun b => by cases b <;> simp [Kept]⟩)
  · obtain ⟨htx, hrelay, htouch⟩ := hpassive hl hn
    refine ⟨by simpa using htx, fun r p e hr ha hpend hack hq huid hcls hw href => ?_, ?_⟩
    · simpa using hrelay r p e hr ha hpend hack hq huid hcls hw href
    · have hw : OnlyTouches [.link, .tx, .emerg, .port] s w := htouch.before rfl fun b => by cases b <;> simp [Kept]
      exact onlyTouches_settle (hw.trans ⟨rfl, fun b => by cases b <;> simp [Kept]⟩)

end Sys2Proof.Claims
end

section
/-! SUPPORT. The end of a carrier period (R3, R7, R17). -/

namespace Sys2Proof.Claims

open Sys2Proof.Machine

theorem ensureCarrier_heard {s : State} (h : s.link.carrier = true) : ensureCarrier s = s := if_pos h

/-- The link as a carrier ends that was heard out. -/
def carrierEnded (g : Gap) (l : Link) : Link := { l with carrier := false, carrierInAckGap := false, gap := some g }

theorem gapAfter_heard {g : Gap} {s : State} (h : s.link.carrierInAckGap = false) :
    gapAfter g s = { s with link := carrierEnded g s.link } := by
  simp [gapAfter, h, carrierEnded]

theorem channelBecomesFree_busy {s : State} (h : channelFree s = false) : channelBecomesFree s = s := by
  simp [channelBecomesFree, h]

theorem channelFree_of_gap {g : Gap} {s : State} (h : s.link.gap = some g) : channelFree s = false := by
  simp [channelFree, h]

theorem afterCarrier_gap {g : Gap} {s : State} (hd : s.link.decisionWaits = false) (hg : s.link.gap = some g) :
    afterCarrier s = s := by
  rw [afterCarrier, hd]
  exact channelBecomesFree_busy (channelFree_of_gap hg)

/-- A carrier that the part hears out and that hands nothing on. -/
theorem endOfCarrier_unread {bytes : List Byte} {o : FrameOutcome} {s : State} (h : HearsOut s)
    (ho : receiveBytes bytes = o) (hp : ∀ k f, o ≠ .pass k f) : endOfCarrier bytes s = unreadCarrier o s := by
  obtain ⟨hup, hk, hc, -⟩ := h
  unfold endOfCarrier
  rw [ho]
  cases o with
  | pass k f => exact absurd rfl (hp k f)
  | check => simp [hk, running_of_up hup, ensureCarrier_heard hc]
  | cutOff => simp [hk, running_of_up hup, ensureCarrier_heard hc]
  | noFrame => simp [hk, running_of_up hup, ensureCarrier_heard hc]

/-- The hear count raised and the fault noted, before the link is evaluated. -/
def heardBadly (n : Nat) (f : FaultKind) (s : State) : State :=
  { s with link := { s.link with hfc := min 160 (s.link.hfc + n), lastFault := f } }

theorem badCarrier_eq (n : Nat) (f : FaultKind) (s : State) : badCarrier n f s = evaluateLink (heardBadly n f s) := rfl

/-- The end of a carrier period whose count leaves the link as it is. -/
theorem badCarrier_steady {n : Nat} {f : FaultKind} {s : State} (h : HearsOut s)
    (hs : Steady s.link.sfc (min 160 (s.link.hfc + n)) s.link.state) :
    afterCarrier (gapAfter .unread (badCarrier n f s)) = { s with link := { s.link with
      hfc := min 160 (s.link.hfc + n), lastFault := f, carrier := false, gap := some .unread } } := by
  obtain ⟨-, -, -, hgap, hd⟩ := h
  rw [badCarrier_eq, evaluateLink_steady (by exact hs), gapAfter_heard (by exact hgap), afterCarrier_gap (by exact hd) rfl]
  simp [heardBadly, carrierEnded, hgap]

theorem badCarrier_moves {n : Nat} {f : FaultKind} {l : LinkState} {s : State} (h : HearsOut s)
    (hm : Moves s.link.sfc (min 160 (s.link.hfc + n)) l s) :
    LinkMovesTo l { s.link with
      hfc := min 160 (s.link.hfc + n), lastFault := f, carrier := false, gap := some .unread } s
      (settle (afterCarrier (gapAfter .unread (badCarrier n f s)))) := by
  obtain ⟨-, -, -, hgap, hd⟩ := h
  have hmoves := evaluateLink_moves (s := heardBadly n f s) hm
  have hlink : (evaluateLink (heardBadly n f s)).link = { (heardBadly n f s).link with state := l } := hmoves.1
  rw [badCarrier_eq, gapAfter_heard (by rw [hlink]; exact hgap), afterCarrier_gap (by rw [carrierEnded, hlink]; exact hd) rfl]
  refine linkMovesTo_settle hmoves rfl ?_
  rw [hlink]
  simp [heardBadly, carrierEnded, hgap]

theorem carrierEndsByItsOutcome : CarrierEndsByItsOutcome := by
  intro bytes s h
  refine ⟨fun k f hpass => ?_, fun ho hs => ?_, fun ho hs => ?_, fun ho => ?_⟩
  · have harrive : exec (.endOfCarrier bytes) s = .next (settle (arrive k f s)) := by
      change Host.Outcome.next (settle (endOfCarrier bytes s)) = _
      simp only [endOfCarrier, hpass]
    rw [harrive]
    cases k <;> rfl
  · exact completes_link (congrArg (fun u => Host.Outcome.next (settle u))
      ((endOfCarrier_unread h ho (by simp)).trans (badCarrier_steady h hs)))
  · exact completes_link (congrArg (fun u => Host.Outcome.next (settle u))
      ((endOfCarrier_unread h ho (by simp)).trans (badCarrier_steady h hs)))
  · have hrun := endOfCarrier_unread h ho (by simp)
    obtain ⟨-, -, -, hgap, hd⟩ := h
    have hunread : unreadCarrier .noFrame s = { s with link := { s.link with carrier := false, gap := some .unread } } := by
      change afterCarrier (gapAfter .unread s) = _
      rw [gapAfter_heard hgap, afterCarrier_gap (by exact hd) rfl]
      simp [carrierEnded, hgap]
    exact completes_link (congrArg (fun u => Host.Outcome.next (settle u)) (hrun.trans hunread))

theorem badCarrierMovesTheLink : BadCarrierMovesTheLink := by
  intro bytes l s h
  refine ⟨fun ho hm => ?_, fun ho hm => ?_⟩
  · exact completes_event (endOfCarrier_unread h ho (by simp)) rfl (badCarrier_moves h hm)
  · exact completes_event (endOfCarrier_unread h ho (by simp)) rfl (badCarrier_moves h hm)

/-- Settles O27. -/
theorem carrierEndMovesTheHearCount : Obligations.CarrierEndMovesTheHearCount :=
  ⟨carrierEndsByItsOutcome, badCarrierMovesTheLink⟩

end Sys2Proof.Claims
end

section
/-! SUPPORT. Keying an entry at the end of its count, and a BID at its slot (R8, R9, R10, R45). -/

namespace Sys2Proof.Claims

open Sys2Proof.Machine

/-- Settles O28. -/
theorem countRunOutKeysTheEntry : Obligations.CountRunOutKeysTheEntry := by
  intro e d s hheld hd hcls
  refine ⟨fun hrun hfree => ?_, fun hnot => ?_⟩
  · have hkey : deferralCountRunOut s = keyEntry e s := by
      simp only [deferralCountRunOut, hheld, hd]
      exact if_pos ⟨hcls, by rw [hrun], by rw [hrun], (channelFree_iff s).2 hfree⟩
    exact completes_event hkey rfl (keyedFor_keyEntry e s)
  · have hstay : deferralCountRunOut s = s := by
      simp only [deferralCountRunOut, hheld, hd]
      refine if_neg ?_
      rintro ⟨-, -, hslots, hfree⟩
      exact hnot.elim (fun h => by omega) fun h => h ((channelFree_iff s).1 hfree).2.2
    exact completes_nothing (congrArg (fun u => Host.Outcome.next (settle u)) hstay)

/-! ## The bid slot -/

theorem openBid_spec {id : OfferId} {b : PendEntry} {s : State} (h : openBid id s = some b) :
    b ∈ s.tx.queue ∧ b.cls = .bid ∧ b.windowEnded = false := by
  have hb := List.find?_some h
  simp only [Bool.and_eq_true, beq_iff_eq, Bool.not_eq_true'] at hb
  exact ⟨List.mem_of_find?_eq_some h, hb.1.1, hb.2⟩

/-- A BID whose slot has come. -/
def atSlot (b : PendEntry) : PendEntry := { b with eligible := true }

/-- The queue as the BID becomes a candidate. -/
def slotArrived (b : PendEntry) (s : State) : State := updateEntry b.uid (fun e => { e with eligible := true }) s

/-- A BID that alone waits is chosen at its slot. -/
theorem chosenIn_slotArrived {b : PendEntry} {s : State} (hb : b ∈ s.tx.queue) (hw : b.state = .waiting)
    (he : b.windowEnded = false) (hu : ∀ e ∈ s.tx.queue, e.uid = b.uid → e = b)
    (ho : ∀ e ∈ s.tx.queue, e ≠ b → e.state ≠ .waiting) : ChosenIn (slotArrived b s).tx.queue (atSlot b) := by
  obtain ⟨before, after, hq, hnot⟩ := List.eq_append_cons_of_mem hb
  have hqueue : (slotArrived b s).tx.queue =
      before.map (fun e => if e.uid = b.uid then { e with eligible := true } else e) ++ atSlot b ::
        after.map (fun e => if e.uid = b.uid then { e with eligible := true } else e) := by
    simp [slotArrived, updateEntry, updateWhere, hq, atSlot]
  refine ⟨_, _, hqueue, ⟨hw, fun _ => ⟨rfl, he⟩⟩, fun a ha hc => ?_, fun a ha hc => ?_⟩
  · obtain ⟨e, hmem, rfl⟩ := List.mem_map.1 ha
    have hin : e ∈ s.tx.queue := by simp [hq, hmem]
    have hne : e ≠ b := fun h => hnot (h ▸ hmem)
    rw [if_neg fun h => hne (hu e hin h)] at hc
    exact absurd hc.1 (ho e hin hne)
  · obtain ⟨e, hmem, rfl⟩ := List.mem_map.1 ha
    have hin : e ∈ s.tx.queue := by simp [hq, hmem]
    by_cases heb : e = b
    · subst heb
      simp [atSlot]
    · rw [if_neg fun h => heb (hu e hin h)] at hc
      exact absurd hc.1 (ho e hin heb)

/-- The BID presented at its slot: one free slot to wait for. -/
def slotHeld (b : PendEntry) (free : Bool) (s : State) : State :=
  { s with
    link := { s.link with side := .deferring, deferral := some ⟨1, free⟩ }
    tx := { s.tx with queue := s.tx.queue.map fun e =>
      if e.uid = b.uid then { b with eligible := true, state := .deferring } else e } }

theorem present_slotArrived {b : PendEntry} {free : Bool} {s : State} (hc : b.cls = .bid) (ha : b.attempts = 0)
    (hu : ∀ e ∈ s.tx.queue, e.uid = b.uid → e = b) : present (atSlot b) free (slotArrived b s) = slotHeld b free s := by
  have hqueue : (s.tx.queue.map fun e => if e.uid = b.uid then { e with eligible := true } else e).map
      (fun e => if e.uid = b.uid then { e with state := EntryState.deferring } else e)
        = s.tx.queue.map fun e => if e.uid = b.uid then { b with eligible := true, state := .deferring } else e := by
    rw [List.map_map]
    refine List.map_congr_left fun e he => ?_
    by_cases h : e.uid = b.uid
    · simp [hu e he h]
    · simp [h]
  simp [present, atSlot, slotArrived, slotHeld, updateEntry, updateWhere, hc, ha, bidWait, hqueue]

theorem findEntry_slotHeld {b : PendEntry} {free : Bool} {s : State} (hb : b ∈ s.tx.queue) :
    findEntry b.uid (slotHeld b free s) = some { b with eligible := true, state := .deferring } := by
  cases hf : findEntry b.uid (slotHeld b free s) with
  | none =>
    rw [findEntry, List.find?_eq_none] at hf
    exact absurd (beq_self_eq_true b.uid) (hf { b with eligible := true, state := .deferring }
      (List.mem_map.2 ⟨b, hb, if_pos rfl⟩))
  | some e =>
    obtain ⟨a, -, rfl⟩ := List.mem_map.1 (findEntry_mem hf)
    have huid := findEntry_uid hf
    by_cases h : a.uid = b.uid
    · rw [if_pos h]
    · rw [if_neg h] at huid
      exact absurd huid h

/-- The link controller at the slot: it takes what the scheduler chooses, or the BID displaces the entry held. -/
def slotTaken (b : PendEntry) (s : State) : State :=
  if (slotArrived b s).link.side = .idle then accessOpportunity (channelFree (slotArrived b s)) (slotArrived b s)
  else displace (channelFree (slotArrived b s)) (slotArrived b s)

theorem bidSlotArrives_taken {id : OfferId} {b e : PendEntry} {s : State} (hb : openBid id s = some b)
    (hready : s.running = true ∧ b.state = .waiting ∧ b.eligible = false)
    (he : findEntry b.uid (slotTaken b s) = some e) :
    bidSlotArrives id s = if e.state = .deferring ∧ e.attempts = 0 ∧ channelFree (slotArrived b s) = true
      then keyEntry e (slotTaken b s) else slotTaken b s := by
  unfold slotTaken slotArrived at *
  simp only [bidSlotArrives, hb, if_pos hready, he]

theorem bidSlotArrives_eq {id : OfferId} {b : PendEntry} {s : State} (hs : Up s) (hb : openBid id s = some b)
    (hw : b.state = .waiting) (he : b.eligible = false) (ha : b.attempts = 0)
    (hu : ∀ e ∈ s.tx.queue, e.uid = b.uid → e = b) (ho : ∀ e ∈ s.tx.queue, e ≠ b → e.state ≠ .waiting)
    (hi : s.link.side = .idle) (ht : Takes s) (hl : s.link.listenIn = none) :
    bidSlotArrives id s = if channelFree s = true then
        keyEntry { b with eligible := true, state := .deferring } (slotHeld b (channelFree s) s)
      else slotHeld b (channelFree s) s := by
  obtain ⟨hmem, hcls, hended⟩ := openBid_spec hb
  have htaken : slotTaken b s = slotHeld b (channelFree s) s :=
    (if_pos hi).trans ((accessOpportunity_chosen (canPresent_of_takes (by exact ht) (by exact hl)) (by exact hi)
      (chosenIn_slotArrived hmem hw hended hu ho)).trans (present_slotArrived hcls ha hu))
  have hrun := bidSlotArrives_taken hb ⟨running_of_up hs, hw, he⟩ (by rw [htaken]; exact findEntry_slotHeld hmem)
  rw [htaken] at hrun
  rw [hrun]
  simp only [ha, true_and]
  rfl

theorem bidIsKeyedAtItsSlot : BidIsKeyedAtItsSlot := by
  intro id rank c b s hs hb hpay hw he ha hu ho hi hclock hl hsilent hrec
  have hrun := bidSlotArrives_eq hs hb hw he ha hu ho hi ⟨hclock, hsilent, hrec⟩ hl
  obtain ⟨hmem, -, -⟩ := openBid_spec hb
  refine ⟨fun hair => ?_, fun hair => ?_⟩
  · rw [if_pos ((channelFree_iff s).2 ⟨hclock, hl, hair⟩)] at hrun
    obtain ⟨hlink, htx, htouch⟩ := keyedFor_keyEntry { b with eligible := true, state := .deferring }
      (slotHeld b (channelFree s) s)
    refine completes_event hrun rfl ⟨by rw [hlink], by rw [hlink], by rw [hlink],
      ⟨asKeyed { b with eligible := true, state := .deferring } (slotHeld b (channelFree s) s), ?_, rfl, rfl, rfl, ?_, ?_⟩,
      htouch.before rfl fun b => by cases b <;> simp [Kept, slotHeld]⟩
    · rw [htx]
      refine List.mem_map.2 ⟨{ b with eligible := true, state := .deferring }, ?_, if_pos rfl⟩
      exact List.mem_map.2 ⟨b, hmem, if_pos rfl⟩
    · simp [asKeyed, hpay, fillBeacon]
    · rw [hlink]
      simp [asKeyed, hpay, fillBeacon, TxPayload.kind, slotHeld]
  · have hbusy : channelFree s = false := channelFree_eq_false fun h => hair h.2.2
    rw [hbusy, if_neg Bool.false_ne_true] at hrun
    exact completes_event hrun rfl ⟨by simp [slotHeld], by simp [slotHeld],
      onlyTouches_settle ⟨rfl, fun b => by cases b <;> simp [Kept, slotHeld]⟩⟩

/-! ## A BID that is held or waits past its window -/

/-- A BID out of the queue unsent: its result goes to the offer engine. -/
theorem bidUnsent_spec {b : PendEntry} {s : State} (ho : b.owner = .offerEngine) :
    (bidUnsent b s).link = (takenOut b s).link ∧ (bidUnsent b s).tx = (takenOut b s).tx
      ∧ (bidUnsent b s).msg.queue = s.msg.queue ∧ OnlyTouches [.offers, .msg, .port] (takenOut b s) (bidUnsent b s) := by
  have hunsent : bidUnsent b s = offerResult ⟨b, .noLack, false⟩ (takenOut b s) := by
    rw [bidUnsent, removeUnkeyed_eq]
    simp only [report, ho]
  rw [hunsent]
  have htouch := offerResult_touches ⟨b, .noLack, false⟩ (takenOut b s)
  refine ⟨htouch.kept (b := .link) (by simp), htouch.kept (b := .tx) (by simp), ?_, htouch⟩
  unfold offerResult
  repeat' split
  · rfl
  · exact (updateOffer_msg _ _ _).1
  · exact (updateOffer_msg _ _ _).1

theorem bidIsKeyedAfterItsFreeSlots : BidIsKeyedAfterItsFreeSlots := by
  intro e s hheld hcls hd hfree
  have hrun : bidKeyingBoundary s = if e.windowEnded then bidUnsent e s else keyEntry e s := by
    simp only [bidKeyingBoundary, hheld, hd]
    exact if_pos ⟨hcls, trivial, trivial, (channelFree_iff s).2 hfree⟩
  refine ⟨fun hopen => ?_, fun hended hst ho => ?_⟩
  · rw [hopen, if_neg Bool.false_ne_true] at hrun
    exact completes_event hrun rfl (keyedFor_keyEntry e s)
  · rw [hended, if_pos rfl] at hrun
    obtain ⟨hlink, htx, hqueue, htouch⟩ := bidUnsent_spec (b := e) (s := s) ho
    exact completes_event hrun rfl ⟨by simp [hlink, takenOut, hst], by simp [htx, takenOut], onlyTouches_settle
      (((takenOut_touches e s).widen (by simp)).trans (htouch.widen (by simp))), by simpa using hqueue⟩

theorem bidResult_missed (n : Nat) {o : OfferEntry} {u : Nat} (hf : o.bidFrame = some ⟨u, none⟩) (hs : o.state = .bidWait) :
    stopTimers (bidResult n .noLack o)
      = { o with state := .missed, reason := none, bidFrame := none, awardTimer := none, acceptTimer := none } := by
  simp [bidResult, hf, hs, bidResultState, stopTimers]

theorem bidWindowEndsTheBid : BidWindowEndsTheBid := by
  intro id b s hs hb ho
  refine ⟨fun hw => ?_, fun hair => ?_⟩
  · have hrun : bidWindowEnd id s = bidUnsent b s := by
      simp only [bidWindowEnd, hb, running_of_up hs, unkeyed_of (.inl hw), if_true]
    obtain ⟨-, htx, hqueue, htouch⟩ := bidUnsent_spec (b := b) (s := s) ho
    refine completes_event hrun rfl ⟨by simp [htx, takenOut], onlyTouches_settle
      (((takenOut_waiting_touches (by simp [hw]) s).widen (by simp)).trans (htouch.widen (by simp))), by simpa using hqueue,
      fun o hl hf hst hown => ?_⟩
    have hreport : bidUnsent b s = updateOffer o.id (bidResult s.offers.awardTimeout .noLack) (takenOut b s) := by
      rw [bidUnsent, removeUnkeyed_eq]
      exact report_bid .noLack false (by exact hl) (by exact hown) (by simp [hf]) ho
    have hoffers := updateOffer_offers (o := o) (s := takenOut b s) (by exact hl)
      (f := bidResult s.offers.awardTimeout .noLack) (bidResult_missed _ hf hst)
    rw [← hreport] at hoffers
    rw [show (settle (bidUnsent b s)).offers = (bidUnsent b s).offers by simp, hoffers]
    exact List.mem_map.2 ⟨o, hl.1, if_pos rfl⟩
  · have hkeyed : b.unkeyed = false := by
      obtain h | h := hair <;> simp [PendEntry.unkeyed, h]
    have hrun : bidWindowEnd id s = updateEntry b.uid (fun e => { e with windowEnded := true }) s := by
      simp only [bidWindowEnd, hb, running_of_up hs, hkeyed, if_true, Bool.false_eq_true, if_false]
    exact completes_event hrun rfl ⟨by simp [updateEntry, updateWhere],
      onlyTouches_settle ⟨rfl, fun b => by cases b <;> simp [Kept, updateEntry]⟩⟩

/-- Settles O29. -/
theorem bidFollowsItsSlotAndWindow : Obligations.BidFollowsItsSlotAndWindow :=
  ⟨bidIsKeyedAtItsSlot, bidIsKeyedAfterItsFreeSlots, bidWindowEndsTheBid⟩

end Sys2Proof.Claims
end

section
/-! SUPPORT. The link's entry to SILENT (R19, R48, R173). -/

namespace Sys2Proof.Claims

open Sys2Proof.Machine

/-! ## What a result leaves of the queue -/

/-- A result of this entry is not one of the own call. -/
def NotTheCall (e : PendEntry) : Prop := e.owner = .emergencyController → ∃ id : AlarmId, e.ref = .relay id

/-- The queue, the link and the alarm stand. -/
structure QueueStands (s t : State) : Prop where
  queue : t.tx.queue = s.tx.queue
  link : t.link = s.link
  alarm : t.emerg.alarm = s.emerg.alarm

theorem QueueStands.of_touches {may : List Block} {s t : State} (h : OnlyTouches may s t) (hl : .link ∉ may) (ht : .tx ∉ may)
    (he : .emerg ∉ may) : QueueStands s t := by
  have htx : t.tx = s.tx := h.kept ht
  exact ⟨by rw [htx], h.kept hl, (CallKept.of_touches h hl he).alarm⟩

theorem emergencyResult_relay {r : TxResult} {id : AlarmId} (h : r.entry.ref = .relay id) (s : State) :
    emergencyResult r s = dropAged (updateRelay id (relayResult r) s) := by
  simp only [emergencyResult, h]

theorem report_stands {r : TxResult} {s : State} (h : s.emerg.alarm ≠ .clearing ∨ NotTheCall r.entry) :
    QueueStands s (report r s) := by
  unfold report
  split
  next => exact .of_touches (offerResult_touches r s) (by simp) (by simp) (by simp)
  next => exact .of_touches (tripResult_touches r s) (by simp) (by simp) (by simp)
  next => exact ⟨rfl, rfl, rfl⟩
  next howner =>
    obtain h | h := h
    · unfold emergencyResult ownResult
      simp only [h, if_false]
      repeat' split
      all_goals exact ⟨rfl, rfl, rfl⟩
    · obtain ⟨id, hid⟩ := h howner
      rw [emergencyResult_relay hid]
      exact ⟨rfl, rfl, rfl⟩
  next =>
    unfold dataResult
    dsimp only
    split <;> exact ⟨by simp, by simp, by simp⟩
  next => exact ⟨rfl, rfl, rfl⟩

/-- The own call's books stand. -/
structure CallBooks (s t : State) : Prop where
  number : t.emerg.number = s.emerg.number
  ackHeard : t.emerg.ackHeard = s.emerg.ackHeard
  ownEntry : t.emerg.ownEntry = s.emerg.ownEntry

namespace CallBooks

theorem refl (s : State) : CallBooks s s := ⟨rfl, rfl, rfl⟩

theorem trans {s t u : State} (h : CallBooks s t) (k : CallBooks t u) : CallBooks s u :=
  ⟨k.number.trans h.number, k.ackHeard.trans h.ackHeard, k.ownEntry.trans h.ownEntry⟩

theorem of_touches {may : List Block} {s t : State} (h : OnlyTouches may s t) (he : .emerg ∉ may) : CallBooks s t := by
  have hemerg : { t.emerg with lamp := s.emerg.lamp, lampOn := s.emerg.lampOn } = s.emerg := h.kept he
  exact ⟨(congrArg Emerg.number hemerg :), (congrArg Emerg.ackHeard hemerg :), (congrArg Emerg.ownEntry hemerg :)⟩

end CallBooks

theorem report_books {r : TxResult} {s : State} (h : NotTheCall r.entry) : CallBooks s (report r s) := by
  unfold report
  split
  next => exact .of_touches (offerResult_touches r s) (by simp)
  next => exact .of_touches (tripResult_touches r s) (by simp)
  next => exact ⟨rfl, rfl, rfl⟩
  next howner =>
    obtain ⟨id, hid⟩ := h howner
    rw [emergencyResult_relay hid]
    exact ⟨rfl, rfl, rfl⟩
  next => exact .of_touches (dataResult_touches r _ s) (by simp)
  next => exact .refl s

/-! ## Entries removed -/

/-- The link stands, but for an entry that it held for its count. -/
def LinkLeft (s t : State) : Prop := t.link = s.link ∨ t.link = { s.link with side := .idle, deferral := none }

namespace LinkLeft

theorem refl (s : State) : LinkLeft s s := .inl rfl

theorem trans {s t u : State} (h : LinkLeft s t) (k : LinkLeft t u) : LinkLeft s u := by
  obtain h | h := h <;> obtain k | k := k <;> rw [LinkLeft, k, h]
  · exact .inl rfl
  · exact .inr rfl
  · exact .inr rfl
  · exact .inr rfl

theorem aside {s t : State} (h : LinkLeft s t) : LinkAside s t := by
  obtain h | h := h <;> rw [LinkAside, h]

/-- An IDLE link without a count stays so. -/
theorem idle {s t : State} (h : LinkLeft s t) (hi : s.link.side = .idle) (hd : s.link.deferral = none) :
    t.link.side = .idle ∧ t.link.deferral = none := by
  obtain h | h := h <;> rw [h]
  · exact ⟨hi, hd⟩
  · exact ⟨rfl, rfl⟩

end LinkLeft

theorem takenOut_left (b : PendEntry) (s : State) : LinkLeft s (takenOut b s) := by
  rw [LinkLeft, takenOut]
  dsimp only
  split
  · exact .inr rfl
  · exact .inl rfl

theorem foldl_removed {o : TxOutcome} (l : List PendEntry) (s : State)
    (h : ∀ e ∈ l, s.emerg.alarm ≠ .clearing ∨ NotTheCall e) :
    (l.foldl (fun s e => removeUnkeyed e o false s) s).tx.queue =
        s.tx.queue.filter (fun a => l.all fun e => a.uid != e.uid)
      ∧ LinkLeft s (l.foldl (fun s e => removeUnkeyed e o false s) s)
      ∧ (l.foldl (fun s e => removeUnkeyed e o false s) s).emerg.alarm = s.emerg.alarm := by
  induction l generalizing s with
  | nil => exact ⟨(List.filter_eq_self.2 fun a _ => by simp).symm, .refl s, rfl⟩
  | cons e l ih =>
    obtain ⟨hqueue, hlink, halarm⟩ : QueueStands (takenOut e s) (removeUnkeyed e o false s) := by
      rw [removeUnkeyed_eq]
      exact report_stands (h e (by simp))
    have halarm' : (removeUnkeyed e o false s).emerg.alarm = s.emerg.alarm := halarm
    have hleft : LinkLeft s (removeUnkeyed e o false s) := (takenOut_left e s).trans (.inl hlink)
    obtain ⟨hq, hl, ha⟩ := ih (removeUnkeyed e o false s) fun a ha => by
      rw [halarm']
      exact h a (by simp [ha])
    rw [List.foldl_cons]
    refine ⟨?_, hleft.trans hl, ha.trans halarm'⟩
    rw [hq, hqueue]
    simp only [takenOut, List.filter_filter, List.all_cons]
    exact List.filter_congr fun a _ => Bool.and_comm _ _

theorem foldl_removed_books {o : TxOutcome} (l : List PendEntry) (s : State) (h : ∀ e ∈ l, NotTheCall e) :
    CallBooks s (l.foldl (fun s e => removeUnkeyed e o false s) s) := by
  induction l generalizing s with
  | nil => exact .refl s
  | cons e l ih =>
    have hstep : CallBooks s (removeUnkeyed e o false s) := by
      rw [removeUnkeyed_eq]
      exact (CallBooks.of_touches (takenOut_touches e s) (by simp)).trans (report_books (h e (by simp)))
    exact hstep.trans (ih _ fun a ha => h a (by simp [ha]))

/-! ## The queue at the entry to SILENT -/

/-- The classes that leave as the link becomes SILENT (R48). -/
def leavesAtSilent (e : PendEntry) : Bool := e.cls == .bid || e.cls == .beacon || e.cls == .emergencyRelay

theorem leavesAtSilent_iff (e : PendEntry) :
    leavesAtSilent e = false ↔ e.cls ≠ .bid ∧ e.cls ≠ .beacon ∧ e.cls ≠ .emergencyRelay := by
  simp [leavesAtSilent, and_assoc]

/-- No entry of these classes waits. -/
def NoneLeft (q : List PendEntry) : Prop :=
  ∀ e ∈ q, e.state = .waiting ∨ e.state = .deferring → e.cls ≠ .bid ∧ e.cls ≠ .beacon ∧ e.cls ≠ .emergencyRelay

theorem noneLeft_handBack {s : State} (h : NoneLeft s.tx.queue) : NoneLeft (handBackDeferring s).tx.queue := by
  unfold handBackDeferring
  split
  · intro e he hst
    simp only [updateWhere] at he
    obtain ⟨a, ha, rfl⟩ := List.mem_map.1 he
    split at hst
    next hd =>
      rw [if_pos hd]
      exact h a ha (.inr (by simpa using hd))
    next hd =>
      rw [if_neg hd]
      exact h a ha hst
  · exact h

theorem handBackDeferring_mem {e : PendEntry} {s : State} (h : e ∈ s.tx.queue) (hd : e.state ≠ .deferring) :
    e ∈ (handBackDeferring s).tx.queue := by
  unfold handBackDeferring
  split
  · exact List.mem_map.2 ⟨e, h, if_neg (by simpa using hd)⟩
  · exact h

theorem handBackDeferring_left (s : State) : LinkLeft s (handBackDeferring s) := by
  unfold handBackDeferring
  split
  · exact .inr rfl
  · exact .inl rfl

theorem silentQueue_spec {s : State} (h : ∀ e ∈ s.tx.queue, leavesAtSilent e = true → s.emerg.alarm ≠ .clearing ∨ NotTheCall e) :
    LinkLeft s (silentQueue s) ∧ (silentQueue s).emerg.alarm = s.emerg.alarm ∧ NoneLeft (silentQueue s).tx.queue
      ∧ ((s.tx.queue.map (·.uid)).Nodup → ∀ e ∈ s.tx.queue, leavesAtSilent e = false → e.state ≠ .deferring →
        e ∈ (silentQueue s).tx.queue)
      ∧ ((∀ e ∈ s.tx.queue, leavesAtSilent e = true → NotTheCall e) → CallBooks s (silentQueue s)) := by
  have heq : silentQueue s = handBackDeferring ((s.tx.queue.filter fun e => e.unkeyed && leavesAtSilent e).foldl
      (fun s e => removeUnkeyed e .removed false s) s) := rfl
  have hmem : ∀ e, e ∈ s.tx.queue.filter (fun e => e.unkeyed && leavesAtSilent e) ↔
      e ∈ s.tx.queue ∧ e.unkeyed = true ∧ leavesAtSilent e = true := fun e => by
    rw [List.mem_filter, Bool.and_eq_true]
  rw [heq]
  generalize s.tx.queue.filter (fun e => e.unkeyed && leavesAtSilent e) = l at hmem
  obtain ⟨hqueue, hlink, halarm⟩ := foldl_removed (o := .removed) l s fun e he => by
    obtain ⟨hq, -, hl⟩ := (hmem e).1 he
    exact h e hq hl
  refine ⟨hlink.trans (handBackDeferring_left _), (handBackDeferring_call _).alarm.trans halarm, noneLeft_handBack ?_,
    fun hn e he hl hd => handBackDeferring_mem ?_ hd, fun hall => ?_⟩
  · intro e he hst
    rw [hqueue] at he
    obtain ⟨hq, hout⟩ := List.mem_filter.1 he
    rw [← leavesAtSilent_iff]
    by_contra hl
    rw [Bool.not_eq_false] at hl
    have := List.all_eq_true.1 hout e ((hmem e).2 ⟨hq, unkeyed_of hst, hl⟩)
    simp at this
  · rw [hqueue]
    refine List.mem_filter.2 ⟨he, List.all_eq_true.2 fun a ha => ?_⟩
    obtain ⟨hq, -, hla⟩ := (hmem a).1 ha
    simp only [bne_iff_ne, ne_eq]
    intro hid
    rw [List.inj_on_of_nodup_map hn he hq hid, hla] at hl
    cases hl
  · have hcall := foldl_removed_books (o := .removed) l s fun e he => by
      obtain ⟨hq, -, hl⟩ := (hmem e).1 he
      exact hall e hq hl
    refine hcall.trans ?_
    unfold handBackDeferring
    split <;> exact ⟨rfl, rfl, rfl⟩

/-! ## SILENT entered -/

theorem evaluateLink_silent {s : State} (hsfc : 256 ≤ s.link.sfc) (hs : s.link.state ≠ .silent) (hr : s.link.state ≠ .recovering) :
    evaluateLink s = enterSilent s := by
  have hmute : s.link.state.mute = false := by simp [LinkState.mute, hs, hr]
  have hnamed : namedLink s.link.sfc s.link.hfc = .silent := if_pos hsfc
  simp only [evaluateLink, hmute, hnamed, if_neg (Ne.symm hs), Bool.false_eq_true, if_false]

theorem setLink_emerg (l : LinkState) (s : State) : (setLink l s).emerg = s.emerg := by
  unfold setLink
  split <;> simp

theorem setLink_tx (l : LinkState) (s : State) : (setLink l s).tx = s.tx :=
  (setLink_touches l s).kept (b := .tx) (by simp)

/-- The link goes on from SILENT to RECOVERING while an alarm stands. -/
theorem alarmAtSilent_spec {s : State} (h : s.emerg.alarm ≠ .quiet) :
    (alarmAtSilent s).link = { s.link with state := .recovering, quietSpans := 0, partialSpan := 0 }
      ∧ (alarmAtSilent s).tx = s.tx
      ∧ (alarmAtSilent s).emerg.alarm = (if s.emerg.alarm = .clearing then .clearing else .held)
      ∧ (s.emerg.alarm = .open ∨ s.emerg.alarm = .acknowledged → (alarmAtSilent s).emerg.repeatTimer = none)
      ∧ CallBooks s (alarmAtSilent s) := by
  have hlink := enterRecovering_link s
  have hemerg : (enterRecovering s).emerg = s.emerg := setLink_emerg _ _
  have htx : (enterRecovering s).tx = s.tx := setLink_tx _ _
  have hheld : ∀ u : State, (setAlarm .held u).link = u.link ∧ (setAlarm .held u).tx = u.tx
      ∧ (setAlarm .held u).emerg = { u.emerg with alarm := .held } := fun u =>
    ⟨setAlarm_link _ u, (setAlarm_touches _ u).kept (b := .tx) (by simp), setAlarm_emerg _ u⟩
  unfold alarmAtSilent
  cases ha : s.emerg.alarm with
  | quiet => exact absurd ha h
  | held => exact ⟨hlink, htx, by simp [hemerg, ha], by simp, by rw [hemerg], by rw [hemerg], by rw [hemerg]⟩
  | clearing => exact ⟨hlink, htx, by simp [hemerg, ha], by simp, by rw [hemerg], by rw [hemerg], by rw [hemerg]⟩
  | _ => -- OPEN and ACKNOWLEDGED: the call is held
    obtain ⟨hl, ht, he⟩ := hheld { enterRecovering s with emerg.repeatTimer := none }
    exact ⟨hl.trans hlink, ht.trans htx, by simp [he], fun _ => by simp [he],
      by rw [he]; exact (congrArg Emerg.number hemerg :), by rw [he]; exact (congrArg Emerg.ackHeard hemerg :),
      by rw [he]; exact (congrArg Emerg.ownEntry hemerg :)⟩

theorem alarmAtSilent_quiet {s : State} (h : s.emerg.alarm = .quiet) : alarmAtSilent s = s := by
  simp only [alarmAtSilent, h]

/-- SILENT entered with an alarm standing, whatever else the queue holds (R19, R48, R173). -/
theorem enterSilent_alarm {s : State} (ha : s.emerg.alarm ≠ .quiet) (hn : (s.tx.queue.map (·.uid)).Nodup)
    (ho : OwnedByTheirBlocks s) :
    (enterSilent s).link.state = .recovering ∧ (enterSilent s).link.quietSpans = 0 ∧ (enterSilent s).link.partialSpan = 0
      ∧ (enterSilent s).link.sfc = s.link.sfc ∧ (enterSilent s).link.lastFault = s.link.lastFault
      ∧ (s.link.side = .idle → s.link.deferral = none →
        (enterSilent s).link.side = .idle ∧ (enterSilent s).link.deferral = none)
      ∧ (enterSilent s).emerg.alarm = (if s.emerg.alarm = .clearing then .clearing else .held)
      ∧ (s.emerg.alarm = .open ∨ s.emerg.alarm = .acknowledged → (enterSilent s).emerg.repeatTimer = none)
      ∧ CallBooks s (enterSilent s) ∧ NoneLeft (enterSilent s).tx.queue
      ∧ ∀ e ∈ s.tx.queue, leavesAtSilent e = false → e.state ≠ .deferring → e ∈ (enterSilent s).tx.queue := by
  have hlink := setLink_link .silent s
  have hemerg := setLink_emerg .silent s
  have htx := setLink_tx .silent s
  have hcalls : ∀ e ∈ (setLink .silent s).tx.queue, leavesAtSilent e = true → NotTheCall e := by
    intro e he hl howner
    rw [htx] at he
    obtain ⟨hbid, hbeacon, hrelay⟩ := ho e he
    simp only [leavesAtSilent, Bool.or_eq_true, beq_iff_eq] at hl
    obtain (h | h) | h := hl
    · rw [hbid h] at howner
      cases howner
    · rw [hbeacon h] at howner
      cases howner
    · exact (hrelay h).2
  obtain ⟨hleft, halarm, hnone, hstay, hbooks⟩ := silentQueue_spec (s := setLink .silent s) fun e he hl => .inr (hcalls e he hl)
  have hquiet : (silentQueue (setLink .silent s)).emerg.alarm ≠ .quiet := by rwa [halarm, hemerg]
  have hend : enterSilent s = alarmAtSilent (silentQueue (setLink .silent s)) := rfl
  have hside := fun (hi : s.link.side = .idle) (hd : s.link.deferral = none) =>
    hleft.idle (by rw [hlink]; exact hi) (by rw [hlink]; exact hd)
  have haside := hleft.aside
  have hbooks' := hbooks hcalls
  rw [hend]
  generalize silentQueue (setLink .silent s) = v at *
  obtain ⟨hvlink, hvtx, hvalarm, hrepeat, hvbooks⟩ := alarmAtSilent_spec hquiet
  rw [LinkAside, hlink] at haside
  rw [hemerg] at halarm
  have hset : CallBooks s (setLink .silent s) := ⟨by rw [hemerg], by rw [hemerg], by rw [hemerg]⟩
  refine ⟨by rw [hvlink], by rw [hvlink], by rw [hvlink], by rw [hvlink]; exact (congrArg Link.sfc haside :),
    by rw [hvlink]; exact (congrArg Link.lastFault haside :), fun hi hd => by rw [hvlink]; exact hside hi hd,
    by rw [hvalarm, halarm], fun h => hrepeat (by rwa [halarm]), (hset.trans hbooks').trans hvbooks, by rw [hvtx]; exact hnone,
    fun e he hl hd => ?_⟩
  rw [hvtx]
  rw [htx] at hstay
  exact hstay hn e he hl hd

/-- SILENT entered with no alarm (R19, R48). -/
theorem enterSilent_quiet {s : State} (ha : s.emerg.alarm = .quiet) :
    (enterSilent s).link.state = .silent ∧ (enterSilent s).link.sfc = s.link.sfc
      ∧ (enterSilent s).link.lastFault = s.link.lastFault ∧ NoneLeft (enterSilent s).tx.queue := by
  have hlink := setLink_link .silent s
  have hemerg := setLink_emerg .silent s
  obtain ⟨hleft, halarm, hnone, -, -⟩ := silentQueue_spec (s := setLink .silent s) fun _ _ _ => .inl (by simp [hemerg, ha])
  have haside := hleft.aside
  have hend : enterSilent s = alarmAtSilent (silentQueue (setLink .silent s)) := rfl
  rw [alarmAtSilent_quiet (by rw [halarm, hemerg, ha])] at hend
  rw [hend]
  generalize silentQueue (setLink .silent s) = v at *
  rw [LinkAside, hlink] at haside
  exact ⟨(congrArg Link.state haside :), (congrArg Link.sfc haside :), (congrArg Link.lastFault haside :), hnone⟩

end Sys2Proof.Claims
end

section
/-! SUPPORT. KEYING_FAULT and END_OF_AIRTIME (R3, R8, R11, R15, R16, R19, R173). -/

namespace Sys2Proof.Claims

open Sys2Proof.Machine

/-! ## A keying fault -/

/-- A keying fault counted, before the link is evaluated. -/
def faultCounted (s : State) : State :=
  { s with link := { s.link with keyFault := true, sfc := min 256 (s.link.sfc + 8), lastFault := .keying } }

theorem keyingFault_counted {s : State} (hs : Up s) (hk : s.link.keyed = true) (hf : s.link.keyFault = false)
    (hr : s.link.runOff = none) : keyingFault s = evaluateLink (faultCounted s) := by
  rw [keyingFault, if_pos ⟨hk, hf⟩]
  exact if_pos ⟨hr, running_of_up hs⟩

theorem keyingFaultIsCountedOnce : KeyingFaultIsCountedOnce := by
  intro s hs hk
  refine ⟨fun hf hr hsteady => ?_, fun hf => ?_, fun l hf hr hm => ?_, fun hf hr hsfc hsilent hrec ha => ?_⟩
  · have hrun := keyingFault_counted hs hk hf hr
    rw [evaluateLink_steady (by exact hsteady)] at hrun
    exact completes_link (congrArg (fun u => Host.Outcome.next (settle u)) hrun)
  · have hrun : keyingFault s = s := if_neg (by simp [hf])
    exact completes_nothing (congrArg (fun u => Host.Outcome.next (settle u)) hrun)
  · have hmoves := evaluateLink_moves (s := faultCounted s) hm
    exact completes_event (keyingFault_counted hs hk hf hr) rfl (linkMovesTo_settle hmoves rfl
      (congrArg (fun k => { evaluateLink (faultCounted s) with link := k }) hmoves.1))
  · have hrun := keyingFault_counted hs hk hf hr
    have hmin : min 256 (s.link.sfc + 8) = 256 := by omega
    rw [evaluateLink_silent (s := faultCounted s) (by rw [← hmin]; exact Nat.le_refl _) hsilent hrec] at hrun
    obtain ⟨hstate, hs', hfault, hnone⟩ := enterSilent_quiet (s := faultCounted s) ha
    exact completes_event hrun rfl ⟨by simpa using hs'.trans hmin, by simpa using hstate,
      by simpa [faultCounted] using hfault,
      by simpa [NoneLeft] using hnone⟩

theorem runOffFaultIsKept : RunOffFaultIsKept := by
  intro s hk hf hr
  have hrun : keyingFault s = { s with link := { s.link with keyFault := true, lastFault := .keying } } := by
    rw [keyingFault, if_pos ⟨hk, hf⟩]
    exact if_neg fun h => hr h.1
  exact completes_link (congrArg (fun u => Host.Outcome.next (settle u)) hrun)

/-! ## SILENT with an alarm -/

/-- The alarm and the queue as SILENT is entered from a state with the same alarm and own calls. -/
theorem alarmHeldAtSilent_of {s v t : State} (hs : 248 ≤ s.link.sfc) (hsfc : v.link.sfc = min 256 (s.link.sfc + 8))
    (he : v.emerg = s.emerg) (ha : s.emerg.alarm ≠ .quiet) (hn : (v.tx.queue.map (·.uid)).Nodup)
    (ho : OwnedByTheirBlocks v) (hcall : ∀ e ∈ s.tx.queue, e.cls = .emergencyOrigin → e ∈ v.tx.queue)
    (hl : t.link = (enterSilent v).link) (hx : t.tx.queue = (enterSilent v).tx.queue)
    (ht : t.emerg.alarm = (enterSilent v).emerg.alarm ∧ t.emerg.repeatTimer = (enterSilent v).emerg.repeatTimer
      ∧ CallBooks (enterSilent v) t) : AlarmHeldAtSilent s t := by
  obtain ⟨hstate, hspans, hpartial, hvsfc, -, -, halarm, hrepeat, hbooks, hnone, hstay⟩ :=
    enterSilent_alarm (s := v) (by rwa [he]) hn ho
  obtain ⟨htalarm, htrepeat, htbooks⟩ := ht
  have hall := hbooks.trans htbooks
  rw [he] at halarm hrepeat
  refine ⟨by rw [hl, hstate], by rw [hl, hvsfc, hsfc]; omega, by rw [hl, hspans], by rw [hl, hpartial], by rw [htalarm, halarm],
    fun h => by rw [htrepeat, hrepeat h], by rw [hall.number, he], by rw [hall.ackHeard, he], by rw [hall.ownEntry, he],
    by rw [hx]; exact hnone, fun e hmem hc hst => ?_⟩
  rw [hx]
  exact hstay e (hcall e hmem hc) (by simp [leavesAtSilent, hc]) (by obtain h | h := hst <;> simp [h])

theorem callBooks_settle (s : State) : CallBooks s (settle s) := ⟨by simp, by simp, by simp⟩

/-- A unicast attempt that failed and is made again. -/
def triedAgain (e : PendEntry) (s : State) : State :=
  updateEntry e.uid (fun a => { a with attempts := e.attempts + 1, state := .waiting }) s

theorem attemptFailed_again {e : PendEntry} (s : State) (hr : e.state ≠ .retractPending) (hw : e.windowEnded = false)
    (ha : e.attempts < 3) : attemptFailed e s = triedAgain e s := by
  have hmax : ¬ (Config.maxAttempts ≤ e.attempts + 1 ∨ e.windowEnded = true) := by
    simp [Config.maxAttempts, hw]
    omega
  simp only [attemptFailed, if_neg hr, if_neg hmax]
  rfl

/-- The attempt decided without a LACK, before the link is evaluated. -/
def unlacked (s : State) : State :=
  { s with link := { s.link with
      side := .idle, deferral := none, lackHeard := false, decisionWaits := false, gap := none,
      sfc := min 256 (s.link.sfc + 8), lastFault := .noLack } }

theorem decideAttempt_unlacked {e : PendEntry} {s : State} (hheld : heldEntry s = some e) (hl : s.link.lackHeard = false)
    (hg : s.link.gap = none) : decideAttempt s = evaluateLink (attemptFailed e (unlacked s)) := by
  have hset : setFault .noLack { goIdle s with link.sfc := sfcRise s.link.sfc } = unlacked s := by
    rw [unlacked, ← hg]
    rfl
  simp only [decideAttempt, hheld, hl, Bool.false_eq_true, if_false]
  exact congrArg (fun u => evaluateLink (attemptFailed e u)) hset

theorem ackGapCloses_free {s : State} (hs : Up s) (hside : s.link.side = .ackWait) (hg : s.link.gap = some .ownAck)
    (hc : s.link.carrier = false) :
    ackGapCloses s = channelBecomesFree (decideAttempt { s with link := { s.link with gap := none } }) := by
  rw [ackGapCloses, if_pos ⟨hside, hg, running_of_up hs⟩]
  exact if_neg (by simp [hc])

theorem ackGapCloses_unlacked {e : PendEntry} {s : State} (hs : Up s) (hside : s.link.side = .ackWait)
    (hg : s.link.gap = some .ownAck) (hc : s.link.carrier = false) (hl : s.link.lackHeard = false)
    (hheld : heldEntry s = some e) :
    ackGapCloses s = channelBecomesFree (evaluateLink (attemptFailed e (unlacked s))) := by
  rw [ackGapCloses_free hs hside hg hc, decideAttempt_unlacked (e := e) (by exact hheld) (by exact hl) rfl]
  rfl

theorem heldEntry_mem {e : PendEntry} {s : State} (h : heldEntry s = some e) : e ∈ s.tx.queue := List.mem_of_find?_eq_some h

theorem triedAgain_uids (e : PendEntry) (s : State) : (triedAgain e s).tx.queue.map (·.uid) = s.tx.queue.map (·.uid) := by
  simp only [triedAgain, updateEntry, updateWhere, List.map_map]
  refine List.map_congr_left fun a _ => ?_
  simp only [Function.comp_apply]
  split <;> rfl

theorem silenceHoldsTheAlarm : SilenceHoldsTheAlarm := by
  intro s hs hsfc hsilent hrec ha hn ho
  refine ⟨fun hk hf hr => ?_, fun e hside hg hc hl hheld hst hcls hatt hw => ?_⟩
  · have hrun := keyingFault_counted hs hk hf hr
    have hmin : min 256 (s.link.sfc + 8) = 256 := by omega
    rw [evaluateLink_silent (s := faultCounted s) (by rw [← hmin]; exact Nat.le_refl _) hsilent hrec] at hrun
    obtain ⟨-, -, -, -, hfault, -⟩ := enterSilent_alarm (s := faultCounted s) ha hn ho
    exact completes_event hrun rfl ⟨alarmHeldAtSilent_of (v := faultCounted s) hsfc rfl rfl ha hn ho (fun e he _ => he)
      (by simp) (by simp) ⟨by simp, by simp, callBooks_settle _⟩, by simpa [faultCounted] using hfault⟩
  · have hrun := ackGapCloses_unlacked hs hside hg hc hl hheld
    rw [attemptFailed_again _ (by simp [hst]) hw hatt] at hrun
    have hmin : min 256 (s.link.sfc + 8) = 256 := by omega
    have hmem := heldEntry_mem hheld
    generalize hv : triedAgain e (unlacked s) = v at *
    have hvlink : v.link = (unlacked s).link := by rw [← hv]; rfl
    have hvemerg : v.emerg = s.emerg := by rw [← hv]; rfl
    have hvqueue : v.tx.queue = s.tx.queue.map fun a =>
        if a.uid = e.uid then { a with attempts := e.attempts + 1, state := .waiting } else a := by
      simp [← hv, triedAgain, updateEntry, updateWhere, unlacked]
    have hvn : (v.tx.queue.map (·.uid)).Nodup := by
      rw [← hv, triedAgain_uids]
      exact hn
    have hvo : OwnedByTheirBlocks v := by
      intro b hb
      rw [hvqueue] at hb
      obtain ⟨a, hmema, rfl⟩ := List.mem_map.1 hb
      have := ho a hmema
      split <;> exact this
    have hcalls : ∀ b ∈ s.tx.queue, b.cls = .emergencyOrigin → b ∈ v.tx.queue := by
      intro b hb hbc
      rw [hvqueue]
      refine List.mem_map.2 ⟨b, hb, if_neg fun huid => ?_⟩
      rw [List.inj_on_of_nodup_map hn hb hmem huid] at hbc
      obtain h | h := hcls <;> rw [h] at hbc <;> cases hbc
    rw [evaluateLink_silent (s := v) (by rw [hvlink]; change 256 ≤ min 256 (s.link.sfc + 8); omega) (by rw [hvlink]; exact hsilent)
      (by rw [hvlink]; exact hrec)] at hrun
    obtain ⟨hstate, -, -, -, hfault, hidle, -, -, -, -, hstay⟩ := enterSilent_alarm (s := v) (by rwa [hvemerg]) hvn hvo
    obtain ⟨hsideidle, hnodef⟩ := hidle (by rw [hvlink]; rfl) (by rw [hvlink]; rfl)
    have hfree : channelBecomesFree (enterSilent v) = enterSilent v := by
      have hmute : canPresent (enterSilent v) = false := by simp [canPresent, hstate, LinkState.mute]
      simp [channelBecomesFree, hnodef, accessOpportunity, hmute]
    rw [hfree] at hrun
    refine completes_event hrun rfl ⟨alarmHeldAtSilent_of (v := v) hsfc (by rw [hvlink]; rfl) hvemerg ha hvn hvo hcalls
      (by simp) (by simp) ⟨by simp, by simp, callBooks_settle _⟩, by simpa [unlacked] using hfault.trans (congrArg Link.lastFault hvlink), by simpa using hsideidle, ?_⟩
    simp only [settle_keeps]
    refine hstay _ ?_ ?_ (by simp)
    · rw [hvqueue]
      exact List.mem_map.2 ⟨e, hmem, if_pos rfl⟩
    · obtain h | h := hcls <;> simp [leavesAtSilent, h]

/-! ## The end of the airtime -/

theorem airtimeEndStartsTheGap : AirtimeEndStartsTheGap := by
  intro e s hk hr hside hheld
  have hheld' : heldEntry (unkey s) = some e := hheld
  have hend : endOfAirtime s =
      if s.link.keyFault then faultedEnds e { goIdle (unkey s) with link := { (goIdle (unkey s)).link with
        gap := some (ownGap e), keyFault := false } }
      else if e.needsLack then
        updateEntry e.uid (fun e => { e with state := if e.state = .onAir then .awaitLack else e.state })
          { unkey s with link := { (unkey s).link with side := .ackWait, gap := some .ownAck } }
      else { unkey s with link := { (unkey s).link with gap := some .ownIdle } } := by
    have hr' : (unkey s).link.runOff = none := hr
    have hside' : (unkey s).link.side = .onAir := hside
    simp only [endOfAirtime, hk, hr', hside', hheld', Bool.true_eq_false, if_false, if_true]
    rfl
  refine ⟨fun hf hn hst => ?_, fun hf hn => ?_, fun hf hu hc hst hw ha => ?_⟩
  · rw [hf, if_neg Bool.false_ne_true, if_pos hn] at hend
    exact completes_event hend rfl ⟨by simp [updateEntry, unkey], by simp [updateEntry, updateWhere, unkey],
      onlyTouches_settle ⟨rfl, fun b => by cases b <;> simp [Kept, updateEntry, unkey]⟩⟩
  · rw [hf, if_neg Bool.false_ne_true, hn, if_neg Bool.false_ne_true] at hend
    exact completes_link (congrArg (fun u => Host.Outcome.next (settle u)) hend)
  · rw [hf, if_pos rfl, faultedEnds, if_pos hu, if_neg fun h => hc h.1, attemptFailed_again _ (by simp [hst]) hw ha] at hend
    exact completes_event hend rfl ⟨by simp [triedAgain, updateEntry, goIdle, unkey, ownGap],
      by simp [triedAgain, updateEntry, updateWhere, goIdle, unkey],
      onlyTouches_settle ⟨rfl, fun b => by cases b <;> simp [Kept, triedAgain, updateEntry, goIdle, unkey]⟩⟩

/-- Settles O30. -/
theorem keyedFrameEndsInItsGap : Obligations.KeyedFrameEndsInItsGap :=
  ⟨keyingFaultIsCountedOnce, silenceHoldsTheAlarm, runOffFaultIsKept, airtimeEndStartsTheGap⟩

end Sys2Proof.Claims
end

section
/-! SUPPORT. The end of an exchange: its entry leaves, and the channel becomes free (R8, R12, R13, R46). -/

namespace Sys2Proof.Claims

open Sys2Proof.Machine

/-! ## What the channel leaves of the queue as it becomes free -/

theorem channelBecomesFree_resting (s : State) : (channelBecomesFree s).tx.queue.map resting = s.tx.queue.map resting := by
  unfold channelBecomesFree
  repeat' split
  · rfl
  · exact accessOpportunity_resting true s
  · rfl

/-- What the transmit block holds besides its queue. -/
def TxAside (s t : State) : Prop := t.tx = { s.tx with queue := t.tx.queue }

theorem TxAside.of_tx {s t : State} (h : t.tx = s.tx) : TxAside s t := by
  rw [TxAside, h]

theorem present_txAside (e : PendEntry) (b : Bool) (s : State) : TxAside s (present e b s) := by
  unfold present
  split <;> rfl

theorem channelBecomesFree_txAside (s : State) : TxAside s (channelBecomesFree s) := by
  unfold channelBecomesFree accessOpportunity
  repeat' split
  · rfl
  · exact present_txAside _ _ s
  · rfl
  · rfl
  · rfl

/-- An entry that is in neither queue but for its state. -/
theorem uid_absent_of_resting {u : Nat} {q r : List PendEntry} (h : q.map resting = r.map resting) (hr : ∀ a ∈ r, a.uid ≠ u) :
    ∀ a ∈ q, a.uid ≠ u := by
  intro a ha
  have huids : q.map (·.uid) = r.map (·.uid) := map_resting (fun _ => rfl) h
  have hmem : a.uid ∈ r.map (·.uid) := huids ▸ List.mem_map_of_mem ha
  obtain ⟨b, hb, hbu⟩ := List.mem_map.1 hmem
  exact hbu ▸ hr b hb

/-- An entry of a queue stands in another that is the same but for the states. -/
theorem mem_of_resting {q r : List PendEntry} {a : PendEntry} (h : q.map resting = r.map resting) (ha : a ∈ r) :
    ∃ b ∈ q, resting b = resting a := by
  have hmem : resting a ∈ q.map resting := h ▸ List.mem_map_of_mem ha
  obtain ⟨b, hb, hba⟩ := List.mem_map.1 hmem
  exact ⟨b, hb, hba⟩

/-! ## The exchange's end -/

/-- The link as an attempt is decided (R12, R16, R21). -/
def decided (lack : Bool) (s : State) : State :=
  { s with link := { s.link with
      side := .idle, deferral := none, lackHeard := false, decisionWaits := false, gap := none
      sfc := if lack then s.link.sfc - 1 else min 256 (s.link.sfc + 8)
      lastFault := if lack then .none else .noLack } }

/-- An entry after one attempt more. -/
def attempted (e : PendEntry) : PendEntry := { e with attempts := e.attempts + 1 }

/-- The entry out of the queue with its result. -/
def exchanged (e : PendEntry) (o : TxOutcome) (s : State) : State :=
  report ⟨attempted e, o, e.state == .retractPending⟩ (dequeue e.uid s)

theorem attemptDone_eq (e : PendEntry) (o : TxOutcome) (s : State) : attemptDone e o s = exchanged e o s := rfl

theorem attemptFailed_ends {e : PendEntry} (s : State) (h : e.attempts = 3 ∨ e.windowEnded = true ∨ e.state = .retractPending) :
    attemptFailed e s = exchanged e .noLack s := by
  by_cases hr : e.state = .retractPending
  · have hb : (e.state == .retractPending) = true := by simpa using hr
    refine (if_pos hr).trans ?_
    rw [exchanged, hb]
    rfl
  · have hmax : Config.maxAttempts ≤ e.attempts + 1 ∨ e.windowEnded = true := by
      obtain h | h | h := h
      · exact .inl (by simp [Config.maxAttempts, h])
      · exact .inr h
      · exact absurd h hr
    have hb : (e.state == .retractPending) = false := by simpa using hr
    simp only [attemptFailed, if_neg hr, if_pos hmax, exchanged, hb]
    rfl

theorem decideAttempt_decides {e : PendEntry} {lack : Bool} {s : State} (hheld : heldEntry s = some e)
    (hl : s.link.lackHeard = lack) (hg : s.link.gap = none)
    (h : lack = true ∨ e.attempts = 3 ∨ e.windowEnded = true ∨ e.state = .retractPending) :
    decideAttempt s = evaluateLink (exchanged e (if lack then .delivered else .noLack) (decided lack s)) := by
  cases lack with
  | false =>
    have hset : unlacked s = decided false s := by simp [unlacked, decided]
    rw [decideAttempt_unlacked hheld hl hg, attemptFailed_ends _ (h.resolve_left Bool.false_ne_true), hset]
    rfl
  | true =>
    have hset : setFault .none { goIdle s with link.sfc := sfcDrop s.link.sfc } = decided true s := by
      simp [setFault, goIdle, decided, sfcDrop, hg]
    simp only [decideAttempt, hheld, hl, if_true]
    exact congrArg (fun u => evaluateLink (attemptDone e .delivered u)) hset

theorem notTheCall_of_owner {e : PendEntry} (h : e.owner ≠ .emergencyController) : NotTheCall e := fun h' => absurd h' h

theorem exchanged_stands {e : PendEntry} {o : TxOutcome} {s : State} (h : NotTheCall e) :
    QueueStands (dequeue e.uid s) (exchanged e o s) := report_stands (.inr h)

/-- What is left of the part as the own ack gap closes and ends an exchange: the result is reported, and the channel is free. -/
theorem ackGapCloses_ends {e : PendEntry} {lack : Bool} {s : State} (h : ExchangeEnds e lack s) (hc : NotTheCall e) :
    ackGapCloses s = channelBecomesFree (exchanged e (if lack then .delivered else .noLack) (decided lack s)) := by
  obtain ⟨hs, hside, hg, hcar, hl, hheld, hsteady, hend⟩ := h
  have hlink := (exchanged_stands (o := if lack then .delivered else .noLack) (s := decided lack s) hc).link
  rw [ackGapCloses_free hs hside hg hcar, decideAttempt_decides (e := e) (lack := lack) (by exact hheld) (by exact hl) rfl hend]
  have hsame : decided lack { s with link := { s.link with gap := none } } = decided lack s := rfl
  rw [hsame, evaluateLink_steady]
  rw [hlink]
  exact hsteady

/-- The state after an exchange, against the state with its result reported. -/
structure EndsAs (u t : State) : Prop where
  aside : LinkAside u t
  resting : t.tx.queue.map resting = u.tx.queue.map resting
  tx : TxAside u t
  touches : OnlyTouches [.link, .tx] u t

theorem endsAs_channelBecomesFree (u : State) : EndsAs u (settle (channelBecomesFree u)) := by
  refine ⟨?_, by simpa using channelBecomesFree_resting u, ?_, onlyTouches_settle (channelBecomesFree_touches u)⟩
  · simpa [LinkAside] using channelBecomesFree_aside u
  · simpa [TxAside] using channelBecomesFree_txAside u

/-- The exchange's end by the result reported: what the link and the queue hold afterwards. -/
theorem exchange_completes {e : PendEntry} {lack : Bool} {s : State} {P : State → Prop} (h : ExchangeEnds e lack s)
    (hc : NotTheCall e)
    (hp : ∀ u t, u = exchanged e (if lack then .delivered else .noLack) (decided lack s) → EndsAs u t →
      ExchangeOver e lack s t → P t) : Completes .ackGapCloses s P := by
  have hrun := ackGapCloses_ends h hc
  obtain ⟨hqueue, hlink, -⟩ := exchanged_stands (o := if lack then .delivered else .noLack) (s := decided lack s) hc
  generalize hu : exchanged e (if lack then .delivered else .noLack) (decided lack s) = u at *
  refine completes_event hrun rfl (hp u _ rfl (endsAs_channelBecomesFree u) ?_)
  obtain ⟨haside, hresting, -, -⟩ := endsAs_channelBecomesFree u
  rw [LinkAside, hlink] at haside
  refine ⟨(congrArg Link.sfc haside :), (congrArg Link.hfc haside :), (congrArg Link.lastFault haside :),
    (congrArg Link.gap haside :), (congrArg Link.lackHeard haside :), uid_absent_of_resting hresting fun a ha => ?_⟩
  rw [hqueue] at ha
  simpa using (List.mem_filter.1 ha).2

theorem EndsAs.of_touches {may more : List Block} {e : PendEntry} {lack : Bool} {s u t : State} (h : EndsAs u t)
    (hu : OnlyTouches may (dequeue e.uid (decided lack s)) u) (hm : .link ∈ more ∧ .tx ∈ more ∧ ∀ b ∈ may, b ∈ more) :
    OnlyTouches more s t := by
  obtain ⟨hl, ht, hmay⟩ := hm
  have hdec : OnlyTouches [.link, .tx] s (dequeue e.uid (decided lack s)) :=
    ⟨rfl, fun b => by cases b <;> simp [Kept, dequeue, decided]⟩
  have hwide : ∀ b ∈ ([.link, .tx] : List Block), b ∈ more := by simp [hl, ht]
  exact (hdec.widen hwide).trans ((hu.widen hmay).trans (h.touches.widen hwide))

end Sys2Proof.Claims
end

section
/-! SUPPORT. LACK, ACK_GAP_CLOSES and IDLE_GAP_CLOSES of host data (R7, R8, R12, R13, R44, R57). -/

namespace Sys2Proof.Claims

open Sys2Proof.Machine

/-! ## A frame heard with a passing check -/

/-- A carrier that the part hears out: the frame is heard, taken, and its carrier ends. -/
theorem arrive_up {k : FrameKind} {f : RxFrame} {s : State} (hs : Up s) (hk : s.link.keyed = false)
    (hc : s.link.carrier = true) :
    arrive k f s = endOfFrame k f (takeFrame k f (hearPass s)).2 (takeFrame k f (hearPass s)).1 := by
  simp [arrive, hk, running_of_up hs, ensureCarrier_heard hc]

/-- The hear count lowered, the link as it was. -/
def heardWell (s : State) : State := { s with link := { s.link with hfc := s.link.hfc - 1 } }

theorem hearPass_eq (s : State) : hearPass s = evaluateLink (heardWell s) := rfl

theorem hearPass_steady {s : State} (h : Steady s.link.sfc (s.link.hfc - 1) s.link.state) : hearPass s = heardWell s :=
  evaluateLink_steady (by exact h)

theorem lackMatches_iff {e : PendEntry} {f : RxFrame} {s : State} (hheld : heldEntry s = some e)
    (hside : s.link.side = .ackWait) :
    lackMatches f s = decide (s.link.station = some f.dest ∧ f.source = e.dest ∧ f.payload = [byteOf (e.seq.getD 0)]) := by
  rw [Bool.eq_iff_iff]
  simp [lackMatches, hheld, hside, and_assoc]

theorem lackIsUsedInTheAckGap : LackIsUsedInTheAckGap := by
  intro e f s hs hk hc hgap hd hside hg hheld hsteady hn
  have hmatch : lackMatches f (heardWell s) = _ := lackMatches_iff (s := heardWell s) hheld hside
  have hlack : useLack f (heardWell s) = { heardWell s with link := { (heardWell s).link with
      lackHeard := s.link.lackHeard || decide (s.link.station = some f.dest ∧ f.source = e.dest
        ∧ f.payload = [byteOf (e.seq.getD 0)]) } } := by
    rw [useLack, hmatch]
    by_cases h : s.link.station = some f.dest ∧ f.source = e.dest ∧ f.payload = [byteOf (e.seq.getD 0)]
    · simp [heardWell, h]
    · simp [heardWell, h]
  have hrun := arrive_up (k := .lack) (f := f) hs hk hc
  rw [hearPass_steady hsteady] at hrun
  simp only [takeFrame, if_true, hlack, endOfFrame, Verdict.acked, Bool.and_false, Bool.false_and, hn, Bool.false_eq_true,
    if_false] at hrun
  rw [gapAfter] at hrun
  simp only [heardWell, hgap, if_true] at hrun
  rw [afterCarrier_gap (g := .ownAck) (by exact hd) (by exact hg)] at hrun
  exact completes_link (congrArg (fun u => Host.Outcome.next (settle u)) hrun)

/-! ## The result of host data -/

/-- The outcome of host data, while the list has place (R57). -/
theorem exchanged_data {e : PendEntry} {o : TxOutcome} {s : State} (ho : e.owner = .terminalPort)
    (hs : e.state ≠ .retractPending) (hl : s.tx.outcomes.length < 16) :
    exchanged e o s = raise .sendOutcome .outcomes { dequeue e.uid s with tx := { (dequeue e.uid s).tx with
      outcomes := s.tx.outcomes ++ [⟨e.tag.getD 0, o, e.attempts + 1, false⟩] } } := by
  have hb : (e.state == .retractPending) = false := by simpa using hs
  have hlen : (dequeue e.uid s).tx.outcomes.length < Config.outcomeCapacity := hl
  rw [exchanged, hb]
  simp only [report, attempted, ho, dataResult, if_pos hlen]
  rfl

theorem exchanged_data_touches {e : PendEntry} {o : TxOutcome} {s : State} (ho : e.owner = .terminalPort) :
    OnlyTouches [.tx, .port] (dequeue e.uid s) (exchanged e o s) := by
  have h : exchanged e o s = dataResult ⟨attempted e, o, e.state == .retractPending⟩ (attempted e).attempts (dequeue e.uid s) := by
    simp only [exchanged, report, attempted, ho]
  rw [h]
  exact dataResult_touches _ _ _

/-- An entry that waits is presented or waits on as the channel becomes free. -/
theorem channelBecomesFree_waits {a : PendEntry} {s : State} (ha : a ∈ s.tx.queue) :
    ∃ b ∈ (channelBecomesFree s).tx.queue, b = a ∨ b = { a with state := .deferring } := by
  have hpresent : ∀ (e : PendEntry) (g : Bool), ∃ b ∈ (present e g s).tx.queue, b = a ∨ b = { a with state := .deferring } := by
    intro e g
    obtain ⟨⟨-, hq⟩, -⟩ := presented_present e g s
    rw [hq]
    refine ⟨_, List.mem_map_of_mem ha, ?_⟩
    split
    · exact .inr rfl
    · exact .inl rfl
  unfold channelBecomesFree accessOpportunity
  repeat' split
  · exact ⟨a, ha, .inl rfl⟩
  · exact hpresent _ _
  · exact ⟨a, ha, .inl rfl⟩
  · exact ⟨a, ha, .inl rfl⟩
  · exact ⟨a, ha, .inl rfl⟩

/-- A unicast attempt without its LACK that is tried again: the entry waits, and the channel is free. -/
theorem ackGapCloses_again {e : PendEntry} {s : State} (hs : Up s) (hside : s.link.side = .ackWait)
    (hg : s.link.gap = some .ownAck) (hc : s.link.carrier = false) (hl : s.link.lackHeard = false)
    (hheld : heldEntry s = some e) (hst : e.state = .awaitLack) (hw : e.windowEnded = false) (ha : e.attempts < 3)
    (hsteady : Steady (min 256 (s.link.sfc + 8)) s.link.hfc s.link.state) :
    ackGapCloses s = channelBecomesFree (triedAgain e (unlacked s)) := by
  rw [ackGapCloses_unlacked hs hside hg hc hl hheld, attemptFailed_again _ (by simp [hst]) hw ha,
    evaluateLink_steady (by exact hsteady)]

theorem triedAgain_touches (e : PendEntry) (s : State) : OnlyTouches [.link, .tx] s (triedAgain e (unlacked s)) :=
  ⟨rfl, fun b => by cases b <;> simp [Kept, triedAgain, updateEntry, unlacked]⟩

theorem ackGapDecidesTheAttempt : AckGapDecidesTheAttempt := by
  intro e s hs hside hg hheld ho hcls hst hw hu hlen
  have hnot : NotTheCall e := notTheCall_of_owner (by simp [ho])
  have hmem := heldEntry_mem hheld
  refine ⟨fun hc => ?_, fun hc hl hsteady => ?_, fun hc hl hsteady ha => ?_, fun hc hl hsteady ha => ?_⟩
  · have hrun : ackGapCloses s = { s with link := { s.link with gap := none, decisionWaits := true } } := by
      rw [ackGapCloses, if_pos ⟨hside, hg, running_of_up hs⟩]
      exact if_pos hc
    exact completes_link (congrArg (fun u => Host.Outcome.next (settle u)) hrun)
  · refine exchange_completes (lack := true) ⟨hs, hside, hg, hc, hl, hheld, hsteady, .inl rfl⟩ hnot
      fun u t hu' hends hover => ?_
    have htouch := hends.of_touches (more := [.link, .tx, .port]) (hu' ▸ exchanged_data_touches ho) (by simp)
    rw [if_pos rfl, exchanged_data ho (by simp [hst]) (by exact hlen)] at hu'
    obtain ⟨hsfc, hhfc, hfault, hgap, hlack, hout⟩ := hover
    have hresting := hends.resting
    have htx := hends.tx
    have hport : t.port = u.port := hends.touches.kept (b := .port) (by simp)
    rw [TxAside] at htx
    refine ⟨hsfc, hhfc, hfault, hgap, hlack, by rw [htx, hu']; simp [decided], hout, fun a ha hne => ?_, ?_, htouch⟩
    · have hin : a ∈ u.tx.queue := by
        rw [hu']
        simp [dequeue, decided, ha, hne]
      obtain ⟨b, hb, hba⟩ := mem_of_resting hresting hin
      exact ⟨b, hb, (congrArg PendEntry.uid hba :), (congrArg PendEntry.payload hba :), (congrArg PendEntry.attempts hba :)⟩
    · rw [hport, hu']
      exact raise_port _ _ _ _ rfl
  · have hrun := ackGapCloses_again hs hside hg hc hl hheld hst hw ha hsteady
    have hagain : { e with attempts := e.attempts + 1, state := .waiting } ∈ (triedAgain e (unlacked s)).tx.queue :=
      List.mem_map.2 ⟨e, hmem, by simp⟩
    obtain ⟨b, hb, hbe⟩ := channelBecomesFree_waits hagain
    have haside := channelBecomesFree_aside (triedAgain e (unlacked s))
    have htx := channelBecomesFree_txAside (triedAgain e (unlacked s))
    have htouch := (triedAgain_touches e s).trans (channelBecomesFree_touches (triedAgain e (unlacked s)))
    generalize channelBecomesFree (triedAgain e (unlacked s)) = v at *
    refine completes_event hrun rfl ⟨by simpa [triedAgain, updateEntry, unlacked] using congrArg Link.sfc haside,
      by simpa [triedAgain, updateEntry, unlacked] using congrArg Link.hfc haside,
      by simpa [triedAgain, updateEntry, unlacked] using congrArg Link.lastFault haside,
      by simpa [triedAgain, updateEntry, unlacked] using congrArg Link.gap haside,
      by simpa [triedAgain, updateEntry, unlacked] using congrArg Tx.outcomes htx, ⟨b, by simpa using hb, ?_⟩, onlyTouches_settle htouch⟩
    obtain rfl | rfl := hbe
    · exact ⟨rfl, rfl, rfl, .inl rfl⟩
    · exact ⟨rfl, rfl, rfl, .inr rfl⟩
  · refine exchange_completes (lack := false) ⟨hs, hside, hg, hc, hl, hheld, hsteady, .inr (.inl ha)⟩ hnot
      fun u t hu' hends hover => ?_
    have htouch := hends.of_touches (more := [.link, .tx, .port]) (hu' ▸ exchanged_data_touches ho) (by simp)
    rw [if_neg Bool.false_ne_true, exchanged_data ho (by simp [hst]) (by exact hlen)] at hu'
    obtain ⟨hsfc, -, hfault, -, -, hout⟩ := hover
    have htx := hends.tx
    rw [TxAside] at htx
    exact ⟨hsfc, hfault, by rw [htx, hu']; simp [decided, ha], hout, htouch⟩

/-! ## What is presented next -/

/-- The channel free in the state that an event leaves: the chosen entry is presented. -/
theorem presented_next {c : PendEntry} {l : Link} {v : State} (ht : Takes v) (hl : v.link.listenIn = none)
    (hair : NoneOnAir v) (hv : v.link = { l with side := .idle, deferral := none }) (hc : ChosenIn v.tx.queue c) :
    Presented true c v.tx.queue l (settle (channelBecomesFree v))
      ∧ OnlyTouches [.link, .tx] v (settle (channelBecomesFree v)) := by
  obtain ⟨hclock, hsilent, hrec⟩ := ht
  have hfree : channelBecomesFree v = present c true v :=
    channelBecomesFree_chosen ⟨hclock, hl, hair⟩ (by simp [LinkState.mute, hsilent, hrec]) (by rw [hv]) (by rw [hv]) hc
  rw [hfree]
  exact ⟨presented_settle (by simp) (by simp) (presented_of_idle hv), onlyTouches_settle (presented_present c true v).2⟩

/-- A broadcast's exchange over, its result not reported yet (R13). -/
def broadcastOver (s : State) : State :=
  { s with link := { s.link with
      side := .idle, deferral := none, lackHeard := false, decisionWaits := false, gap := none, lastFault := .none } }

theorem idleGapCloses_ends {e : PendEntry} {s : State} (hs : Up s) (hside : s.link.side = .onAir) (hk : s.link.keyed = false)
    (hg : s.link.gap = some .ownIdle) (hheld : heldEntry s = some e) :
    idleGapCloses s = channelBecomesFree (exchanged e .broadcastSent (broadcastOver s)) := by
  simp only [idleGapCloses, hheld]
  rw [if_pos ⟨hside, hk, running_of_up hs⟩, if_pos hg]
  rfl

theorem nextEntryIsPresentedAfterAnExchange : NextEntryIsPresentedAfterAnExchange := by
  intro e c s hs ht hlisten hcar hk hheld ho
  have hnot : NotTheCall e := notTheCall_of_owner (by simp [ho])
  have hclock := ht.1
  refine ⟨fun hside hg hchosen => ?_, fun hside hg hl hsteady hchosen => ?_, fun hside hg hl hst hw ha hsteady hchosen => ?_⟩
  · have hrun := idleGapCloses_ends hs hside hk hg hheld
    obtain ⟨hqueue, hlink, -⟩ := exchanged_stands (o := .broadcastSent) (s := broadcastOver s) hnot
    have hout : OnlyTouches [.tx, .port] (dequeue e.uid (broadcastOver s)) _ := exchanged_data_touches (o := .broadcastSent) ho
    generalize exchanged e .broadcastSent (broadcastOver s) = v at *
    change v.tx.queue = s.tx.queue.filter fun a => a.uid != e.uid at hqueue
    have hbefore : OnlyTouches [.link, .tx] s (dequeue e.uid (broadcastOver s)) :=
      ⟨rfl, fun b => by cases b <;> simp [Kept, dequeue, broadcastOver]⟩
    obtain ⟨hpres, htouch⟩ := presented_next (c := c) (v := v) (l := { s.link with
        lackHeard := false, decisionWaits := false, gap := none, lastFault := .none })
      (by rw [Takes, hlink]; exact ht) (by rw [hlink]; exact hlisten) (by rw [NoneOnAir, hlink]; exact ⟨hcar, hk, rfl⟩)
      (by rw [hlink]; rfl) (by rw [hqueue]; exact hchosen)
    rw [hqueue] at hpres
    exact completes_event hrun rfl ⟨hpres, (hbefore.widen (by simp)).trans ((hout.widen (by simp)).trans (htouch.widen (by simp)))⟩
  · have hrun := ackGapCloses_ends (e := e) (lack := true) ⟨hs, hside, hg, hcar, hl, hheld, hsteady, .inl rfl⟩ hnot
    rw [if_pos rfl] at hrun
    obtain ⟨hqueue, hlink, -⟩ := exchanged_stands (o := .delivered) (s := decided true s) hnot
    have hout : OnlyTouches [.tx, .port] (dequeue e.uid (decided true s)) _ := exchanged_data_touches (o := .delivered) ho
    generalize exchanged e .delivered (decided true s) = v at *
    change v.tx.queue = s.tx.queue.filter fun a => a.uid != e.uid at hqueue
    have hbefore : OnlyTouches [.link, .tx] s (dequeue e.uid (decided true s)) :=
      ⟨rfl, fun b => by cases b <;> simp [Kept, dequeue, decided]⟩
    obtain ⟨hpres, htouch⟩ := presented_next (c := c) (v := v) (l := { s.link with
        sfc := s.link.sfc - 1, lackHeard := false, decisionWaits := false, gap := none, lastFault := .none })
      (by rw [Takes, hlink]; exact ht) (by rw [hlink]; exact hlisten) (by rw [NoneOnAir, hlink]; exact ⟨hcar, hk, rfl⟩)
      (by rw [hlink]; rfl) (by rw [hqueue]; exact hchosen)
    rw [hqueue] at hpres
    exact completes_event hrun rfl ⟨hpres, (hbefore.widen (by simp)).trans ((hout.widen (by simp)).trans (htouch.widen (by simp)))⟩
  · have hrun := ackGapCloses_again hs hside hg hcar hl hheld hst hw ha hsteady
    have hqueue : (triedAgain e (unlacked s)).tx.queue = s.tx.queue.map fun a =>
        if a.uid = e.uid then { a with attempts := e.attempts + 1, state := .waiting } else a := by
      simp [triedAgain, updateEntry, updateWhere, unlacked]
    have hlink : (triedAgain e (unlacked s)).link = (unlacked s).link := rfl
    have hbefore := triedAgain_touches e s
    generalize triedAgain e (unlacked s) = v at *
    obtain ⟨hpres, htouch⟩ := presented_next (c := c) (v := v) (l := { s.link with
        sfc := min 256 (s.link.sfc + 8), lackHeard := false, decisionWaits := false, gap := none, lastFault := .noLack })
      (by rw [Takes, hlink]; exact ht) (by rw [hlink]; exact hlisten) (by rw [NoneOnAir, hlink]; exact ⟨hcar, hk, rfl⟩)
      (by rw [hlink]; rfl) (by rw [hqueue]; exact hchosen)
    rw [hqueue] at hpres
    exact completes_event hrun rfl ⟨hpres, hbefore.trans htouch⟩

end Sys2Proof.Claims
end

section
/-! SUPPORT. What an exchange's end gives the owner of its entry (R68, R70, R75, R122, R123, R155). -/

namespace Sys2Proof.Claims

open Sys2Proof.Machine

/-! ## A BID, an ACCEPT and a REFUSE -/

theorem exchanged_bid {e : PendEntry} {o : OfferEntry} {out : TxOutcome} {s : State} (he : e.owner = .offerEngine)
    (hl : Listed o s) (hf : o.bidFrame.any (·.uid == e.uid) = true) (hown : OwnsFrame o e.uid s) :
    exchanged e out s = updateOffer o.id (bidResult s.offers.awardTimeout out) (dequeue e.uid s) :=
  report_bid (b := attempted e) out (e.state == .retractPending) (s := dequeue e.uid s) (by exact hl) (by exact hown) hf he

theorem bidResult_afterBid {o : OfferEntry} {u n : Nat} {lack : Bool} {reason : Option RetractReason}
    (hf : o.bidFrame = some ⟨u, reason⟩) (hs : o.state = .bidWait) (ha : reason ≠ some .award)
    (hw : reason ≠ some .withdraw) :
    stopTimers (bidResult n (if lack then .delivered else .noLack) o) = afterBid lack reason n o
      ∧ (afterBid lack reason n o).state ≠ .bidWait ∧ (afterBid lack reason n o).state.isJobHeld = false := by
  cases reason with
  | none => cases lack <;> simp [bidResult, hf, hs, bidResultState, stopTimers, afterBid, OfferState.isJobHeld]
  | some r =>
    cases r with
    | award => exact absurd rfl ha
    | withdraw => exact absurd rfl hw
    | suppression => cases lack <;> simp [bidResult, hf, hs, bidResultState, stopTimers, afterBid, OfferState.isJobHeld]
    | meter => simp [bidResult, hf, hs, bidResultState, stopTimers, afterBid, OfferState.isJobHeld]
    | alarm => simp [bidResult, hf, hs, bidResultState, stopTimers, afterBid, OfferState.isJobHeld]

/-- An entry that was decided otherwise loses its BID alone. -/
theorem bidResult_decided {o : OfferEntry} {n : Nat} {out : TxOutcome}
    (hs : o.state = .awarded ∨ o.state = .lost ∨ o.state = .withdrawn) :
    (bidResult n out o).state = o.state ∧ stopTimers (bidResult n out o) =
      { o with bidFrame := none, awardTimer := none,
               acceptTimer := if o.state = .awarded then o.acceptTimer else none } := by
  obtain h | h | h := hs <;> simp [bidResult, h, stopTimers]

theorem bidResultMovesTheOffer : BidResultMovesTheOffer := by
  intro e o lack reason s h he hl hf hown
  have hnot : NotTheCall e := notTheCall_of_owner (by simp [he])
  refine ⟨fun hs ha hw => exchange_completes h hnot fun u t hu hends hover => ?_,
    fun hs => exchange_completes h hnot fun u t hu hends hover => ?_⟩
  · obtain ⟨hafter, hne, hfree⟩ := bidResult_afterBid (n := s.offers.awardTimeout) (lack := lack) hf hs ha hw
    rw [exchanged_bid he (by exact hl) (by simp [hf]) (by exact hown)] at hu
    have hoffers := updateOffer_offers (s := dequeue e.uid (decided lack s)) (by exact hl) hafter
    have hport := (updateOffer_port (s := dequeue e.uid (decided lack s)) (by exact hl) hafter).trans
      (if_neg (by rw [hs]; exact hne))
    rw [heldAfter_free hfree] at hoffers
    have htouch := hends.of_touches (e := e) (lack := lack) (s := s) (more := [.link, .tx, .offers, .msg, .port])
      (hu ▸ updateOffer_touches _ _ _) (by simp)
    have htoffers : t.offers = u.offers := hends.touches.kept (b := .offers) (by simp)
    have htport : t.port = u.port := hends.touches.kept (b := .port) (by simp)
    have htqueue : t.msg.queue = u.msg.queue := kept_msg_queue (hends.touches.kept (b := .msg) (by simp))
    refine ⟨hover, by rw [htoffers, hu]; exact hoffers, ?_, by rw [htqueue, hu]; exact (updateOffer_msg _ _ _).1, htouch⟩
    rw [htport, hu]
    exact hport.trans (raise_port _ _ _ _ rfl)
  · obtain ⟨hst, hafter⟩ := bidResult_decided (n := s.offers.awardTimeout) (out := if lack then .delivered else .noLack) hs
    rw [exchanged_bid he (by exact hl) (by simp [hf]) (by exact hown)] at hu
    have hoffers := updateOffer_offers (s := dequeue e.uid (decided lack s)) (by exact hl) hafter
    have htouch := hends.of_touches (e := e) (lack := lack) (s := s) (more := [.link, .tx, .offers, .msg])
      (hu ▸ updateOffer_touches_of_state (s := dequeue e.uid (decided lack s)) (by exact hl) hst) (by simp)
    have htoffers : t.offers = u.offers := hends.touches.kept (b := .offers) (by simp)
    have htqueue : t.msg.queue = u.msg.queue := kept_msg_queue (hends.touches.kept (b := .msg) (by simp))
    refine ⟨hover, by rw [htoffers, hu]; exact congrArg Offers.table hoffers, htouch.kept (b := .port) (by simp),
      by rw [htqueue, hu]; exact (updateOffer_msg _ _ _).1, htouch⟩

theorem exchanged_reply {e : PendEntry} {o : OfferEntry} {out : TxOutcome} {s : State} (he : e.owner = .offerEngine)
    (hl : Listed o s) (hn : o.bidFrame = none) (hf : o.replyFrame.any (·.uid == e.uid) = true) (hown : OwnsFrame o e.uid s) :
    exchanged e out s = updateOffer o.id (replyResult (e.payload.kind == .accept) out) (dequeue e.uid s) :=
  report_reply (b := attempted e) out (e.state == .retractPending) (s := dequeue e.uid s) (by exact hl) (by exact hown) hn hf he

theorem replyResult_accept {o : OfferEntry} {lack : Bool} (hs : o.state = .accepting) :
    stopTimers (replyResult true (if lack then .delivered else .noLack) o) =
      { o with state := if lack then .held else .heldUnconfirmed, replyFrame := none, awardTimer := none,
               acceptTimer := none, lastReply := some (if lack then .delivered else .noLack) } := by
  cases lack <;> simp [replyResult, hs, stopTimers]

theorem replyResult_refuse {o : OfferEntry} {out : TxOutcome} (hs : o.state = .refused) :
    (replyResult false out o).state = o.state ∧ stopTimers (replyResult false out o) =
      { o with replyFrame := none, awardTimer := none, acceptTimer := none, lastReply := some out } := by
  simp [replyResult, hs, stopTimers]

theorem replyResultMovesTheOffer : ReplyResultMovesTheOffer := by
  intro e o f lack s h he hl hn hf huid hown
  have hnot : NotTheCall e := notTheCall_of_owner (by simp [he])
  refine ⟨fun hp hs => exchange_completes h hnot fun u t hu hends hover => ?_,
    fun r hp hs => exchange_completes h hnot fun u t hu hends hover => ?_⟩
  · rw [exchanged_reply he (by exact hl) hn (by simp [hf, huid]) (by exact hown), hp] at hu
    have hafter := replyResult_accept (lack := lack) hs
    have hoffers := updateOffer_offers (s := dequeue e.uid (decided lack s)) (by exact hl) hafter
    have hport := (updateOffer_port (s := dequeue e.uid (decided lack s)) (by exact hl) hafter).trans
      (if_neg (by cases lack <;> simp [hs]))
    rw [heldAfter_jobHeld (by cases lack <;> rfl)] at hoffers
    have htouch := hends.of_touches (e := e) (lack := lack) (s := s) (more := [.link, .tx, .offers, .msg, .port])
      (hu ▸ updateOffer_touches _ _ _) (by simp)
    have htoffers : t.offers = u.offers := hends.touches.kept (b := .offers) (by simp)
    have htport : t.port = u.port := hends.touches.kept (b := .port) (by simp)
    have htqueue : t.msg.queue = u.msg.queue := kept_msg_queue (hends.touches.kept (b := .msg) (by simp))
    refine ⟨hover, by rw [htoffers, hu]; exact hoffers, ?_, by rw [htqueue, hu]; exact (updateOffer_msg _ _ _).1, htouch⟩
    rw [htport, hu]
    exact hport.trans (raise_port _ _ _ _ rfl)
  · rw [exchanged_reply he (by exact hl) hn (by simp [hf, huid]) (by exact hown), hp] at hu
    obtain ⟨hst, hafter⟩ := replyResult_refuse (out := if lack then .delivered else .noLack) hs
    have hoffers := updateOffer_offers (s := dequeue e.uid (decided lack s)) (by exact hl) hafter
    have htouch := hends.of_touches (e := e) (lack := lack) (s := s) (more := [.link, .tx, .offers, .msg])
      (hu ▸ updateOffer_touches_of_state (s := dequeue e.uid (decided lack s)) (by exact hl) hst) (by simp)
    have htoffers : t.offers = u.offers := hends.touches.kept (b := .offers) (by simp)
    have htqueue : t.msg.queue = u.msg.queue := kept_msg_queue (hends.touches.kept (b := .msg) (by simp))
    exact ⟨hover, by rw [htoffers, hu]; exact congrArg Offers.table hoffers, htouch.kept (b := .port) (by simp),
      by rw [htqueue, hu]; exact (updateOffer_msg _ _ _).1, htouch⟩

/-! ## A TRIP_REPORT -/

theorem setUpload_uploads (n : Nat) (st : UploadState) (s : State) :
    (setUpload n st s).trips = { s.trips with
      uploads := uploadsWith n (fun u => { u with trip := { u.trip with upload := st } }) s } := by
  simp [setUpload, updateWhere, uploadsWith]

theorem setUpload_port (n : Nat) (st : UploadState) (s : State) :
    (setUpload n st s).port = (raise .uploadChanged (.trip n) s).port := raise_port _ _ _ _ rfl

theorem setUpload_touches (n : Nat) (st : UploadState) (s : State) : OnlyTouches [.trips, .port] s (setUpload n st s) :=
  ((raise_touches _ _ _).widen (by simp)).before rfl fun b => by cases b <;> simp [Kept]

/-- A delivered upload whose UPLOAD_DONE group is offered. -/
theorem owedAfter_uploads {n : Nat} {owed : Bool} {s v : State} (hv : v.trips = (setUpload n .delivered s).trips) :
    { v.trips with uploads := updateWhere (fun u => u.trip.number == n) (fun u => { u with doneOwed := owed }) v.trips.uploads }
      = { s.trips with
          uploads := uploadsWith n (fun u => { u with trip := { u.trip with upload := .delivered }, doneOwed := owed }) s } := by
  rw [hv, setUpload_uploads]
  simp only [updateWhere, uploadsWith, List.map_map]
  congr 1
  refine List.map_congr_left fun u _ => ?_
  by_cases h : u.trip.number = n <;> simp [h]

theorem touches_trips_store {s t : State} (h : t = { s with trips := t.trips, store := t.store }) :
    OnlyTouches [.trips, .store, .port] s t := by
  rw [h]
  exact ⟨rfl, fun b => by cases b <;> simp [Kept]⟩

theorem touches_trips {s t : State} (h : t = { s with trips := t.trips }) : OnlyTouches [.trips, .port] s t := by
  rw [h]
  exact ⟨rfl, fun b => by cases b <;> simp [Kept]⟩

theorem takesGroups_congr {s t : State} (h : t.store = s.store) : StoreTakesGroups t ↔ StoreTakesGroups s := by
  simp [StoreTakesGroups, Machine.rotation, sectorOf, h]

theorem offerUploadDone_joins {n : Nat} {s : State} (ht : StoreTakesGroups s) (hl : s.store.queue.length < 6)
    (hb : s.store.activity ≠ .idle) :
    offerUploadDone n s = { s with
      store := { s.store with queue := s.store.queue ++ [⟨.uploadDone n, [.uploadDone n], false⟩] }
      trips := { s.trips with
        uploads := updateWhere (fun u => u.trip.number == n) (fun u => { u with doneOwed := false }) s.trips.uploads } } := by
  have hjoin := offerGroup_joins (.uploadDone n) [.uploadDone n] ht (no_waiting_checkpoint (by simp) _) hl
  rw [kickStore_busy (by exact hb)] at hjoin
  rw [offerUploadDone, hjoin]
  rfl

theorem offerUploadDone_refused {n : Nat} {s : State} (h : ¬ StoreTakesGroups s ∨ 6 ≤ s.store.queue.length) :
    offerUploadDone n s = { s with
      trips := { s.trips with
        uploads := updateWhere (fun u => u.trip.number == n) (fun u => { u with doneOwed := true }) s.trips.uploads } } := by
  by_cases ht : StoreTakesGroups s
  · rw [offerUploadDone, offerGroup_full (.uploadDone n) [.uploadDone n] ht (no_waiting_checkpoint (by simp) _)
      (h.resolve_left (not_not_intro ht))]
    rfl
  · rw [offerUploadDone, offerGroup_fault (.uploadDone n) [.uploadDone n] (Nat.lt_of_not_le ht)]
    rfl

theorem tripReportResultMovesTheUpload : TripReportResultMovesTheUpload := by
  intro e n lack s h he href
  have hnot : NotTheCall e := notTheCall_of_owner (by simp [he])
  have hresult : ∀ (out : TxOutcome) (v : State), exchanged e out v = tripResult ⟨attempted e, out, e.state == .retractPending⟩
      (dequeue e.uid v) := fun out v => by
    simp only [exchanged, report, attempted, he]
  have hdelivered : ∀ v : State, exchanged e .delivered v = offerUploadDone n (setUpload n .delivered (dequeue e.uid v)) :=
    fun v => by
      rw [hresult]
      simp only [tripResult, attempted, href]
  have hlost : ∀ v : State, exchanged e .noLack v = setUpload n .unsent (dequeue e.uid v) := fun v => by
    rw [hresult]
    simp only [tripResult, attempted, href]
  refine ⟨fun hlack htakes hlen hbusy => ?_, fun hlack hrefused => ?_, fun hlack => ?_⟩
  · subst hlack
    refine exchange_completes h hnot fun u t hu hends hover => ?_
    have hset := setUpload_touches n .delivered (dequeue e.uid (decided true s))
    have hstore : (setUpload n .delivered (dequeue e.uid (decided true s))).store = s.store := hset.kept (b := .store) (by simp)
    rw [if_pos rfl, hdelivered, offerUploadDone_joins ((takesGroups_congr hstore).2 htakes) (by rwa [hstore])
      (by rwa [hstore])] at hu
    have hport := setUpload_port n .delivered (dequeue e.uid (decided true s))
    have htrips := owedAfter_uploads (n := n) (owed := false) (s := dequeue e.uid (decided true s)) rfl
    generalize setUpload n .delivered (dequeue e.uid (decided true s)) = v at *
    have hown : OnlyTouches [.trips, .store, .port] v u := touches_trips_store (by rw [hu])
    have htouch := hends.of_touches (e := e) (lack := true) (s := s) (more := [.link, .tx, .trips, .store, .port])
      ((hset.widen (by simp)).trans hown) (by simp)
    have httrips : t.trips = u.trips := hends.touches.kept (b := .trips) (by simp)
    have htstore : t.store = u.store := hends.touches.kept (b := .store) (by simp)
    have htport : t.port = u.port := hends.touches.kept (b := .port) (by simp)
    refine ⟨hover, by rw [httrips, hu]; exact htrips, by rw [htstore, hu, hstore], ?_, htouch⟩
    rw [htport, hu]
    exact hport.trans (raise_port _ _ _ _ rfl)
  · subst hlack
    refine exchange_completes h hnot fun u t hu hends hover => ?_
    have hset := setUpload_touches n .delivered (dequeue e.uid (decided true s))
    have hstore : (setUpload n .delivered (dequeue e.uid (decided true s))).store = s.store := hset.kept (b := .store) (by simp)
    rw [if_pos rfl, hdelivered, offerUploadDone_refused (by rwa [takesGroups_congr hstore, hstore])] at hu
    have hport := setUpload_port n .delivered (dequeue e.uid (decided true s))
    have htrips := owedAfter_uploads (n := n) (owed := true) (s := dequeue e.uid (decided true s)) rfl
    generalize setUpload n .delivered (dequeue e.uid (decided true s)) = v at *
    have hown : OnlyTouches [.trips, .port] v u := touches_trips (by rw [hu])
    have htouch := hends.of_touches (e := e) (lack := true) (s := s) (more := [.link, .tx, .trips, .port])
      (hset.trans hown) (by simp)
    have httrips : t.trips = u.trips := hends.touches.kept (b := .trips) (by simp)
    have htport : t.port = u.port := hends.touches.kept (b := .port) (by simp)
    refine ⟨hover, by rw [httrips, hu]; exact htrips, ?_, htouch⟩
    rw [htport, hu]
    exact hport.trans (raise_port _ _ _ _ rfl)
  · subst hlack
    refine exchange_completes h hnot fun u t hu hends hover => ?_
    rw [if_neg Bool.false_ne_true, hlost] at hu
    have htouch := hends.of_touches (e := e) (lack := false) (s := s) (more := [.link, .tx, .trips, .port])
      (hu ▸ setUpload_touches _ _ _) (by simp)
    have httrips : t.trips = u.trips := hends.touches.kept (b := .trips) (by simp)
    have htport : t.port = u.port := hends.touches.kept (b := .port) (by simp)
    refine ⟨hover, by rw [httrips, hu, setUpload_uploads]; rfl, ?_, htouch⟩
    rw [htport, hu, setUpload_port]
    exact raise_port _ _ _ _ rfl

/-! ## A RECEIPT -/

theorem receiptResultMovesTheMessage : ReceiptResultMovesTheMessage := by
  intro e lack s h he
  refine exchange_completes h (notTheCall_of_owner (by simp [he])) fun u t hu hends hover => ?_
  have hresult : u = receiptResult ⟨attempted e, if lack then .delivered else .noLack, e.state == .retractPending⟩
      (dequeue e.uid (decided lack s)) := by
    rw [hu]
    simp only [exchanged, report, attempted, he]
  have htouch := hends.of_touches (e := e) (lack := lack) (s := s) (more := [.link, .tx, .msg]) (may := [.msg])
    (hresult ▸ ⟨rfl, fun b => by cases b <;> simp [Kept, receiptResult]⟩) (by simp)
  have hmsg : { t.msg with bus := u.msg.bus } = u.msg := hends.touches.kept (b := .msg) (by simp)
  have hqueue : u.msg = { s.msg with
      queue := s.msg.queue.map fun m =>
        if m.receipt = some (.queued e.uid) then { m with receipt := some (if lack then .delivered else .noLack) }
        else m } := by
    rw [hresult]
    cases lack <;> simp [receiptResult, updateWhere, attempted, dequeue, decided]
  exact ⟨hover, congrArg (fun m => { m with bus := t.msg.bus }) (hmsg.trans hqueue), htouch⟩

/-- Settles O31. -/
theorem lackDecidesTheAttempt : Obligations.LackDecidesTheAttempt :=
  ⟨lackIsUsedInTheAckGap, ackGapDecidesTheAttempt, nextEntryIsPresentedAfterAnExchange, bidResultMovesTheOffer,
    replyResultMovesTheOffer, tripReportResultMovesTheUpload, receiptResultMovesTheMessage⟩

end Sys2Proof.Claims
end

section
/-! SUPPORT. IDLE_GAP_CLOSES and GAP_CLOSES (R3, R8, R13, R14, R171, R176, R182). -/

namespace Sys2Proof.Claims

open Sys2Proof.Machine

/-! ## The gap of another station's frame, and of an own LACK -/

/-- The own LACK's state left as its gap closes. -/
def lackOver (s : State) : State :=
  { s with link := { s.link with
      gap := none, side := .idle, keyed := false, txFrame := [], txSlots := 0, keyFault := false, deferral := none,
      lackHeard := false, decisionWaits := false } }

theorem gapCloses_others {s : State} (hs : Up s) (hg : OthersGap s) :
    gapCloses s = channelBecomesFree (if s.link.side = .lacking then lackOver s
      else { s with link := { s.link with gap := none } }) := by
  have hstay : ¬ (s.link.gap = some .ownAck ∨ s.link.gap = some .ownIdle ∨ s.link.gap = none ∨ s.running = false) := by
    obtain h | h | h := hg <;> simp [h, running_of_up hs]
  rw [gapCloses, if_neg hstay]
  by_cases h : s.link.side = .lacking
  · simp [h, lackOver, goIdle, unkey]
  · simp [h]

/-- A count that waited for the channel starts. -/
theorem channelBecomesFree_counts {d : Deferral} {s : State} (hf : FreeSlots s) (hd : s.link.deferral = some d) :
    channelBecomesFree s = { s with link := { s.link with deferral := some ⟨d.slots, true⟩ } } := by
  simp [channelBecomesFree, (channelFree_iff s).2 hf, hd]

theorem gapCloseEndsBroadcastAndLack : GapCloseEndsBroadcastAndLack := by
  refine ⟨fun e s hs hside hk hg hq ho hst hlen => ?_, fun s hs hg => ⟨fun d hd hside hclock hlisten hcar hk => ?_,
    fun hd hside hq => ?_, fun hside hq => ?_⟩⟩
  · have hheld : heldEntry s = some e := by simp [heldEntry, hq, hst]
    have hrun := idleGapCloses_ends hs hside hk hg hheld
    rw [exchanged_data ho (by simp [hst]) (by exact hlen)] at hrun
    have hempty : (dequeue e.uid (broadcastOver s)).tx.queue = [] := by simp [dequeue, broadcastOver, hq]
    rw [channelBecomesFree_empty (by simp [dequeue, broadcastOver]) (by simpa using hempty)] at hrun
    refine completes_event hrun rfl ⟨by simp [dequeue, broadcastOver], by simp [dequeue, broadcastOver, hq], ?_,
      onlyTouches_settle (((raise_touches _ _ _).widen (by simp)).before rfl fun b => by
        cases b <;> simp [Kept, dequeue, broadcastOver])⟩
    simp only [settle_keeps]
    exact raise_port _ _ _ _ rfl
  · have hrun := gapCloses_others hs hg
    rw [if_neg (by simp [hside]), channelBecomesFree_counts (d := d)
      (s := { s with link := { s.link with gap := none } }) ⟨hclock, hlisten, hcar, hk, rfl⟩ hd] at hrun
    exact completes_link (congrArg (fun u => Host.Outcome.next (settle u)) hrun)
  · have hrun := gapCloses_others hs hg
    rw [if_neg (by simp [hside]), channelBecomesFree_empty (by exact hd) (by exact hq)] at hrun
    exact completes_link (congrArg (fun u => Host.Outcome.next (settle u)) hrun)
  · have hrun := gapCloses_others hs hg
    rw [if_pos hside, channelBecomesFree_empty rfl (by exact hq)] at hrun
    exact completes_link (congrArg (fun u => Host.Outcome.next (settle u)) hrun)

theorem waitingEntryIsPresented : WaitingEntryIsPresented := by
  intro e s hs ht hcar hd hc
  refine ⟨fun hlisten hg hside hk => ?_, fun hlisten hg hside => ?_, fun n hlisten hn hg hside hk => ?_⟩
  · have hrun := gapCloses_others hs hg
    rw [if_neg (by simp [hside])] at hrun
    obtain ⟨hpres, htouch⟩ := presented_next (c := e) (v := { s with link := { s.link with gap := none } })
      (l := { s.link with gap := none }) (by exact ht) (by exact hlisten) ⟨hcar, hk, rfl⟩ (by simp [hside, hd]) (by exact hc)
    exact completes_event hrun rfl ⟨hpres, htouch.before rfl fun b => by cases b <;> simp [Kept]⟩
  · have hrun := gapCloses_others hs hg
    rw [if_pos hside] at hrun
    obtain ⟨hpres, htouch⟩ := presented_next (c := e) (v := lackOver s)
      (l := { s.link with
        gap := none, keyed := false, txFrame := [], txSlots := 0, keyFault := false, lackHeard := false,
        decisionWaits := false }) (by exact ht) (by exact hlisten) ⟨hcar, rfl, rfl⟩ rfl (by exact hc)
    exact completes_event hrun rfl ⟨hpres, htouch.before rfl fun b => by cases b <;> simp [Kept, lackOver]⟩
  · have hrun : listenInCompletes s = channelBecomesFree { s with link := { s.link with listenIn := none } } := by
      simp only [listenInCompletes, hlisten, hn, ht.1, hcar, and_self, if_true]
    obtain ⟨hpres, htouch⟩ := presented_next (c := e) (v := { s with link := { s.link with listenIn := none } })
      (l := { s.link with listenIn := none }) (by exact ht) rfl ⟨hcar, hk, hg⟩ (by simp [hside, hd]) (by exact hc)
    exact completes_event hrun rfl ⟨hpres, htouch.before rfl fun b => by cases b <;> simp [Kept]⟩

/-! ## The own call and the relays sent -/

/-- A broadcast's exchange over: its entry leaves, its result is reported, and the channel is free. -/
theorem broadcast_completes {e : PendEntry} {s : State} {P : State → Prop} (h : BroadcastEnds e s)
    (hp : ∀ u t, u = exchanged e .broadcastSent (broadcastOver s) → EndsAs u t → P t) : Completes .idleGapCloses s P := by
  obtain ⟨hs, hside, hk, hg, hheld⟩ := h
  exact completes_event (idleGapCloses_ends hs hside hk hg hheld) rfl (hp _ _ rfl (endsAs_channelBecomesFree _))

/-- The queue as the broadcast's entry leaves it. -/
theorem sent_touches (e : PendEntry) (s : State) : OnlyTouches [.link, .tx] s (dequeue e.uid (broadcastOver s)) :=
  ⟨rfl, fun b => by cases b <;> simp [Kept, dequeue, broadcastOver]⟩

theorem sent_absent (e : PendEntry) (s : State) : ∀ a ∈ (dequeue e.uid (broadcastOver s)).tx.queue, a.uid ≠ e.uid := by
  intro a ha
  simpa using (List.mem_filter.1 ha).2

theorem exchanged_call {e : PendEntry} {o : OwnEntry} {n : Nat} {s : State} (ho : e.owner = .emergencyController)
    (hr : e.ref = .alarm n) (hown : s.emerg.ownEntry = some o) (hu : o.uid = e.uid) :
    exchanged e .broadcastSent s =
      ownResult o ⟨attempted e, .broadcastSent, e.state == .retractPending⟩ (dequeue e.uid s) := by
  have hown' : (dequeue e.uid s).emerg.ownEntry = some o := hown
  simp only [exchanged, report, attempted, ho, emergencyResult, hr, hown', hu, if_true]

/-- The emergency block of a state that ends as another. -/
theorem EndsAs.emerg {u t : State} (h : EndsAs u t) {m : Emerg} (hu : u.emerg = m) :
    t.emerg = { m with lamp := t.emerg.lamp, lampOn := t.emerg.lampOn } := by
  have hemerg : { t.emerg with lamp := u.emerg.lamp, lampOn := u.emerg.lampOn } = u.emerg := h.touches.kept (b := .emerg) (by simp)
  exact congrArg (fun m => { m with lamp := t.emerg.lamp, lampOn := t.emerg.lampOn }) (hemerg.trans hu)

theorem ownCallSentMovesTheAlarm : OwnCallSentMovesTheAlarm := by
  intro e o n s h ho hr hown huid
  have hresult := exchanged_call (s := broadcastOver s) ho hr hown huid
  have hsent := sent_touches e s
  have habsent := sent_absent e s
  have hlink : (dequeue e.uid (broadcastOver s)).link.lastFault = .none := rfl
  have hemerg : (dequeue e.uid (broadcastOver s)).emerg = s.emerg := rfl
  have hport : (dequeue e.uid (broadcastOver s)).port = s.port := rfl
  generalize hv : dequeue e.uid (broadcastOver s) = v at *
  refine ⟨fun ha => broadcast_completes h fun u t hu hends => ?_, fun ha hp hlt => broadcast_completes h fun u t hu hends => ?_,
    fun ha hp heq => broadcast_completes h fun u t hu hends => ?_, fun ha hp hq => broadcast_completes h fun u t hu hends => ?_⟩
  · have hown' : u = { v with emerg := { s.emerg with ownEntry := none } } := by
      rw [hu, hresult, ← hemerg]
      exact if_neg (by rw [hemerg]; exact ha)
    have hut : OnlyTouches [.emerg] v u := by
      rw [hown']
      exact ⟨rfl, fun b => by cases b <;> simp [Kept]⟩
    have haside := hends.aside
    rw [LinkAside, hown'] at haside
    exact ⟨hends.emerg (by rw [hown']), uid_absent_of_resting hends.resting (by rw [hown']; exact habsent),
      (congrArg Link.lastFault haside :).trans hlink,
      (hsent.widen (by simp)).trans ((hut.widen (by simp)).trans (hends.touches.widen (by simp)))⟩
  · have hown' : u = { v with emerg := { s.emerg with
        ownEntry := none, clearedSent := s.emerg.clearedSent + 1, spacingTimer := some 2 } } := by
      rw [hu, hresult, ← hemerg]
      simp only [ownResult, hemerg, ha, hp, if_true, clearedSent, if_neg (show ¬ 3 ≤ s.emerg.clearedSent + 1 by omega)]
    have hut : OnlyTouches [.emerg] v u := by
      rw [hown']
      exact ⟨rfl, fun b => by cases b <;> simp [Kept]⟩
    exact ⟨hends.emerg (by rw [hown']), uid_absent_of_resting hends.resting (by rw [hown']; exact habsent),
      (hsent.widen (by simp)).trans ((hut.widen (by simp)).trans (hends.touches.widen (by simp)))⟩
  · have hown' : u = alarmQuiet { v with emerg := { s.emerg with ownEntry := none, clearedSent := s.emerg.clearedSent + 1 } } := by
      rw [hu, hresult, ← hemerg]
      simp only [ownResult, hemerg, ha, hp, if_true, clearedSent, if_pos (show 3 ≤ s.emerg.clearedSent + 1 by omega)]
    have hue : u.emerg = { s.emerg with
        alarm := .quiet, number := none, source := none, repeatTimer := none, spacingTimer := none, ownEntry := none
        clearedSent := s.emerg.clearedSent + 1 } := by
      rw [hown']
      exact setAlarm_emerg .quiet _
    have hup : u.port = (raise .alarmState .ownAlarm s).port := by
      rw [hown', alarmQuiet, setAlarm, if_neg (by simp [ha])]
      exact raise_port _ _ _ _ hport
    have hut : OnlyTouches [.emerg, .port] v u := by
      rw [hown']
      exact (setAlarm_touches .quiet _).before rfl fun b => by cases b <;> simp [Kept]
    have hte := hends.emerg hue
    have htp : t.port = u.port := hends.touches.kept (b := .port) (by simp)
    exact ⟨by rw [hte], by rw [hte], by rw [hte], by rw [hte], by rw [hte], by rw [hte], htp.trans hup,
      (hsent.widen (by simp)).trans ((hut.widen (by simp)).trans (hends.touches.widen (by simp)))⟩
  · have hvq : v.tx.queue = [] := by simp [← hv, dequeue, broadcastOver, hq]
    have hvl : v.link.station = s.link.station ∧ v.nextUid = s.nextUid ∧ v.cell = s.cell := by
      rw [← hv]
      exact ⟨rfl, rfl, rfl⟩
    obtain ⟨hstation, huid', hcell⟩ := hvl
    have hown' : u = called .cleared { v with emerg := { s.emerg with ownEntry := none } } := by
      rw [hu, hresult, ← offerCleared_joins rfl (by simp [hvq]), ← hemerg]
      simp only [ownResult, hemerg, ha, hp, if_true]
    have hue : u.emerg = { s.emerg with
        ownEntry := some ⟨.cleared, v.nextUid⟩, nextRepeat := min 65535 (s.emerg.nextRepeat + 1) } := by
      rw [hown']
      rfl
    have hut : OnlyTouches [.link, .tx, .emerg] v u := by
      rw [hown']
      exact (called_touches .cleared _).before rfl fun b => by cases b <;> simp [Kept]
    have hte := hends.emerg hue
    have hqueue : t.tx.queue.map (fun a => (a.uid, a.cls, a.payload, a.dest)) = _ :=
      (map_resting (g := fun a => (a.uid, a.cls, a.payload, a.dest)) (fun _ => rfl) hends.resting).trans
        (hown' ▸ called_alone (fun _ => rfl) (by exact hvq))
    refine ⟨by rw [hte]; exact ha, by rw [hte, huid'], by rw [hte], by rw [hte], hqueue.trans ?_,
      (hsent.widen (by simp)).trans (hut.trans (hends.touches.widen (by simp)))⟩
    simp [ownEmergency, newEntry, State.station, hstation, huid', destAll, ← hcell]
    rfl

/-! ## A relay sent -/

theorem exchanged_relay {e : PendEntry} {r : RelayEntry} {s : State} (ho : e.owner = .emergencyController)
    (href : e.ref = .relay r.id) :
    exchanged e .broadcastSent s = dropAged (updateRelay r.id
      (relayResult ⟨attempted e, .broadcastSent, e.state == .retractPending⟩) (dequeue e.uid s)) := by
  simp only [exchanged, report, attempted, ho, emergencyResult, href]

/-- The relay table as a result changes one pair that is left in it. -/
theorem relayTable_kept {r r' : RelayEntry} {f : RelayEntry → RelayEntry} {l : List RelayEntry}
    (hu : ∀ a ∈ l, a.id = r.id → a = r) (hn : ∀ a ∈ l, a.id ≠ r.id → a.agedOut = false) (hf : f r = r')
    (ha : r'.agedOut = false) :
    (updateWhere (fun a => a.id == r.id) f l).filter (fun a => !a.agedOut || a.relaying) =
      l.map fun a => if a.id = r.id then r' else a := by
  have hmap : updateWhere (fun a => a.id == r.id) f l = l.map fun a => if a.id = r.id then r' else a := by
    refine List.map_congr_left fun a hmem => ?_
    by_cases h : a.id = r.id
    · have := hu a hmem h
      subst this
      simp [hf]
    · simp [h]
  rw [hmap, List.filter_eq_self]
  intro b hb
  obtain ⟨a, hmem, rfl⟩ := List.mem_map.1 hb
  split
  · simp [ha]
  · next h => simp [hn a hmem h]

/-- An aged pair leaves the table with its last relay's result. -/
theorem relayTable_dropped {r r' : RelayEntry} {f : RelayEntry → RelayEntry} {l : List RelayEntry}
    (hu : ∀ a ∈ l, a.id = r.id → a = r) (hn : ∀ a ∈ l, a.id ≠ r.id → a.agedOut = false) (hf : f r = r')
    (ha : r'.agedOut = true) (hrel : r'.relaying = false) :
    (updateWhere (fun a => a.id == r.id) f l).filter (fun a => !a.agedOut || a.relaying) = l.filter fun a => a.id != r.id := by
  unfold updateWhere
  rw [List.filter_map]
  have hsame : l.filter ((fun a => !a.agedOut || a.relaying) ∘ fun a => if (a.id == r.id) = true then f a else a) =
      l.filter fun a => a.id != r.id := by
    refine List.filter_congr fun a hmem => ?_
    by_cases h : a.id = r.id
    · have := hu a hmem h
      subst this
      simp [hf, ha, hrel]
    · simp [h, hn a hmem h]
  rw [hsame, List.map_congr_left (g := id), List.map_id]
  intro a hmem
  exact if_neg (by simpa using (List.mem_filter.1 hmem).2)

theorem relaySentMovesItsEntry : RelaySentMovesItsEntry := by
  intro e r s h ho href hmem hu hn
  have hsent := sent_touches e s
  have habsent := sent_absent e s
  have hwhole : ∀ u t, u = exchanged e .broadcastSent (broadcastOver s) → EndsAs u t →
      (∀ a ∈ t.tx.queue, a.uid ≠ e.uid) ∧ OnlyTouches [.link, .tx, .emerg] s t := by
    intro u t hu hends
    rw [exchanged_relay ho href] at hu
    have hut : OnlyTouches [.emerg] (dequeue e.uid (broadcastOver s)) u := by
      rw [hu]
      exact ⟨rfl, fun b => by cases b <;> simp [Kept, dropAged, updateRelay]⟩
    exact ⟨uid_absent_of_resting hends.resting (by rw [hu]; exact habsent),
      (hsent.widen (by simp)).trans ((hut.widen (by simp)).trans (hends.touches.widen (by simp)))⟩
  have hrelays : ∀ u t, u = exchanged e .broadcastSent (broadcastOver s) → EndsAs u t → t.emerg.relays =
      (updateWhere (fun a => a.id == r.id) (relayResult ⟨attempted e, .broadcastSent, e.state == .retractPending⟩)
        s.emerg.relays).filter fun a => !a.agedOut || a.relaying := by
    intro u t hu hends
    rw [exchanged_relay ho href] at hu
    rw [hends.emerg rfl, hu]
    rfl
  refine ⟨fun p hp hpu ha => broadcast_completes h fun u t hu' hends => ?_,
    fun joined hp hk ha => broadcast_completes h fun u t hu' hends => ?_,
    fun p hp hpu ha hk => broadcast_completes h fun u t hu' hends => ?_⟩
  · refine ⟨(hrelays u t hu' hends).trans (relayTable_kept (r' := { r with pending := none }) hu hn ?_ ha), hwhole u t hu' hends⟩
    simp [relayResult, hp, hpu, attempted]
  · refine ⟨(hrelays u t hu' hends).trans (relayTable_kept (r' := { r with ackRelay := .done }) hu hn ?_ ha), hwhole u t hu' hends⟩
    simp [relayResult, relayResult.ackResult, hp, hk, attempted]
  · refine ⟨(hrelays u t hu' hends).trans (relayTable_dropped (r' := { r with pending := none }) hu hn ?_ ha ?_),
      hwhole u t hu' hends⟩
    · simp [relayResult, hp, hpu, attempted]
    · exact relaying_eq_false.2 ⟨rfl, hk⟩

/-- Settles O32. -/
theorem gapCloseEndsBroadcastsAndLacks : Obligations.GapCloseEndsBroadcastsAndLacks :=
  ⟨gapCloseEndsBroadcastAndLack, waitingEntryIsPresented, ownCallSentMovesTheAlarm, relaySentMovesItsEntry⟩

end Sys2Proof.Claims
end

section
/-! SUPPORT. What a frame heard leaves, whatever its kind (R7, R17, R23). -/

namespace Sys2Proof.Claims

open Sys2Proof.Machine

/-- What no owner of a frame changes. -/
structure FrameKept (s t : State) : Prop where
  hfc : t.link.hfc = s.link.hfc
  sfc : t.link.sfc = s.link.sfc
  lastFault : t.link.lastFault = s.link.lastFault
  decisionWaits : t.link.decisionWaits = s.link.decisionWaits
  meter : t.fare.meter = s.fare.meter
  totals : t.trips.totals = s.trips.totals
  response : t.port.response = s.port.response
  requestCount : t.port.requestCount = s.port.requestCount
  pending : t.pending = s.pending

namespace FrameKept

theorem refl (s : State) : FrameKept s s := ⟨rfl, rfl, rfl, rfl, rfl, rfl, rfl, rfl, rfl⟩

theorem trans {s t u : State} (h : FrameKept s t) (k : FrameKept t u) : FrameKept s u :=
  ⟨k.hfc.trans h.hfc, k.sfc.trans h.sfc, k.lastFault.trans h.lastFault, k.decisionWaits.trans h.decisionWaits,
    k.meter.trans h.meter, k.totals.trans h.totals, k.response.trans h.response, k.requestCount.trans h.requestCount,
    k.pending.trans h.pending⟩

theorem of_reach {s t : State} (h : Reach s t) : FrameKept s t := by
  unfold Reach at h
  refine ⟨?_, ?_, ?_, ?_, ?_, ?_, ?_, ?_, ?_⟩ <;> rw [h]

theorem of_touches {may : List Block} {s t : State} (h : OnlyTouches may s t)
    (hm : .link ∉ may ∧ .fare ∉ may ∧ .trips ∉ may ∧ .port ∉ may) : FrameKept s t := by
  obtain ⟨hl, hf, ht, hp⟩ := hm
  have hlink : t.link = s.link := h.kept hl
  have hfare : t.fare = s.fare := h.kept hf
  have htrips : t.trips = s.trips := h.kept ht
  have hport : t.port = s.port := h.kept hp
  exact ⟨by rw [hlink], by rw [hlink], by rw [hlink], by rw [hlink], by rw [hfare], by rw [htrips], by rw [hport], by rw [hport],
    h.1⟩

/-- A state that differs in blocks that no owner of a frame answers for. -/
theorem of_eq {s t : State} (h : t = { s with
    rx := t.rx, tx := t.tx, offers := t.offers, msg := t.msg, emerg := t.emerg, nextUid := t.nextUid }) : FrameKept s t := by
  refine ⟨?_, ?_, ?_, ?_, ?_, ?_, ?_, ?_, ?_⟩ <;> rw [h]

end FrameKept

/-! ## The offer engine (R62, R69, R72 to R74, R80) -/

theorem tabled_kept (t : List OfferEntry) (s : State) : FrameKept s (writeJobPage { s with offers.table := t }) :=
  .trans (.of_eq rfl) (.of_reach (writeJobPage_reach _))

theorem bidFor_kept (e : OfferEntry) (f : OfferFields) (t : List OfferEntry) (s : State) : FrameKept s (bidFor e f t s) := by
  unfold bidFor
  dsimp only
  generalize hx : offerEntry _ s = x
  have hs : FrameKept s x.1 := hx ▸ .of_reach (offerEntry_reach _ s)
  obtain ⟨u, a⟩ := x
  cases a with
  | joined uid => exact hs.trans ((tabled_kept _ u).trans (.of_reach (raise_reach _ _ _)))
  | full => exact hs.trans ((tabled_kept _ u).trans (.of_reach (raise_reach _ _ _)))
  | link => exact hs.trans ((tabled_kept _ u).trans (.of_reach (raise_reach _ _ _)))

theorem offerHeard_kept (source : Nat) (f : OfferFields) (s : State) : FrameKept s (offerHeard source f s).1 := by
  unfold offerHeard
  dsimp only
  split
  · exact .refl s
  split
  · exact .of_eq rfl
  split
  · exact tabled_kept _ s
  · exact bidFor_kept _ f _ s

theorem bidHeard_kept (source : Nat) (f : BidFields) (s : State) : FrameKept s (bidHeard source f s).1 := by
  unfold bidHeard
  split
  · exact .refl s
  split
  · dsimp only
    split
    · exact (FrameKept.of_reach (updateOffer_reach _ _ _)).trans (.of_reach (retractBid_reach _ _ _))
    · exact .of_reach (updateOffer_reach _ _ _)
  · exact .refl s

theorem showPage_kept (n : Nat) (s : State) : FrameKept s (showPage n s) :=
  .trans (.of_eq rfl) (.of_touches (composeMessages_touches _) (by simp))

theorem makeAwarded_kept (id : OfferId) (text : Option (List Byte)) (s : State) : FrameKept s (makeAwarded id text s) :=
  (FrameKept.of_reach (updateOffer_reach _ _ _)).trans ((FrameKept.of_reach (raise_reach _ _ _)).trans (showPage_kept 1 _))

theorem assign_kept (e : OfferEntry) (text : Option (List Byte)) (s : State) : FrameKept s (assign e text s) := by
  have hreuse : FrameKept s (if e.state.isFinal then updateOffer e.id clearForReuse s else s) := by
    split
    · exact .of_reach (updateOffer_reach _ _ _)
    · exact .refl s
  have hback : ∀ u : State, FrameKept u (if e.state = .bidWait then retractBid .award e.id u else u) := fun u => by
    split
    · exact .of_reach (retractBid_reach _ _ _)
    · exact .refl u
  unfold assign
  dsimp only
  split
  · exact hreuse.trans ((makeAwarded_kept _ _ _).trans (hback _))
  · exact hreuse.trans ((FrameKept.of_reach (refuseOwn_reach _ _ _)).trans (hback _))

theorem directAssignment_kept (id : OfferId) (text : Option (List Byte)) (s : State) :
    FrameKept s (directAssignment id text s) := by
  unfold directAssignment
  split
  · exact assign_kept _ _ s
  split
  · exact .trans (.of_eq rfl) (assign_kept _ _ _)
  · exact .trans (.of_eq rfl) (.of_reach (offerEntry_reach _ _))

theorem takeAway_kept (id : OfferId) (st : OfferState) (r : RetractReason) (s : State) : FrameKept s (takeAway id st r s) :=
  .of_reach ((updateOffer_reach _ _ _).trans ((retractBid_reach _ _ _).trans (retractReply_reach _ _ _)))

theorem awardHeard_kept (f : AwardFields) (s : State) : FrameKept s (awardHeard f s).1 := by
  unfold awardHeard awardOwn awardOther
  split
  · split
    · split
      · exact .of_reach (updateOffer_reach _ _ _)
      split
      · exact makeAwarded_kept _ _ s
      · exact directAssignment_kept _ _ s
    · exact directAssignment_kept _ _ s
  · split
    · split
      · exact .refl s
      · exact takeAway_kept _ _ _ s
    · exact .refl s

theorem withdrawHeard_kept (id : OfferId) (s : State) : FrameKept s (withdrawHeard id s).1 := by
  unfold withdrawHeard
  split
  · split
    · exact .refl s
    · exact takeAway_kept _ _ _ s
  · exact .refl s

/-! ## The message unit (R149, R150) -/

theorem storeMessage_kept (p : MsgPair) (fleet : Nat) (f : MessageFields) (s : State) :
    FrameKept s (storeMessage p fleet f s) := by
  have hnew : ∀ u v : State, FrameKept u v → FrameKept u (if f.kind = .priorityText then showPage 2 (raise .messageNew (.message p) v)
      else composeMessages (raise .messageNew (.message p) v)) := fun u v h => by
    refine h.trans ((FrameKept.of_reach (raise_reach .messageNew (.message p) v)).trans ?_)
    split
    · exact showPage_kept 2 _
    · exact .of_touches (composeMessages_touches _) (by simp)
  exact hnew s _ (.of_eq rfl)

theorem evict_kept (m : Message) (s : State) : FrameKept s (evict m s) := by
  unfold evict
  dsimp only
  split <;> exact .of_eq rfl

theorem messageHeard_kept (source dest fleet : Nat) (f : MessageFields) (s : State) :
    FrameKept s (messageHeard source dest fleet f s).1 := by
  unfold messageHeard
  dsimp only
  split
  · exact .refl s
  split
  · exact .refl s
  split
  · exact storeMessage_kept _ _ _ s
  split
  · exact (evict_kept _ s).trans (storeMessage_kept _ _ _ _)
  · exact .of_eq rfl

/-! ## The emergency controller (R174, R179 to R182) -/

theorem hearPair_kept {id : AlarmId} {s t : State} (h : hearPair id s = some t) : FrameKept s t := by
  unfold hearPair at h
  dsimp only at h
  split at h
  · cases h
    exact .of_eq rfl
  split at h
  · cases h
    exact .trans (.of_eq rfl) (.of_reach (raise_reach _ _ _))
  · cases h

theorem relayEmergency_kept (f : EmergencyFields) (hop : Nat) (s : State) : FrameKept s (relayEmergency f hop s) := by
  unfold relayEmergency
  generalize hx : offerEntry _ s = x
  have hs : FrameKept s x.1 := hx ▸ .of_reach (offerEntry_reach _ s)
  obtain ⟨u, a⟩ := x
  cases a with
  | joined uid => exact hs.trans (.of_eq rfl)
  | full => exact hs
  | link => exact hs

theorem relayAck_kept (id : AlarmId) (hop : Nat) (s : State) : FrameKept s (relayAck id hop s) := by
  unfold relayAck
  generalize hx : offerEntry _ s = x
  have hs : FrameKept s x.1 := hx ▸ .of_reach (offerEntry_reach _ s)
  obtain ⟨u, a⟩ := x
  cases a with
  | joined uid => exact hs.trans (.of_eq rfl)
  | full => exact hs
  | link => exact hs

theorem emergencyHeard_kept (f : EmergencyFields) (hop : Nat) (s : State) : FrameKept s (emergencyHeard f hop s).1 := by
  have htreat : ∀ u : State, FrameKept u (treatEmergency f hop u) := fun u => by
    unfold treatEmergency
    repeat' split
    · exact .of_reach (retract_reach _ _)
    · exact .refl u
    · exact relayEmergency_kept f hop u
    · exact .refl u
    · exact .refl u
  unfold emergencyHeard
  split
  · exact .refl s
  split
  · exact .of_eq rfl
  next h => exact (hearPair_kept h).trans (.trans (.of_eq rfl) (htreat _))

theorem showMarker_kept (s : State) : FrameKept s (showMarker s) := .of_eq rfl

theorem ownAck_kept (s : State) : FrameKept s (ownAck s).1 := by
  unfold ownAck
  split
  · exact .trans (.of_eq rfl) ((FrameKept.of_reach (setAlarm_reach .acknowledged _)).trans (showMarker_kept _))
  · exact showMarker_kept s
  · exact .trans (.of_eq rfl) (showMarker_kept _)
  · exact .refl s
  · exact .refl s

theorem ackHeard_kept (id : AlarmId) (hop : Nat) (s : State) : FrameKept s (ackHeard id hop s).1 := by
  have htreat : ∀ u : State, FrameKept u (treatAck id hop u) := fun u => by
    unfold treatAck
    repeat' split
    · exact .of_reach (retract_reach _ _)
    · exact relayAck_kept id hop u
    · exact .refl u
    · exact .refl u
    · exact .refl u
  unfold ackHeard
  split
  · split
    · exact ownAck_kept s
    · exact .refl s
  split
  · exact .of_eq rfl
  next h => exact (hearPair_kept h).trans (htreat _)

/-! ## The receive queues (R31 to R34) -/

theorem receivedNotice_kept (q : RxQueue) (b : Bool) (s : State) : FrameKept s (receivedNotice q b s) := by
  unfold receivedNotice
  split
  · exact .of_reach (raise_reach _ _ _)
  · exact .refl s

theorem forHost_kept (f : RxFrame) (p : RxPayload) (s : State) : FrameKept s (forHost f p s).1 := by
  unfold forHost toPriority toOrdinary
  split
  · exact .trans (.of_eq rfl) (receivedNotice_kept _ _ _)
  · exact .trans (.of_eq rfl) (receivedNotice_kept _ _ _)
  · exact .refl s

/-! ## The filter and the frame's end -/

theorem route_kept {k : FrameKind} {f : RxFrame} {s : State} {r : State × Verdict} (h : route k f s = some r) :
    FrameKept s r.1 := by
  unfold route at h
  split at h
  all_goals first
    | obtain ⟨p, -, rfl⟩ := Option.map_eq_some_iff.1 h
    | cases h
  · exact offerHeard_kept _ _ s
  · exact bidHeard_kept _ _ s
  · exact awardHeard_kept _ s
  · exact withdrawHeard_kept _ s
  · exact messageHeard_kept _ _ _ _ s
  · exact emergencyHeard_kept _ _ s
  · exact ackHeard_kept _ _ s
  · exact forHost_kept _ _ s
  · exact forHost_kept _ _ s
  all_goals exact .refl s

theorem takeFrame_kept (k : FrameKind) (f : RxFrame) (s : State) : FrameKept s (takeFrame k f s).1 := by
  unfold takeFrame filterFrame useLack
  split
  · dsimp only
    split
    · exact ⟨rfl, rfl, rfl, rfl, rfl, rfl, rfl, rfl, rfl⟩
    · exact .refl s
  split
  · split
    · split
      next h => exact route_kept h
      next => exact .of_eq rfl
    · exact .of_eq rfl
  · exact .refl s

theorem keyLack_kept (f : RxFrame) (s : State) : FrameKept s (keyLack f s) ∧ (keyLack f s).link.carrier = s.link.carrier := by
  have hback := FrameKept.of_reach (handBackDeferring_reach s)
  have haside := handBackDeferring_aside s
  exact ⟨hback.trans ⟨rfl, rfl, rfl, rfl, rfl, rfl, rfl, rfl, rfl⟩, (congrArg Link.carrier haside :)⟩

theorem endOfFrame_kept {k : FrameKind} {f : RxFrame} {v : Verdict} {s : State} (hd : s.link.decisionWaits = false) :
    FrameKept s (endOfFrame k f v s) ∧ (endOfFrame k f v s).link.carrier = false := by
  have hgap : ∀ g, FrameKept s (gapAfter g s) ∧ (gapAfter g s).link.carrier = false := fun g =>
    ⟨⟨rfl, rfl, rfl, rfl, rfl, rfl, rfl, rfl, rfl⟩, rfl⟩
  have hsent : ∀ (b : Bool) (w : State), FrameKept w (if b then keyLack f w else w)
      ∧ (if b then keyLack f w else w).link.carrier = w.link.carrier := fun b w => by
    cases b
    · exact ⟨.refl w, rfl⟩
    · exact keyLack_kept f w
  unfold endOfFrame
  dsimp only
  obtain ⟨hkept, hcar⟩ := hgap (if f.needsLack then .ack else .idle)
  generalize gapAfter (if f.needsLack then .ack else .idle) s = w at *
  obtain ⟨hkeyed, hkeyedcar⟩ := hsent (lackOwed k f s && v.acked && lackAllowed s) w
  generalize (if (lackOwed k f s && v.acked && lackAllowed s) = true then keyLack f w else w) = x at *
  have hall := hkept.trans hkeyed
  rw [afterCarrier, hall.decisionWaits, hd]
  have haside := channelBecomesFree_aside x
  exact ⟨hall.trans (.of_reach (channelBecomesFree_reach x)), (congrArg Link.carrier haside :).trans (hkeyedcar.trans hcar)⟩

theorem hearPass_kept (s : State) :
    (hearPass s).link.hfc = s.link.hfc - 1 ∧ FrameKept (heardWell s) (hearPass s) := by
  have h := FrameKept.of_reach (evaluateLink_reach (heardWell s))
  exact ⟨h.hfc, h⟩

theorem ensureCarrier_kept (s : State) : FrameKept s (ensureCarrier s) := by
  have hback : ∀ u v : State, FrameKept u v → FrameKept u (handBackDeferring v) := fun u v h =>
    h.trans (.of_reach (handBackDeferring_reach v))
  unfold ensureCarrier carrierAppears
  split
  · exact .refl s
  split
  · exact .refl s
  split
  · refine hback s _ ⟨rfl, rfl, rfl, rfl, rfl, rfl, rfl, rfl, rfl⟩
  · exact ⟨rfl, rfl, rfl, rfl, rfl, rfl, rfl, rfl, rfl⟩

theorem exec_frameCommand (k : FrameKind) (f : RxFrame) (s : State) :
    exec (frameCommand k f) s = .next (settle (arrive k f s)) := by
  cases k <;> rfl

theorem everyFrameLowersHfc : EveryFrameLowersHfc := by
  intro k f s hs hk hd
  have hrun : arrive k f s = endOfFrame k f (takeFrame k f (hearPass (ensureCarrier s))).2
      (takeFrame k f (hearPass (ensureCarrier s))).1 := by
    simp [arrive, hk, running_of_up hs]
  have hensured := ensureCarrier_kept s
  obtain ⟨hhfc, hheard⟩ := hearPass_kept (ensureCarrier s)
  have htaken := takeFrame_kept k f (hearPass (ensureCarrier s))
  generalize hearPass (ensureCarrier s) = u at *
  have hwaits : (takeFrame k f u).1.link.decisionWaits = false := by
    rw [htaken.decisionWaits, hheard.decisionWaits]
    exact hensured.decisionWaits.trans hd
  obtain ⟨hend, hcar⟩ := endOfFrame_kept (k := k) (f := f) (v := (takeFrame k f u).2) hwaits
  have hall := htaken.trans hend
  rw [← hrun] at hall hcar
  refine completes_of (exec_frameCommand k f s) ⟨?_, ?_, ?_, ?_, ?_, ?_, ?_, ?_, ?_⟩ <;> simp only [settle_keeps]
  · rw [hall.hfc, hhfc, hensured.hfc]
  · rw [hall.sfc, hheard.sfc]
    exact hensured.sfc
  · rw [hall.lastFault, hheard.lastFault]
    exact hensured.lastFault
  · exact hcar
  · rw [hall.meter, hheard.meter]
    exact hensured.meter
  · rw [hall.totals, hheard.totals]
    exact hensured.totals
  · rw [hall.response, hheard.response]
    exact hensured.response
  · rw [hall.requestCount, hheard.requestCount]
    exact hensured.requestCount
  · rw [hall.pending, hheard.pending]
    exact hensured.pending

end Sys2Proof.Claims
end

section
/-! SUPPORT. The screens, the ranges and the kinds without an owner (R23 to R29). -/

namespace Sys2Proof.Claims

open Sys2Proof.Machine

theorem screened_iff (k : FrameKind) (f : RxFrame) (s : State) : screened k f s = true ↔ PassesScreens k f s := by
  simp [screened, ownSource, fleetPasses, destPasses, inRange, PassesScreens, destFleet, destAll, and_assoc, or_assoc]

theorem headerOk_iff (k : FrameKind) (f : RxFrame) : headerOk k f = true ↔ HeaderInRange k f := by
  simp [headerOk, inRange, HeaderInRange, and_assoc, or_assoc]

theorem route_malformed {k : FrameKind} {f : RxFrame} (s : State) (h : payloadOk k f.payload = false) : route k f s = none := by
  cases k <;> simp_all [payloadOk, route, need, unownedOk]

theorem route_unowned {k : FrameKind} {f : RxFrame} (s : State)
    (hk : k = .accept ∨ k = .refuse ∨ k = .tripReport ∨ k = .receipt) (h : payloadOk k f.payload = true) :
    route k f s = some (s, .notStored) := by
  obtain rfl | rfl | rfl | rfl := hk <;> simp_all [payloadOk, route, need, unownedOk]

/-- The end of a frame that no LACK answers. -/
theorem endOfFrame_unanswered {k : FrameKind} {f : RxFrame} {v : Verdict} {s : State} (hv : (lackOwed k f s && v.acked && lackAllowed s) = false)
    (hg : s.link.carrierInAckGap = false) (hd : s.link.decisionWaits = false) :
    endOfFrame k f v s = { s with link := carrierEnded (if f.needsLack then .ack else .idle) s.link } := by
  rw [endOfFrame, hv, gapAfter_heard hg]
  exact afterCarrier_gap hd rfl

/-- A frame heard out that nothing stores: what is left of it. -/
theorem arrive_unstored {k : FrameKind} {f : RxFrame} {u s : State} (h : Hears s) (hk : k ≠ .lack)
    (hu : filterFrame k f (heardWell s) = (u, .notStored)) (hlink : u.link = (heardWell s).link) :
    arrive k f s = { u with link := afterFrame f s } := by
  obtain ⟨⟨hs, hkeyed, hcar, hgap, hd⟩, hsteady⟩ := h
  rw [arrive_up hs hkeyed hcar, hearPass_steady hsteady, takeFrame, if_neg hk, hu,
    endOfFrame_unanswered (by simp [Verdict.acked]) (by rw [hlink]; exact hgap) (by rw [hlink]; exact hd), hlink]
  simp [carrierEnded, heardWell, afterFrame, hgap]

theorem framesAreScreenedAndChecked : FramesAreScreenedAndChecked := by
  intro k f s h hk
  refine ⟨fun hp => ?_, fun hp hbad => ?_, fun hp hkind hr hok => ?_⟩
  · have hstop : filterFrame k f (heardWell s) = (heardWell s, .notStored) :=
      if_neg (by rw [screened_iff]; exact hp)
    exact completes_link ((exec_frameCommand k f s).trans
      (congrArg (fun u => Host.Outcome.next (settle u)) (arrive_unstored (u := heardWell s) h hk hstop rfl)))
  · have hscreen : screened k f (heardWell s) = true := (screened_iff _ _ _).2 hp
    have hstop : filterFrame k f (heardWell s) = (countMalformed (heardWell s), .notStored) := by
      rw [filterFrame, if_pos hscreen]
      by_cases hr : HeaderInRange k f
      · rw [if_pos ((headerOk_iff _ _).2 hr), route_malformed _ (hbad.resolve_left (not_not_intro hr))]
      · rw [if_neg (by rwa [headerOk_iff])]
    have hrun := arrive_unstored h hk hstop rfl
    exact completes_of ((exec_frameCommand k f s).trans (congrArg (fun u => Host.Outcome.next (settle u)) hrun))
      ⟨by simp, by simp [countMalformed, satAdd, heardWell],
        onlyTouches_settle ⟨rfl, fun b => by cases b <;> simp [Kept, countMalformed, heardWell]⟩⟩
  · have hscreen : screened k f (heardWell s) = true := (screened_iff _ _ _).2 hp
    have hstop : filterFrame k f (heardWell s) = (heardWell s, .notStored) := by
      rw [filterFrame, if_pos hscreen, if_pos ((headerOk_iff _ _).2 hr), route_unowned _ hkind hok]
    exact completes_link ((exec_frameCommand k f s).trans
      (congrArg (fun u => Host.Outcome.next (settle u)) (arrive_unstored (u := heardWell s) h hk hstop rfl)))

theorem frameMovesTheLink : FrameMovesTheLink := by
  intro k f l s h hk hp hm
  obtain ⟨hs, hkeyed, hcar, hgap, hd⟩ := h
  have hmoves := evaluateLink_moves (s := heardWell s) hm
  have hlink : (evaluateLink (heardWell s)).link = { (heardWell s).link with state := l } := hmoves.1
  obtain ⟨hrx, -⟩ := (evaluateLink_reach (heardWell s)).keeps
  have hnot : ¬ PassesScreens k f (evaluateLink (heardWell s)) := by
    rw [PassesScreens, hlink, hrx]
    exact hp
  have hstop : filterFrame k f (evaluateLink (heardWell s)) = (evaluateLink (heardWell s), .notStored) :=
    if_neg (by rw [screened_iff]; exact hnot)
  have hrun : arrive k f s = { evaluateLink (heardWell s) with
      link := carrierEnded (if f.needsLack then .ack else .idle) (evaluateLink (heardWell s)).link } := by
    rw [arrive_up hs hkeyed hcar, hearPass_eq, takeFrame, if_neg hk, hstop,
      endOfFrame_unanswered (by simp [Verdict.acked]) (by rw [hlink]; exact hgap) (by rw [hlink]; exact hd)]
  refine completes_of ((exec_frameCommand k f s).trans (congrArg (fun u => Host.Outcome.next (settle u)) hrun))
    (linkMovesTo_settle hmoves rfl ?_)
  rw [hlink]
  simp [carrierEnded, heardWell, afterFrame, hgap]

/-- Settles O33. -/
theorem framesAreCountedScreenedAndChecked : Obligations.FramesAreCountedScreenedAndChecked :=
  ⟨everyFrameLowersHfc, framesAreScreenedAndChecked, frameMovesTheLink⟩

end Sys2Proof.Claims
end

section
/-! SUPPORT. A frame that its owner takes, and its LACK (R14, R23, R30 to R34, R43). -/

namespace Sys2Proof.Claims

open Sys2Proof.Machine

/-- The link controller as it keys the LACK of a frame heard out (R14). -/
def lackingLink (f : RxFrame) (s : State) : Link :=
  { afterFrame f s with
    side := .lacking, keyed := true, keyFault := false, txSlots := 3,
    txFrame := encodeFrame .lack ⟨s.link.fleet.getD 0, s.link.station.getD 0, f.source, f.seq, 0, false, false,
      [byteOf f.seq]⟩ }

theorem heardWell_touches (s : State) : OnlyTouches [.link] s (heardWell s) :=
  ⟨rfl, fun b => by cases b <;> simp [Kept, heardWell]⟩

/-- The LACK of a frame is keyed. -/
def lackSent (k : FrameKind) (f : RxFrame) (v : Verdict) (s : State) : Bool := lackOwed k f s && v.acked && lackAllowed s

theorem lackSent_congr {k : FrameKind} {f : RxFrame} {v : Verdict} {s t : State} (h : t.link = s.link) :
    lackSent k f v t = lackSent k f v s := by
  simp [lackSent, lackOwed, lackAllowed, ownSource, h]

/-- The end of a frame whose carrier began outside an ack gap, with no decision waiting. -/
theorem endOfFrame_heard {k : FrameKind} {f : RxFrame} {v : Verdict} {s : State} (hg : s.link.carrierInAckGap = false)
    (hd : s.link.decisionWaits = false) :
    endOfFrame k f v s = if lackSent k f v s then
        keyLack f { s with link := carrierEnded (if f.needsLack then .ack else .idle) s.link }
      else { s with link := carrierEnded (if f.needsLack then .ack else .idle) s.link } := by
  unfold endOfFrame
  dsimp only
  rw [gapAfter_heard hg, lackSent]
  have haside := handBackDeferring_aside { s with link := carrierEnded (if f.needsLack then .ack else .idle) s.link }
  split
  · refine afterCarrier_gap (g := if f.needsLack then .ack else .idle) ((congrArg Link.decisionWaits haside :).trans hd) ?_
    exact (congrArg Link.gap haside :)
  · exact afterCarrier_gap (g := if f.needsLack then .ack else .idle) hd rfl

/-- A frame heard out and taken by its owner, whose link stands. -/
theorem arrive_taken {k : FrameKind} {f : RxFrame} {u s : State} {v : Verdict} (h : Hears s) (hk : k ≠ .lack)
    (hu : filterFrame k f (heardWell s) = (u, v)) (hlink : u.link = (heardWell s).link) :
    arrive k f s = if lackSent k f v s then keyLack f { u with link := afterFrame f s }
      else { u with link := afterFrame f s } := by
  obtain ⟨⟨hs, hkeyed, hcar, hgap, hd⟩, hsteady⟩ := h
  have hend : carrierEnded (if f.needsLack then .ack else .idle) u.link = afterFrame f s := by
    rw [hlink]
    simp [carrierEnded, heardWell, afterFrame, hgap]
  have hsent : lackSent k f v u = lackSent k f v s := by
    rw [lackSent_congr hlink]
    rfl
  rw [arrive_up hs hkeyed hcar, hearPass_steady hsteady, takeFrame, if_neg hk, hu,
    endOfFrame_heard (by rw [hlink]; exact hgap) (by rw [hlink]; exact hd), hend, hsent]

/-- A LACK keyed while no BID is held. -/
theorem keyLack_idle {f : RxFrame} {u s : State} (h : s.link.side ≠ .deferring) :
    keyLack f { u with link := afterFrame f s } = { u with link := lackingLink f s } := by
  have hback : handBackDeferring { u with link := afterFrame f s } = { u with link := afterFrame f s } := if_neg h
  rw [keyLack, hback]
  rfl

theorem filterFrame_accepted {k : FrameKind} {f : RxFrame} {s : State} {r : State × Verdict} (hp : PassesScreens k f s)
    (hr : HeaderInRange k f) (hroute : route k f (heardWell s) = some r) : filterFrame k f (heardWell s) = r := by
  have hscreen : screened k f (heardWell s) = true := (screened_iff _ _ _).2 hp
  rw [filterFrame, if_pos hscreen, if_pos ((headerOk_iff _ _).2 hr), hroute]

/-- The link controller after a frame that its owner answered with `v`. -/
def linkAfter (k : FrameKind) (f : RxFrame) (v : Verdict) (s : State) : Link :=
  if lackSent k f v s then lackingLink f s else afterFrame f s

theorem linkAfter_notStored (k : FrameKind) (f : RxFrame) (s : State) : linkAfter k f .notStored s = afterFrame f s := by
  simp [linkAfter, lackSent, Verdict.acked]

theorem linkAfter_unasked {k : FrameKind} {f : RxFrame} {v : Verdict} {s : State} (h : f.needsLack = false) :
    linkAfter k f v s = afterFrame f s := by
  simp [linkAfter, lackSent, lackOwed, h]

/-- A frame accepted and taken by its owner: what completes. -/
theorem accepted_completes {k : FrameKind} {f : RxFrame} {u s : State} {v : Verdict} {post : State → Prop}
    (h : Accepted k f s) (hk : k ≠ .lack) (hroute : route k f (heardWell s) = some (u, v))
    (hlink : u.link = (heardWell s).link) (hpost : post (settle { u with link := linkAfter k f v s })) :
    Completes (frameCommand k f) s post := by
  obtain ⟨hears, hp, hr, hside⟩ := h
  have hrun := arrive_taken hears hk (filterFrame_accepted hp hr hroute) hlink
  refine completes_of ((exec_frameCommand k f s).trans (congrArg (fun u => Host.Outcome.next (settle u)) hrun)) ?_
  rw [linkAfter] at hpost
  by_cases hsent : lackSent k f v s = true
  · have hasked : f.needsLack = true := by
      by_contra hno
      simp [lackSent, lackOwed, hno] at hsent
    rw [if_pos hsent, keyLack_idle (hside hasked)]
    rwa [if_pos hsent] at hpost
  · rw [if_neg hsent]
    rwa [if_neg hsent] at hpost

theorem accepted_touches {may : List Block} {u s : State} {l : Link} (h : OnlyTouches may (heardWell s) u)
    (hm : .link ∈ may) : OnlyTouches may s (settle { u with link := l }) := by
  have hall : OnlyTouches may s u := ((heardWell_touches s).widen (by simpa using hm)).trans h
  refine onlyTouches_settle ⟨hall.1, fun b => ?_⟩
  obtain hb | hb := hall.2 b
  · exact .inl hb
  · cases b
    case link => exact .inl hm
    all_goals exact .inr hb

/-- A frame that its owner drops changes the link alone. -/
theorem accepted_dropped {k : FrameKind} {f : RxFrame} {s : State} (h : Accepted k f s) (hk : k ≠ .lack)
    (hroute : route k f (heardWell s) = some (heardWell s, .notStored)) :
    Completes (frameCommand k f) s fun t => t.link = afterFrame f s ∧ OnlyTouches [.link] s t :=
  accepted_completes h hk hroute rfl
    ⟨by rw [linkAfter_notStored]; simp, accepted_touches (onlyTouches_refl _ _) (by simp)⟩

end Sys2Proof.Claims
end

section
/-! SUPPORT. BEACON and TERMINAL_DATA and the receive queues (R14, R30 to R34). -/

namespace Sys2Proof.Claims

open Sys2Proof.Machine

theorem lackSent_of_owed {k : FrameKind} {f : RxFrame} {v : Verdict} {s : State} (hs : s.link.station ≠ some f.source)
    (h : f.needsLack = true ∧ s.link.station = some f.dest)
    (hside : s.link.side = .idle ∨ s.link.side = .deferring) (hm : s.link.state ≠ .silent ∧ s.link.state ≠ .recovering)
    (hg : s.link.carrierInAckGap = false) (hk : k ≠ .emergency ∧ k ≠ .emergencyAck) :
    lackOwed k f s = true ∧ lackAllowed s = true ∧ lackSent k f v s = v.acked := by
  obtain ⟨hask, hstation⟩ := h
  obtain ⟨hsil, hrec⟩ := hm
  have howed : lackOwed k f s = true := by simp_all [lackOwed, ownSource]
  have hmute : s.link.state.mute = false := by
    cases hl : s.link.state <;> simp_all [LinkState.mute]
  have hallowed : lackAllowed s = true := by
    rcases hside with h | h <;> simp [lackAllowed, hmute, TxSide.noExchange, h, hg]
  exact ⟨howed, hallowed, by simp [lackSent, howed, hallowed]⟩

theorem rxEntry_sent {f : RxFrame} {p : RxPayload} {s : State} (howed : lackOwed p.kind f s = true)
    (hallowed : lackAllowed s = true) : rxEntry f p (heardWell s) = receivedEntry f p .sent s := by
  have hl : lackStateOf p.kind f (heardWell s) = .sent := by
    rw [lackStateOf, if_pos (by exact howed), if_pos (by exact hallowed)]
  rw [rxEntry, hl]
  rfl

theorem rxEntry_notOwed {f : RxFrame} {p : RxPayload} (s : State) (h : f.needsLack = false) :
    rxEntry f p (heardWell s) = receivedEntry f p .notOwed s := by
  have hl : lackStateOf p.kind f (heardWell s) = .notOwed := by simp [lackStateOf, lackOwed, h]
  rw [rxEntry, hl]
  rfl

/-! ## The two receive queues -/

theorem toOrdinary_room {e : RxEntry} {s : State} (h : s.rx.ordinaryQueue.length < 24) :
    toOrdinary e s = (raise .received (.queue .ordinary)
      { s with rx := { s.rx with ordinaryQueue := s.rx.ordinaryQueue ++ [e] } }, .stored) := by
  have hroom : s.rx.ordinaryQueue.length < Config.ordinaryCapacity := h
  simp [toOrdinary, queueJoin, hroom, receivedNotice, storedVerdict]

theorem toOrdinary_blocked {e : RxEntry} {s : State} (h : 24 ≤ s.rx.ordinaryQueue.length)
    (hm : s.rx.ordinaryMode = .blocking) :
    toOrdinary e s = ({ s with rx := { s.rx with ordinaryLost := min 255 (s.rx.ordinaryLost + 1) } }, .notStored) := by
  have hfull : ¬ s.rx.ordinaryQueue.length < Config.ordinaryCapacity := by simpa [Config.ordinaryCapacity] using h
  simp [toOrdinary, queueJoin, hfull, hm, receivedNotice, storedVerdict, satAdd]

theorem toOrdinary_overwrites {e : RxEntry} {s : State} (h : 24 ≤ s.rx.ordinaryQueue.length)
    (hm : s.rx.ordinaryMode = .overwrite) :
    toOrdinary e s = (raise .received (.queue .ordinary)
      { s with rx := { s.rx with
          ordinaryQueue := s.rx.ordinaryQueue.drop 1 ++ [e], ordinaryLost := min 255 (s.rx.ordinaryLost + 1) } }, .stored) := by
  have hfull : ¬ s.rx.ordinaryQueue.length < Config.ordinaryCapacity := by simpa [Config.ordinaryCapacity] using h
  simp [toOrdinary, queueJoin, hfull, hm, receivedNotice, storedVerdict, satAdd]

theorem toPriority_room {e : RxEntry} {s : State} (h : s.rx.priorityQueue.length < 8) :
    toPriority e s = (raise .received (.queue .priority)
      { s with rx := { s.rx with priorityQueue := s.rx.priorityQueue ++ [e] } }, .stored) := by
  have hroom : s.rx.priorityQueue.length < Config.priorityCapacity := h
  simp [toPriority, queueJoin, hroom, receivedNotice, storedVerdict]

/-- The receive filter's block changed alone, perhaps with its notice raised. -/
theorem received_touches (q : RxQueue) (r : Rx) (s : State) :
    OnlyTouches [.rx, .port] s (raise .received (.queue q) { s with rx := r }) := by
  have hset : OnlyTouches [.rx, .port] s { s with rx := r } := ⟨rfl, fun b => by cases b <;> simp [Kept]⟩
  exact hset.trans ((raise_touches _ _ _).widen (by simp))

theorem parseData_of_length {bs : List Byte} (h : 1 ≤ bs.length) (h64 : bs.length ≤ 64) : parseData bs = some bs := by
  simp [parseData, inRange, h, h64]

/-- With an empty acceptance list and the default action the ordinary queue is offered the frame. -/
theorem route_terminalData {f : RxFrame} {s : State} (h : 1 ≤ f.payload.length) (h64 : f.payload.length ≤ 64)
    (ha : s.rx.acceptance = []) (hd : s.rx.defaultAction = .toOrdinary) :
    route .terminalData f s = some (toOrdinary (rxEntry f (.data f.payload) s) s) := by
  simp [route, parseData_of_length h h64, forHost, acceptAction, ha, hd]

theorem terminalDataFillsTheQueue : TerminalDataFillsTheQueue := by
  intro f s h hlen h64 hcan ha hd
  obtain ⟨⟨⟨-, -, -, hgap, -⟩, -⟩, ⟨hsrc, -⟩, -⟩ := id h
  obtain ⟨hask, hstation, hidle, hsil, hrec⟩ := hcan
  obtain ⟨howed, hallowed, hsent⟩ := lackSent_of_owed (k := .terminalData) (v := .stored) hsrc ⟨hask, hstation⟩ (.inl hidle)
    ⟨hsil, hrec⟩ hgap (by simp)
  have hroute := route_terminalData (s := heardWell s) hlen h64 ha hd
  rw [rxEntry_sent (p := .data f.payload) (by exact howed) hallowed] at hroute
  have hkeyed : linkAfter .terminalData f .stored s = lackingLink f s := if_pos hsent
  refine ⟨fun hroom => ?_, fun hfull hm => ?_, fun hfull hm => ?_⟩
  · rw [toOrdinary_room (by exact hroom)] at hroute
    exact accepted_completes h (by simp) hroute (by simp) ⟨by rw [hkeyed]; simp [LackKeyed, lackingLink], by simp [heardWell],
      by simp only [settle_keeps]; exact raise_port _ _ _ _ rfl,
      accepted_touches ((received_touches _ _ _).widen (by simp)) (by simp)⟩
  · rw [toOrdinary_blocked (by exact hfull) (by exact hm)] at hroute
    exact accepted_completes h (by simp) hroute (by simp) ⟨by rw [linkAfter_notStored]; simp, by simp [heardWell],
      accepted_touches ⟨rfl, fun b => by cases b <;> simp [Kept, heardWell]⟩ (by simp)⟩
  · rw [toOrdinary_overwrites (by exact hfull) (by exact hm)] at hroute
    exact accepted_completes h (by simp) hroute (by simp) ⟨by rw [hkeyed]; simp [LackKeyed, lackingLink], by simp [heardWell],
      by simp only [settle_keeps]; exact raise_port _ _ _ _ rfl,
      accepted_touches ((received_touches _ _ _).widen (by simp)) (by simp)⟩

theorem beaconFollowsTheAcceptanceList : BeaconFollowsTheAcceptanceList := by
  intro f p a rest s h hp hask ha hb hlo hhi
  have hfirst : acceptMatches (.beacon p) f.source a = true := by
    simp [acceptMatches, RxPayload.kind, hb, inRange, hlo, hhi]
  have haction : acceptAction (.beacon p) f.source (heardWell s) = a.action := by
    simp [acceptAction, heardWell, ha, hfirst]
  refine ⟨fun hact hroom => ?_, fun hact => ?_⟩
  · have hroute : route .beacon f (heardWell s) = some (toPriority (rxEntry f (.beacon p) (heardWell s)) (heardWell s)) := by
      simp [route, hp, forHost, haction, hact]
    rw [rxEntry_notOwed s hask, toPriority_room (by exact hroom)] at hroute
    exact accepted_completes h (by simp) hroute (by simp) ⟨by rw [linkAfter_unasked hask]; simp, by simp [heardWell],
      by simp only [settle_keeps]; exact raise_port _ _ _ _ rfl,
      accepted_touches ((received_touches _ _ _).widen (by simp)) (by simp)⟩
  · exact accepted_dropped h (by simp) (by simp [route, hp, forHost, haction, hact])

/-- A LACK keyed while a BID is held for its wait: the BID waits again. -/
theorem keyLack_deferring {f : RxFrame} {u s : State} (h : s.link.side = .deferring) :
    keyLack f { u with link := afterFrame f s } =
      { u with link := lackingLink f { s with link.deferral := none }, tx := { u.tx with queue := handedBack u.tx.queue } } := by
  have hback : handBackDeferring { u with link := afterFrame f s } = { u with
      link := { afterFrame f s with side := .idle, deferral := none }
      tx := { u.tx with queue := handedBack u.tx.queue } } := by
    refine (if_pos h).trans ?_
    simp [updateWhere, handedBack]
  rw [keyLack, hback]
  rfl

theorem lackHandsAHeldBidBack : LackHandsAHeldBidBack := by
  intro f s hears hp hr hlen h64 hask hstation hside hsil hrec ha hd hroom
  obtain ⟨⟨-, -, -, hgap, -⟩, -⟩ := id hears
  obtain ⟨hsrc, -⟩ := id hp
  obtain ⟨howed, hallowed, hsent⟩ := lackSent_of_owed (k := .terminalData) (v := .stored) hsrc ⟨hask, hstation⟩ (.inr hside)
    ⟨hsil, hrec⟩ hgap (by simp)
  have hroute := route_terminalData (s := heardWell s) hlen h64 ha hd
  rw [rxEntry_sent (p := .data f.payload) (by exact howed) hallowed, toOrdinary_room (by exact hroom)] at hroute
  have hrun := arrive_taken hears (by simp) (filterFrame_accepted hp hr hroute) (by simp)
  rw [hsent, Verdict.acked, if_pos rfl, keyLack_deferring hside] at hrun
  refine completes_of ((exec_frameCommand _ f s).trans (congrArg (fun u => Host.Outcome.next (settle u)) hrun)) ⟨?_, ?_, ?_, ?_, ?_⟩
  · simp [LackKeyed, lackingLink]
  · simp [heardWell]
  · simp [heardWell]
  · simp only [settle_keeps]
    exact raise_port _ _ _ _ rfl
  · have htouch := ((received_touches .ordinary { (heardWell s).rx with
        ordinaryQueue := (heardWell s).rx.ordinaryQueue ++ [receivedEntry f (.data f.payload) .sent s] } (heardWell s)).widen
          (more := [.link, .tx, .rx, .port]) (by simp))
    have hall := ((heardWell_touches s).widen (by simp)).trans htouch
    exact onlyTouches_settle (hall.trans ⟨rfl, fun b => by cases b <;> simp [Kept]⟩)

/-- Settles O39. -/
theorem hostFramesFillTheReceiveQueues : Obligations.HostFramesFillTheReceiveQueues :=
  ⟨terminalDataFillsTheQueue, beaconFollowsTheAcceptanceList, lackHandsAHeldBidBack⟩

end Sys2Proof.Claims
end

section
/-! SUPPORT. An OFFER heard: the place it finds, whether it may be bid for, and its BID (R60, R62, R64, R66, R67). -/

namespace Sys2Proof.Claims

open Sys2Proof.Machine

/-! ## The table -/

theorem isFinal_iff (st : OfferState) : st.isFinal = true ↔ st ∈ finalStates := by
  cases st <;> simp [OfferState.isFinal, finalStates]

theorem evictFinal_split {before after : List OfferEntry} {d : OfferEntry} (hb : ∀ a ∈ before, a.state ∉ finalStates)
    (hd : d.state ∈ finalStates) : evictFinal (before ++ d :: after) = before ++ after := by
  induction before with
  | nil => simp [evictFinal, (isFinal_iff _).2 hd]
  | cons a before ih =>
    have ha : a.state.isFinal = false := by
      rw [Bool.eq_false_iff, ne_eq, isFinal_iff]
      exact hb a (by simp)
    simp [evictFinal, ha, ih fun b hb' => hb b (by simp [hb'])]

theorem roomFor_of_room {rest : List OfferEntry} {s : State} (h : RoomIn rest s) : roomFor s.offers.table = some rest := by
  obtain ⟨hlen, hrest⟩ | ⟨before, after, d, htable, hlen, hbefore, hd, hrest⟩ := h
  · have hroom : s.offers.table.length < Config.offerCapacity := hlen
    rw [roomFor, if_pos hroom, hrest]
  · have hfull : ¬ s.offers.table.length < Config.offerCapacity := by simpa [Config.offerCapacity] using hlen
    have hany : s.offers.table.any (·.state.isFinal) = true := by
      rw [List.any_eq_true]
      exact ⟨d, by simp [htable], (isFinal_iff _).2 hd⟩
    rw [roomFor, if_neg hfull, if_pos hany, htable, evictFinal_split hbefore hd, hrest]

theorem roomFor_none {t : List OfferEntry} (h : ∀ e ∈ t, e.state ∉ finalStates) (hlen : 8 ≤ t.length) : roomFor t = none := by
  have hfull : ¬ t.length < Config.offerCapacity := by simpa [Config.offerCapacity] using hlen
  have hany : ¬ t.any (·.state.isFinal) = true := by
    rw [List.any_eq_true]
    rintro ⟨e, he, hfin⟩
    exact h e he ((isFinal_iff _).1 hfin)
  rw [roomFor, if_neg hfull, if_neg hany]

/-! ## Eligibility and rank -/

theorem ineligible_eq_whyNot (p : OfferFields) (s : State) : ineligible false (some p.need) s = whyNot p s := by
  cases hj : s.offers.heldJob <;> cases hc : s.offers.cell <;> simp [ineligible, whyNot, mute_iff, hj, hc]

theorem distance_eq (a b : Cell) :
    distance a b = min 127 ((max a.x b.x - min a.x b.x) + (max a.y b.y - min a.y b.y)) := by
  unfold distance
  omega

theorem linkPenalty_eq (l : LinkState) : linkPenalty l = if l = .active then 0 else if l = .warned then 16 else 32 := by
  cases l <;> rfl

theorem ownRank_eq (own pickup : Cell) (l : LinkState) (idle : Nat) : ownRank own pickup l idle = rankOf own pickup l idle := by
  rw [ownRank, distance_eq, linkPenalty_eq, idleBonus, rankOf]

/-! ## What becomes of an OFFER -/

/-- A new table is stored and the job page follows. -/
theorem tabled_touches (t : List OfferEntry) (s : State) :
    OnlyTouches [.offers, .msg] s (writeJobPage { s with offers := { s.offers with table := t } }) := by
  have hset : OnlyTouches [.offers, .msg] s { s with offers := { s.offers with table := t } } :=
    ⟨rfl, fun b => by cases b <;> simp [Kept]⟩
  exact hset.trans ((writeJobPage_touches _).widen (by simp))

/-- A new entry stands at the end of the table, and one notice is raised. -/
theorem tabled_raise_touches (t : List OfferEntry) (k : NoticeKind) (j : Subject) (s : State) :
    OnlyTouches [.offers, .msg, .port] s (raise k j (writeJobPage { s with offers := { s.offers with table := t } })) :=
  ((tabled_touches t s).widen (by simp)).trans ((raise_touches k j _).widen (by simp))

theorem bidFor_joins {e : OfferEntry} {f : OfferFields} {t : List OfferEntry} {own : Cell} {s : State}
    (hq : ReplyJoinsQuietly s) (hl : s.link.state.mute = false) (hcell : s.offers.cell = some own) :
    let rank := rankOf own f.pickup s.link.state s.offers.idleMinutes
    let slot := rank * (f.window - 1) / 255
    ∃ v : State, v = joined (bidEntry e.id rank slot f.window s) s
      ∧ bidFor e f t s = raise .offerHeard (.offer e.id) (writeJobPage { v with offers := { v.offers with
          table := t ++ [{ e with
            rank := some rank, bidSlot := some slot, state := .bidWait, bidFrame := some ⟨s.nextUid, none⟩ }] } }) := by
  intro rank slot
  obtain ⟨hlen, hord, hi, hc⟩ := hq
  have hjoins := offerEntry_quiet (e := bidEntry e.id rank slot f.window s) hlen hord (quiescent_of_busy hi hc) hl
  refine ⟨_, rfl, ?_⟩
  have hc : s.cell = own := by simp [State.cell, hcell]
  simp only [bidFor, hc, ownRank_eq, bidSlotOf]
  rw [hjoins]

theorem bidFor_refused {e : OfferEntry} {f : OfferFields} {t : List OfferEntry} {own : Cell} {s : State}
    (hq : QueueRefuses s) (hcell : s.offers.cell = some own) :
    let rank := rankOf own f.pickup s.link.state s.offers.idleMinutes
    let slot := rank * (f.window - 1) / 255
    bidFor e f t s = raise .offerChanged (.offer e.id) (writeJobPage { s with offers := { s.offers with
      table := t ++ [{ e with rank := some rank, bidSlot := some slot, state := .missed }] } }) := by
  intro rank slot
  have hfull := offerEntry_full (bidEntry e.id rank slot f.window s) (s := s)
    (hq.imp id fun h => ⟨by simp [bidEntry, newEntry], by simp [bidEntry, newEntry], h⟩)
  have hc : s.cell = own := by simp [State.cell, hcell]
  simp only [bidFor, hc, ownRank_eq, bidSlotOf]
  rw [hfull]

theorem notMute_of_whyNot {p : OfferFields} {s : State} (h : whyNot p s = none) : s.link.state.mute = false := by
  rw [Bool.eq_false_iff, ne_eq, mute_iff]
  intro hm
  unfold whyNot at h
  split_ifs at h

/-- Settles O34. -/
theorem offerIsListedAndBidFor : Obligations.OfferIsListedAndBidFor := by
  intro f p s h hp
  have hroute : route .offer f (heardWell s) = some (offerHeard f.source p (heardWell s)) := by simp [route, hp]
  refine ⟨fun ⟨e, he, hid⟩ => ?_, fun hnone hlen => ?_, fun rest hnew hroom => ?_⟩
  · have hknown : (findOffer ⟨f.source, p.number⟩ (heardWell s)).isSome = true := by
      rw [findOffer, List.find?_isSome]
      exact ⟨e, he, by simp [hid]⟩
    refine accepted_dropped h (by simp) ?_
    rw [hroute, offerHeard]
    simp only [hknown, if_true]
  · have hmissing := findOffer_none (s := heardWell s) (id := ⟨f.source, p.number⟩) fun e he => (hnone e he).1
    have hfull : roomFor (heardWell s).offers.table = none := roomFor_none (fun e he => (hnone e he).2) hlen
    have hheard : offerHeard f.source p (heardWell s) = (countOverflow (heardWell s), .notStored) := by
      simp only [offerHeard, hmissing, hfull]
      rfl
    rw [hheard] at hroute
    exact accepted_completes h (by simp) hroute rfl ⟨by rw [linkAfter_notStored]; simp, by simp [countOverflow, satAdd, heardWell],
      accepted_touches ⟨rfl, fun b => by cases b <;> simp [Kept, countOverflow]⟩ (by simp)⟩
  · have hmissing := findOffer_none (s := heardWell s) (id := ⟨f.source, p.number⟩) hnew
    have hplace : roomFor (heardWell s).offers.table = some rest := roomFor_of_room (s := heardWell s) hroom
    have hwhy : ineligible false (some p.need) (heardWell s) = whyNot p s := ineligible_eq_whyNot p (heardWell s)
    refine ⟨fun r hr => ?_, fun own hok hcell => ⟨fun hq => ?_, fun hq => ?_⟩⟩
    · have hheard : offerHeard f.source p (heardWell s) = (writeJobPage { heardWell s with offers := { (heardWell s).offers with
          table := rest ++ [{ offerFrom ⟨f.source, p.number⟩ p s.port.clock with
            state := .ineligible, reason := some r }] } }, .stored) := by
        simp only [offerHeard, hmissing, hplace, hwhy, hr]
        rfl
      rw [hheard] at hroute
      have htouch := tabled_touches (rest ++ [{ offerFrom ⟨f.source, p.number⟩ p s.port.clock with
            state := .ineligible, reason := some r }]) (heardWell s)
      exact accepted_completes h (by simp) hroute (by simp)
        ⟨⟨_, by simp only [settle_keeps, writeJobPage_keeps]; rfl, rfl, rfl, rfl, rfl, rfl, rfl, rfl⟩, accepted_touches (htouch.widen (by simp)) (by simp),
          by simp [heardWell]⟩
    · have hheard : offerHeard f.source p (heardWell s) =
          (bidFor (offerFrom ⟨f.source, p.number⟩ p s.port.clock) p rest (heardWell s), .stored) := by
        simp only [offerHeard, hmissing, hplace, hwhy, hok]
        rfl
      obtain ⟨v, hv, hbid⟩ := bidFor_joins (e := offerFrom ⟨f.source, p.number⟩ p s.port.clock) (f := p) (t := rest)
        (s := heardWell s) hq (notMute_of_whyNot hok) hcell
      have htouch : OnlyTouches [.tx] (heardWell s) v := hv ▸ joined_touches _ _
      have htx : v.tx = _ := congrArg State.tx hv
      have hport : v.port = s.port := htouch.kept (b := .port) (by simp)
      have hoffers : v.offers = s.offers := htouch.kept (b := .offers) (by simp)
      have hlink : v.link = (heardWell s).link := htouch.kept (b := .link) (by simp)
      have hmsg : v.msg.queue = s.msg.queue := kept_msg_queue (htouch.kept (b := .msg) (by simp))
      rw [hheard, hbid] at hroute
      have hall := fun table => (htouch.widen (more := [.link, .tx, .offers, .msg, .port]) (by simp)).trans
        ((tabled_raise_touches table .offerHeard (.offer ⟨f.source, p.number⟩) v).widen (by simp))
      refine accepted_completes h (by simp) hroute (by simp [hlink])
        ⟨⟨_, by simp only [settle_keeps, raise_keeps, writeJobPage_keeps, hoffers]; rfl, rfl, rfl, rfl, rfl, rfl, rfl⟩,
          ⟨_, by simp only [settle_keeps, raise_keeps, writeJobPage_keeps, htx]; rfl, rfl, rfl, ?_, rfl, rfl, rfl⟩, ?_,
          accepted_touches (hall _) (by simp), by simp [hmsg]⟩
      · have hid : (offerFrom ⟨f.source, p.number⟩ p s.port.clock).id = ⟨f.source, p.number⟩ := rfl
        simp [bidEntry, newEntry, State.cell, heardWell, hcell, hid]
      · simp only [settle_keeps]
        exact raise_port _ _ _ _ (by simp [hport])
    · have hheard : offerHeard f.source p (heardWell s) =
          (bidFor (offerFrom ⟨f.source, p.number⟩ p s.port.clock) p rest (heardWell s), .stored) := by
        simp only [offerHeard, hmissing, hplace, hwhy, hok]
        rfl
      have hbid := bidFor_refused (e := offerFrom ⟨f.source, p.number⟩ p s.port.clock) (f := p) (t := rest)
        (s := heardWell s) hq hcell
      rw [hheard, hbid] at hroute
      have htouch := fun table => tabled_raise_touches table .offerChanged (.offer ⟨f.source, p.number⟩) (heardWell s)
      refine accepted_completes h (by simp) hroute (by simp)
        ⟨⟨_, by simp only [settle_keeps, raise_keeps, writeJobPage_keeps]; rfl, rfl, rfl, rfl, rfl, rfl, rfl⟩, ?_,
          accepted_touches ((htouch _).widen (by simp)) (by simp), by simp [heardWell]⟩
      simp only [settle_keeps]
      exact raise_port _ _ _ _ (by simp [heardWell])

end Sys2Proof.Claims
end

section
/-! SUPPORT. An overheard BID (R69, R70). -/

namespace Sys2Proof.Claims

open Sys2Proof.Machine

@[simp] theorem heardWell_keeps (s : State) :
    (heardWell s).rx = s.rx ∧ (heardWell s).tx = s.tx ∧ (heardWell s).offers = s.offers ∧ (heardWell s).fare = s.fare
      ∧ (heardWell s).trips = s.trips ∧ (heardWell s).store = s.store ∧ (heardWell s).msg = s.msg
      ∧ (heardWell s).emerg = s.emerg ∧ (heardWell s).port = s.port ∧ (heardWell s).nextUid = s.nextUid
      ∧ (heardWell s).elapsed = s.elapsed ∧ (heardWell s).pending = s.pending := by
  simp [heardWell]

theorem updateOffer_moved {o o' : OfferEntry} {s : State} {f : OfferEntry → OfferEntry} (hl : Listed o s)
    (hf : stopTimers (f o) = o') : OfferMoved o o' s s (updateOffer o.id f s) :=
  ⟨updateOffer_offers hl hf, updateOffer_port hl hf, updateOffer_touches _ _ _, (updateOffer_msg _ _ _).1⟩

theorem OfferMoved.listed {o o' : OfferEntry} {v s t : State} (h : OfferMoved o o' v s t) (hl : Listed o s)
    (hid : o'.id = o.id) : Listed o' t :=
  listed_tableWith hl (by rw [h.offers]) hid

theorem OfferMoved.ownsFrame {o o' : OfferEntry} {u : Nat} {v s t : State} (h : OfferMoved o o' v s t)
    (ho : OwnsFrame o u s) : OwnsFrame o' u t :=
  ownsFrame_tableWith ho (by rw [h.offers])

/-- Two changes of an entry, of which one at most moves its state, are one. -/
theorem OfferMoved.trans {o o1 o2 : OfferEntry} {v v' s u w t : State} (h : OfferMoved o o1 v s u) (k : OfferMoved o1 o2 w u t)
    (hid : o1.id = o.id) (hst : o1.state = o.state ∨ o2.state = o1.state)
    (hh : o1.state.isJobHeld = false ∨ s.offers.heldJob = some o.id) (hv : OnlyTouches [.offers, .msg, .port] v' w) :
    OfferMoved o o2 v' s t := by
  have hoffers := h.offers
  have hport := h.port
  refine ⟨?_, ?_, hv.trans k.touches, k.queue.trans h.queue⟩
  · rw [k.offers, tableWith_tableWith (o := o) (o' := o1) (s := s) (t := u) (by rw [hoffers]) hid, hoffers, hid,
      heldAfter_heldAfter hh]
  · rw [k.port, hid]
    obtain hst | hst := hst
    · rw [if_pos hst] at hport
      rw [hst, hport]
      exact if_congr Iff.rfl rfl (raise_port _ _ _ _ hport)
    · rw [if_pos hst, hport, hst]

theorem noted_suppressed {e : OfferEntry} {uid rank n : Nat} (hst : e.state = .bidWait) (hf : e.bidFrame = some ⟨uid, none⟩) :
    stopTimers (bidResult n .retracted (asking .suppression (stopTimers (noteRank rank e)))) =
      { e with
        state := .suppressed, reason := none, bidFrame := none, awardTimer := none, acceptTimer := none,
        bestRank := some (e.bestRank.elim rank fun r => min r rank) } := by
  simp [stopTimers, bidResult, asking, noteRank, recordReason, bidResultState, hst, hf]

/-- A better BID is noted, and the own one that waits is taken back. -/
theorem suppressed_moved {e : OfferEntry} {b : PendEntry} {rank : Nat} {s : State} (hl : Listed e s) (hst : e.state = .bidWait)
    (hf : e.bidFrame = some ⟨b.uid, none⟩) (hown : OwnsFrame e b.uid s) (hb : findEntry b.uid s = some b)
    (ho : b.owner = .offerEngine) (hs : b.state = .waiting) :
    OfferMoved e { e with
        state := .suppressed, reason := none, bidFrame := none, awardTimer := none, acceptTimer := none,
        bestRank := some (e.bestRank.elim rank fun r => min r rank) } (takenOut b s) s
      (retractBid .suppression e.id (updateOffer e.id (noteRank rank) s)) := by
  have hnoted := updateOffer_moved (f := noteRank rank) hl rfl
  have htx : (updateOffer e.id (noteRank rank) s).tx = s.tx := hnoted.touches.kept (b := .tx) (by simp)
  have hfree : (stopTimers (noteRank rank e)).state.isJobHeld = false := by
    simp [stopTimers, noteRank, hst, OfferState.isJobHeld]
  have htaken := retractBid_unkeyed .suppression (hnoted.listed hl rfl) (b := b) (r := none)
    (by simp [stopTimers, noteRank, hf]) (hnoted.ownsFrame hown) ((findEntry_congr (by rw [htx])).trans hb) ho (.inl hs)
    (.inl hfree)
  rw [noted_suppressed hst hf] at htaken
  exact hnoted.trans htaken rfl (.inl rfl) (.inl hfree) (takenOut_mono (by simp) (by simp) hnoted.touches)

theorem betterBid_iff {rank source station own : Nat} :
    betterBid rank source (some own) station = true ↔ rank < own ∨ (rank = own ∧ source < station) := by
  simp [betterBid]

/-- Settles O35. -/
theorem betterBidSuppressesTheOwn : Obligations.BetterBidSuppressesTheOwn := by
  intro f p e own uid b s h hp hl hid hst hrank hf _ hown hb hbu hbo hbs
  subst hbu
  have hroute : route .bid f (heardWell s) = some (bidHeard f.source p (heardWell s)) := by simp [route, hp]
  have hfind : findOffer e.id (heardWell s) = some e := findOffer_of_listed (s := heardWell s) hl
  have hbetter : betterBid p.rank f.source e.rank (heardWell s).station = true ↔
      p.rank < own ∨ (p.rank = own ∧ f.source < s.link.station.getD 0) := by
    rw [hrank]
    exact betterBid_iff
  have hnoted := updateOffer_moved (f := noteRank p.rank) (s := heardWell s) hl rfl
  have hstation : (updateOffer e.id (noteRank p.rank) (heardWell s)).station = (heardWell s).station := by
    rw [State.station, hnoted.touches.kept (b := .link) (by simp)]
    rfl
  refine ⟨fun hwins => ?_, fun hloses => ?_⟩
  · have hheard : bidHeard f.source p (heardWell s) =
        (retractBid .suppression e.id (updateOffer e.id (noteRank p.rank) (heardWell s)), .notStored) := by
      simp [bidHeard, hfind, hst, hf, ← hid, hstation, hbetter.2 hwins]
    rw [hheard] at hroute
    have hmoved := suppressed_moved (rank := p.rank) (s := heardWell s) hl hst hf hown hb hbo hbs
    have htaken := takenOut_waiting_touches (b := b) (by simp [hbs]) (heardWell s)
    have htouch := (htaken.widen (more := [.link, .tx, .offers, .msg, .port]) (by simp)).trans (hmoved.touches.widen (by simp))
    have htx := hmoved.touches.kept (b := .tx) (by simp)
    have hlink := hmoved.touches.kept (b := .link) (by simp)
    have hqueue := hmoved.queue
    have hentry := (hmoved.listed hl rfl).1
    rw [takenOut_waiting (by simp [hbs])] at htx hlink
    exact accepted_completes h (by simp) hroute hlink ⟨by simpa using hentry, by simpa [Kept] using htx,
      accepted_touches htouch (by simp), by simpa using hqueue⟩
  · have hnot : betterBid p.rank f.source e.rank (heardWell s).station = false := by
      rw [Bool.eq_false_iff, ne_eq, hbetter]
      omega
    have hheard : bidHeard f.source p (heardWell s) = (updateOffer e.id (noteRank p.rank) (heardWell s), .notStored) := by
      simp [bidHeard, hfind, hst, hf, ← hid, hstation, hnot]
    rw [hheard] at hroute
    have htouch := updateOffer_touches_of_state (f := noteRank p.rank) (s := heardWell s) hl rfl
    have hentry := (hnoted.listed hl rfl).1
    exact accepted_completes h (by simp) hroute (htouch.kept (b := .link) (by simp))
      ⟨⟨stopTimers (noteRank p.rank e), by simpa using hentry, rfl, hst, rfl, rfl⟩, accepted_touches (htouch.widen (by simp)) (by simp), by simp⟩

end Sys2Proof.Claims
end

section
/-! SUPPORT. An own award, its repeat, and an entry taken away that has no frame in the queue (R72, R73, R80). -/

namespace Sys2Proof.Claims

open Sys2Proof.Machine

theorem showPage_touches (n : Nat) (s : State) : OnlyTouches [.msg] s (showPage n s) := by
  have hset : OnlyTouches [.msg] s { s with msg.shown := n } := ⟨rfl, fun b => by cases b <;> simp [Kept]⟩
  exact hset.trans (composeMessages_touches _)

theorem or_eq_ite (a b : Option (List Byte)) : a.or b = if a.isSome then a else b := by
  cases a <;> rfl

/-- The entry as an award makes it (R72). -/
def awardedWith (text : Option (List Byte)) (timeout : Nat) (o : OfferEntry) : OfferEntry :=
  { o with
    state := .awarded, reason := none, awardTimer := none,
    jobText := if text.isSome then text else o.jobText, acceptTimer := some timeout }

/-- What an award leaves: the entry and the held job, the page shown and the two notices (R63, R72). -/
structure AwardMade (o o' : OfferEntry) (v s t : State) : Prop where
  offers : t.offers = { s.offers with table := tableWith o o' s, heldJob := some o.id }
  shown : t.msg.shown = 1
  port : t.port = (raise .jobAwarded (.offer o.id) (raise .offerChanged (.offer o.id) s)).port
  touches : OnlyTouches [.offers, .msg, .port] v t

theorem makeAwarded_made {o : OfferEntry} {text : Option (List Byte)} {s : State} (hl : Listed o s)
    (hst : o.state ≠ .awarded) : AwardMade o (awardedWith text s.offers.acceptTimeout o) s s (makeAwarded o.id text s) := by
  have hmoved := updateOffer_moved (o' := awardedWith text s.offers.acceptTimeout o)
    (f := fun e => { e with
      state := .awarded, reason := none, jobText := text.orElse fun _ => e.jobText,
      acceptTimer := some s.offers.acceptTimeout }) hl (by simp [stopTimers, awardedWith, or_eq_ite])
  have hoffers := hmoved.offers
  have hport := hmoved.port
  rw [if_neg (show (awardedWith text s.offers.acceptTimeout o).state ≠ o.state from Ne.symm hst)] at hport
  unfold makeAwarded
  generalize updateOffer o.id _ s = u at *
  refine ⟨by simp [hoffers, heldAfter, awardedWith, OfferState.isJobHeld], by simp [showPage], ?_, ?_⟩
  · simp only [showPage_keeps]
    exact raise_port _ _ _ _ hport
  · exact hmoved.touches.trans (((raise_touches _ _ _).widen (by simp)).trans ((showPage_touches _ _).widen (by simp)))

/-- A frame handed to the offer engine: what it leaves of an entry that it moved. -/
theorem route_award {f : RxFrame} {p : AwardFields} {s : State} (hp : parseAward f.payload = some p) :
    route .award f s = some (awardHeard p s) := by simp [route, hp]

theorem station_of_some {n : Nat} {s : State} (h : s.link.station = some n) : s.station = n := by simp [State.station, h]

theorem awardHeard_own {p : AwardFields} {s : State} (h : s.link.station = some p.winner) : awardHeard p s = awardOwn p s := by
  rw [awardHeard, if_pos (station_of_some h).symm]

theorem awardHeard_other {p : AwardFields} {s : State} (h : s.link.station ≠ some p.winner) (hs : s.link.station ≠ none) :
    awardHeard p s = awardOther p.id s := by
  obtain ⟨n, hn⟩ := Option.ne_none_iff_exists'.1 hs
  have hw : ¬ p.winner = s.station := by
    rw [station_of_some hn]
    rintro rfl
    exact h hn
  rw [awardHeard, if_neg hw]

/-! ## An entry taken away -/

/-- The entry as it is taken away. -/
def takenFor (st : OfferState) (o : OfferEntry) : OfferEntry :=
  { o with state := st, reason := none, awardTimer := none, acceptTimer := none }

theorem stopTimers_takenFor {st : OfferState} (h : st ∈ finalStates) (o : OfferEntry) :
    stopTimers { o with state := st, reason := none } = takenFor st o := by
  have hne : st ≠ .bidSent ∧ st ≠ .awarded := by constructor <;> rintro rfl <;> simp [finalStates] at h
  simp [stopTimers, takenFor, hne]

theorem retractBid_none {o : OfferEntry} {why : RetractReason} {s : State} (hl : Listed o s) (h : o.bidFrame = none) :
    retractBid why o.id s = s := by
  simp [retractBid, findOffer_of_listed hl, h]

theorem retractReply_none {o : OfferEntry} {why : RetractReason} {s : State} (hl : Listed o s) (h : o.replyFrame = none) :
    retractReply why o.id s = s := by
  simp [retractReply, findOffer_of_listed hl, h]

theorem notHeld_of_final {st : OfferState} (h : st ∈ finalStates) : st.isJobHeld = false := by
  cases st <;> simp_all [finalStates, OfferState.isJobHeld]

theorem heldAfter_final {id : OfferId} {st : OfferState} (h : st ∈ finalStates) (held : Option OfferId) :
    heldAfter id st held = if held = some id then none else held :=
  heldAfter_free (notHeld_of_final h) held

/-- An entry without a frame in the queue is taken away. -/
theorem takeAway_moved {o : OfferEntry} {st : OfferState} {why : RetractReason} {s : State} (hl : Listed o s)
    (hst : st ∈ finalStates) (hb : o.bidFrame = none) (hr : o.replyFrame = none) :
    OfferMoved o (takenFor st o) s s (takeAway o.id st why s) := by
  have hmoved := updateOffer_moved (f := fun e => { e with state := st, reason := none }) hl (stopTimers_takenFor hst o)
  have hl' := hmoved.listed hl rfl
  have hbid := retractBid_none (why := why) hl' hb
  have hreply := retractReply_none (why := why) hl' hr
  rw [show takeAway o.id st why s = updateOffer o.id (fun e => { e with state := st, reason := none }) s from
    (congrArg (retractReply why o.id) hbid).trans hreply]
  exact hmoved

theorem awardOther_listed {o : OfferEntry} {s : State} (hl : Listed o s) (hst : o.state ∉ finalStates) :
    awardOther o.id s = (takeAway o.id .lost .award s, .stored) := by
  have hnot : o.state.isFinal = false := by rwa [Bool.eq_false_iff, ne_eq, isFinal_iff]
  simp [awardOther, findOffer_of_listed hl, hnot]

theorem withdrawHeard_listed {o : OfferEntry} {s : State} (hl : Listed o s) (hst : o.state ∉ finalStates) :
    withdrawHeard o.id s = (takeAway o.id .withdrawn .withdraw s, .stored) := by
  have hnot : o.state.isFinal = false := by rwa [Bool.eq_false_iff, ne_eq, isFinal_iff]
  simp [withdrawHeard, findOffer_of_listed hl, hnot]

/-- A frame that moves an entry, with no frame in the queue concerned: what completes. -/
theorem moved_completes {k : FrameKind} {f : RxFrame} {o o' : OfferEntry} {u s : State} {v : Verdict} {post : State → Prop}
    (h : Accepted k f s) (hk : k ≠ .lack) (hroute : route k f (heardWell s) = some (u, v))
    (hmoved : OfferMoved o o' (heardWell s) (heardWell s) u)
    (hpost : ∀ t : State, t.offers = { s.offers with
        table := tableWith o o' s, heldJob := heldAfter o.id o'.state s.offers.heldJob } →
      t.port = (if o'.state = o.state then s.port else (raise .offerChanged (.offer o.id) s).port) →
      OnlyTouches [.link, .offers, .msg, .port] s t → t.msg.queue = s.msg.queue → post t) : Completes (frameCommand k f) s post := by
  have hoffers := hmoved.offers
  have hport := hmoved.port
  refine accepted_completes h hk hroute (hmoved.touches.kept (b := .link) (by simp)) (hpost _ ?_ ?_ ?_ ?_)
  · simp only [settle_keeps]
    exact hoffers
  · simp only [settle_keeps, hport]
    exact if_congr Iff.rfl rfl (raise_port _ _ _ _ rfl)
  · exact accepted_touches (hmoved.touches.widen (by simp)) (by simp)
  · simpa using hmoved.queue

theorem awardAndWithdrawOfAnOffer : AwardAndWithdrawOfAnOffer := by
  refine ⟨fun f p e s h hp hl hid => ⟨fun hstation hst hheld => ?_, fun hother hstation hst hb hr hheld => ?_⟩,
    fun f id s h hp => ⟨fun e hl hid hst hheld hb hr => ?_, fun hnone => ?_⟩⟩
  · have hmade := makeAwarded_made (text := p.jobText) (s := heardWell s) hl (by simp [hst])
    have hheard : awardHeard p (heardWell s) = (makeAwarded e.id p.jobText (heardWell s), .stored) := by
      rw [awardHeard_own (s := heardWell s) hstation, awardOwn, ← hid, findOffer_of_listed (s := heardWell s) hl]
      simp [hst, OfferState.isJobHeld, hheld]
    have hroute := (route_award (s := heardWell s) hp).trans (congrArg some hheard)
    have hoffers := hmade.offers
    have hport := hmade.port
    refine accepted_completes h (by simp) hroute (hmade.touches.kept (b := .link) (by simp))
      ⟨by simp only [settle_keeps]; exact hoffers, by simpa using hmade.shown, ?_, accepted_touches (hmade.touches.widen (by simp)) (by simp)⟩
    simp only [settle_keeps, hport]
    exact raise_port _ _ _ _ (raise_port _ _ _ _ rfl)
  · have hheard := (awardHeard_other (s := heardWell s) hother hstation).trans
      ((congrArg (awardOther · (heardWell s)) hid.symm).trans (awardOther_listed (s := heardWell s) hl (by simp [hst, finalStates])))
    have hmoved := takeAway_moved (st := .lost) (why := .award) (s := heardWell s) hl (by simp [finalStates]) hb hr
    refine moved_completes h (by simp) ((route_award (s := heardWell s) hp).trans (congrArg some hheard)) hmoved
      fun t ho hport htouch hqueue => ⟨?_, ?_, htouch, hqueue⟩
    · rw [ho, heldAfter_final (by simp [takenFor, finalStates]), if_neg hheld]
      rfl
    · rw [hport, if_neg (by simp [takenFor, hst])]
  · subst hid
    have hroute : route .withdraw f (heardWell s) = some (takeAway e.id .withdrawn .withdraw (heardWell s), .stored) := by
      simp [route, hp, withdrawHeard_listed (s := heardWell s) hl (by simp [hst, finalStates])]
    have hmoved := takeAway_moved (st := .withdrawn) (why := .withdraw) (s := heardWell s) hl (by simp [finalStates]) hb hr
    refine moved_completes h (by simp) hroute hmoved fun t ho hport htouch hqueue => ⟨?_, ?_, htouch, hqueue⟩
    · rw [ho, heldAfter_final (by simp [takenFor, finalStates]), if_pos hheld]
      rfl
    · rw [hport, if_neg (by simp [takenFor, hst])]
  · refine accepted_dropped h (by simp) ?_
    simp [route, hp, withdrawHeard, findOffer_none (s := heardWell s) hnone]

theorem repeatedAwardReplacesTheText : RepeatedAwardReplacesTheText := by
  intro f p e s ⟨h, hp, hstation⟩ hl hid hst hheld haward haccept
  have hjob : e.state.isJobHeld = true := by
    obtain hst | hst | hst | hst := hst <;> simp [hst, OfferState.isJobHeld]
  have hstop : stopTimers { e with jobText := p.jobText.orElse fun _ => e.jobText } =
      { e with jobText := if p.jobText.isSome then p.jobText else e.jobText } := by
    by_cases ha : e.state = .awarded
    · simp [stopTimers, or_eq_ite, haward, ha]
    · simp [stopTimers, or_eq_ite, haward, haccept ha]
  have hheard : awardHeard p (heardWell s) =
      (updateOffer e.id (fun e => { e with jobText := p.jobText.orElse fun _ => e.jobText }) (heardWell s), .stored) := by
    rw [awardHeard_own (s := heardWell s) hstation, awardOwn, ← hid, findOffer_of_listed (s := heardWell s) hl]
    simp [hjob]
  have hroute := (route_award (s := heardWell s) hp).trans (congrArg some hheard)
  have htouch := updateOffer_touches_of_state (s := heardWell s)
    (f := fun e => { e with jobText := p.jobText.orElse fun _ => e.jobText }) hl rfl
  have hoffers := updateOffer_offers_of_held (s := heardWell s)
    (f := fun e => { e with jobText := p.jobText.orElse fun _ => e.jobText }) hl hstop (by rw [if_pos (by exact hjob)]; exact hheld)
  exact accepted_completes h (by simp) hroute (htouch.kept (b := .link) (by simp))
    ⟨by simp only [settle_keeps]; exact hoffers, accepted_touches (htouch.widen (by simp)) (by simp), by simp⟩

/-- Settles O36. -/
theorem awardAndWithdrawDecideTheOffer : Obligations.AwardAndWithdrawDecideTheOffer :=
  ⟨awardAndWithdrawOfAnOffer, repeatedAwardReplacesTheText⟩

end Sys2Proof.Claims
end

section
/-! SUPPORT. A direct assignment, taken or refused (R42, R74). -/

namespace Sys2Proof.Claims

open Sys2Proof.Machine

/-! ## Eligibility -/

theorem ineligible_direct (need : Option VehicleNeed) (s : State) :
    (ineligible true need s).map directReason = refusalOf need s := by
  unfold ineligible refusalOf
  simp only [mute_iff, Bool.true_eq_false, false_and, if_false]
  by_cases hm : s.fare.meter ≠ .vacant
  · simp [hm, directReason]
  by_cases ha : s.emerg.alarm ≠ .quiet
  · simp [hm, ha, directReason]
  by_cases hl : s.link.state = .silent ∨ s.link.state = .recovering
  · simp [hm, ha, hl, directReason]
  have hl' : ¬ (s.emerg.alarm ≠ .quiet ∨ s.link.state = .silent ∨ s.link.state = .recovering) := by simp_all
  by_cases hj : s.offers.heldJob.isSome = true
  · simp [hm, ha, hl, hj, directReason]
  have hvehicle : (need.any fun v => !s.offers.capability.contains v) = need.any fun v => decide (v ∉ s.offers.capability) := by
    cases need <;> simp
  rw [if_neg hm, if_neg hm, if_neg ha, if_neg hl, if_neg hl', if_neg hj, if_neg hj, hvehicle]
  split <;> rfl

theorem ineligible_none {need : Option VehicleNeed} {s : State} (h : refusalOf need s = none) :
    ineligible true need s = none := by
  rwa [← ineligible_direct, Option.map_eq_none_iff] at h

theorem ineligible_some {need : Option VehicleNeed} {r : RefuseReason} {s : State} (h : refusalOf need s = some r) :
    ∃ o, ineligible true need s = some o ∧ directReason o = r := by
  rwa [← ineligible_direct, Option.map_eq_some_iff] at h

/-! ## The entry reused -/

theorem stopTimers_clearForReuse (e : OfferEntry) : stopTimers (clearForReuse e) = clearForReuse e := by
  simp [stopTimers, clearForReuse]
  exact ⟨ite_self _, ite_self _⟩

theorem reused_final {e : OfferEntry} (h : e.state ∈ finalStates) : reused e = clearForReuse e := if_pos h

theorem cleared_moved {e : OfferEntry} {s : State} (hl : Listed e s) (hst : e.state ∈ finalStates) :
    OfferMoved e (reused e) s s (updateOffer e.id clearForReuse s) := by
  rw [reused_final hst]
  exact updateOffer_moved hl (stopTimers_clearForReuse e)

/-- An entry in a final state that no held job names is assigned to an eligible cab. -/
theorem assign_final {e : OfferEntry} {text : Option (List Byte)} {s : State} (hl : Listed e s) (hst : e.state ∈ finalStates)
    (hr : refusalOf e.need s = none) :
    AwardMade e { reused e with state := .awarded, jobText := text, acceptTimer := some s.offers.acceptTimeout } s s
      (assign e text s) := by
  have hfin : e.state.isFinal = true := (isFinal_iff _).2 hst
  have hwait : e.state ≠ .bidWait := by rintro h; simp [h, finalStates] at hst
  have haward : e.state ≠ .awarded := by rintro h; simp [h, finalStates] at hst
  have hcleared := cleared_moved hl hst
  have hrun : assign e text s = makeAwarded e.id text (updateOffer e.id clearForReuse s) := by
    simp only [assign, hfin, if_true, ineligible_none hr, if_neg hwait]
  generalize updateOffer e.id clearForReuse s = u at *
  have hid : (reused e).id = e.id := by rw [reused_final hst]; rfl
  have hsame : (reused e).state = e.state := by rw [reused_final hst]; rfl
  have hmade := makeAwarded_made (text := text) (hcleared.listed hl hid) (by rwa [hsame])
  have hoffers := hcleared.offers
  have hport := hcleared.port
  rw [if_pos hsame] at hport
  obtain ⟨hmoffers, hshown, hmport, htouch⟩ := hmade
  rw [hid, ← hrun] at hmoffers hmport htouch
  have hentry : awardedWith text u.offers.acceptTimeout (reused e) =
      { reused e with state := .awarded, jobText := text, acceptTimer := some s.offers.acceptTimeout } := by
    rw [reused_final hst, hoffers]
    cases text <;> simp [awardedWith, clearForReuse]
  rw [hid, ← hrun] at hshown
  refine ⟨?_, hshown, ?_, hcleared.touches.trans htouch⟩
  · rw [hmoffers, tableWith_tableWith (o := e) (o' := reused e) (s := s) (by rw [hoffers]) hid, hentry, hoffers]
  · rw [hmport]
    exact raise_port _ _ _ _ (raise_port _ _ _ _ hport)

theorem joined_mono {p : TxPayload} {o : OfferId} {may : List Block} {s t : State} (hl : .link ∉ may) (hx : .tx ∉ may)
    (hn : t.nextUid = s.nextUid) (h : OnlyTouches may s t) :
    OnlyTouches may (joined (replyEntry o p s) s) (joined (replyEntry o p t) t) := by
  have hlink : t.link = s.link := h.kept hl
  have htx : t.tx = s.tx := h.kept hx
  refine ⟨h.1, fun c => (h.2 c).imp id fun hc => ?_⟩
  cases c with
  | tx => simp only [Kept, joined, replyEntry, State.fleet, hlink, htx, hn]
  | _ => exact hc

/-- An entry in a final state is assigned to a cab that is not eligible, and the REFUSE joins. -/
theorem assign_refused {e : OfferEntry} {text : Option (List Byte)} {r : RefuseReason} {s : State} (hl : Listed e s)
    (hst : e.state ∈ finalStates) (hr : refusalOf e.need s = some r) (hq : ReplyJoinsQuietly s) :
    OfferMoved e (refusedFor r (some ⟨s.nextUid, none⟩) (reused e)) (joined (replyEntry e.id (.refuse e.id r) s) s) s
      (assign e text s) := by
  have hfin : e.state.isFinal = true := (isFinal_iff _).2 hst
  have hwait : e.state ≠ .bidWait := by rintro h; simp [h, finalStates] at hst
  have hcleared := cleared_moved hl hst
  obtain ⟨o, hine, hdirect⟩ := ineligible_some hr
  have hrun : assign e text s = refuseOwn e.id r (updateOffer e.id clearForReuse s) := by
    simp only [assign, hfin, if_true, hine, hdirect, if_neg hwait]
  have hnext := (updateOffer_nextUid e.id clearForReuse s).1
  rw [hrun]
  generalize updateOffer e.id clearForReuse s = u at *
  have hid : (reused e).id = e.id := by rw [reused_final hst]; rfl
  have hsame : (reused e).state = e.state := by rw [reused_final hst]; rfl
  have hlink : u.link = s.link := hcleared.touches.kept (b := .link) (by simp)
  have htx : u.tx = s.tx := hcleared.touches.kept (b := .tx) (by simp)
  have hfree : (reused e).state.isJobHeld = false := by
    rw [hsame]
    exact notHeld_of_final hst
  have hrefused := refuseOwn_joins (r := r) (hcleared.listed hl hid) (by rwa [ReplyJoinsQuietly, hlink, htx]) (.inl hfree)
  rw [hid, hnext] at hrefused
  exact hcleared.trans hrefused hid (.inl hsame) (.inl hfree) (joined_mono (by simp) (by simp) hnext hcleared.touches)

/-- The same with a full queue: the REFUSE finds no place. -/
theorem assign_refused_full {e : OfferEntry} {text : Option (List Byte)} {r : RefuseReason} {s : State} (hl : Listed e s)
    (hst : e.state ∈ finalStates) (hr : refusalOf e.need s = some r) (hq : 20 ≤ s.tx.queue.length) :
    OfferMoved e (refusedFor r (reused e).replyFrame (reused e)) s s (assign e text s) := by
  have hfin : e.state.isFinal = true := (isFinal_iff _).2 hst
  have hwait : e.state ≠ .bidWait := by rintro h; simp [h, finalStates] at hst
  have hcleared := cleared_moved hl hst
  obtain ⟨o, hine, hdirect⟩ := ineligible_some hr
  have hrun : assign e text s = refuseOwn e.id r (updateOffer e.id clearForReuse s) := by
    simp only [assign, hfin, if_true, hine, hdirect, if_neg hwait]
  rw [hrun]
  generalize updateOffer e.id clearForReuse s = u at *
  have hid : (reused e).id = e.id := by rw [reused_final hst]; rfl
  have hsame : (reused e).state = e.state := by rw [reused_final hst]; rfl
  have htx : u.tx = s.tx := hcleared.touches.kept (b := .tx) (by simp)
  have hfree : (reused e).state.isJobHeld = false := by
    rw [hsame]
    exact notHeld_of_final hst
  have hrefused := refuseOwn_full (r := r) (hcleared.listed hl hid) (by rwa [htx])
  rw [hid] at hrefused
  exact hcleared.trans hrefused hid (.inl hsame) (.inl hfree) hcleared.touches

/-! ## An entry in BID_WAIT, whose BID is taken back -/

/-- An entry that was decided otherwise loses its BID alone as the BID is taken back. -/
theorem bidBack_decided {why : RetractReason} {o : OfferEntry} {n : Nat} (hst : o.state ≠ .bidWait) (hs : stopTimers o = o) :
    stopTimers (bidResult n .retracted (asking why o)) = { o with bidFrame := none } := by
  rw [stopTimers, OfferEntry.mk.injEq] at hs
  simp_all [asking, bidResult, stopTimers]

end Sys2Proof.Claims
end

section
/-! SUPPORT. A direct assignment of an entry whose BID waits, and what an AWARD that assigns directly completes with (R70, R74). -/

namespace Sys2Proof.Claims

open Sys2Proof.Machine

theorem retractBid_shown (why : RetractReason) (id : OfferId) (s : State) :
    (retractBid why id s).msg.shown = s.msg.shown := by
  have h := retractBid_reach why id s
  unfold Reach at h
  rw [h]

theorem AwardMade.listed {o o' : OfferEntry} {v s t : State} (h : AwardMade o o' v s t) (hl : Listed o s)
    (hid : o'.id = o.id) : Listed o' t :=
  listed_tableWith hl (by rw [h.offers]) hid

/-- An entry in BID_WAIT is assigned to an eligible cab: its BID is taken back. -/
theorem assign_bidWait {e : OfferEntry} {b : PendEntry} {text : Option (List Byte)} {s : State} (hl : Listed e s)
    (hw : BidWaits e b s) (hr : refusalOf e.need s = none) :
    AwardMade e { awardedWith text s.offers.acceptTimeout e with bidFrame := none } (takenOut b s) s (assign e text s) := by
  obtain ⟨hst, ⟨r, hf⟩, -, hown, hb, ho, hwaits⟩ := hw
  have hmade := makeAwarded_made (text := text) hl (by simp [hst])
  have hrun : assign e text s = retractBid .award e.id (makeAwarded e.id text s) := by
    simp [assign, hst, OfferState.isFinal, ineligible_none hr]
  rw [hrun]
  generalize makeAwarded e.id text s = u at *
  have hoffers := hmade.offers
  have hport := hmade.port
  have htx : u.tx = s.tx := hmade.touches.kept (b := .tx) (by simp)
  have hback := retractBid_unkeyed (b := b) .award (hmade.listed hl rfl) hf (ownsFrame_tableWith hown (by rw [hoffers]))
    ((findEntry_congr (by rw [htx])).trans hb) ho (.inl hwaits) (.inr (by rw [hoffers]; rfl))
  rw [bidBack_decided (o := awardedWith text s.offers.acceptTimeout e) (by simp [awardedWith])
    (by simp [stopTimers, awardedWith])] at hback
  have htoffers := hback.offers
  have htport := hback.port
  refine ⟨?_, ?_, ?_, (takenOut_mono (by simp) (by simp) hmade.touches).trans hback.touches⟩
  · exact htoffers.trans (by
      rw [tableWith_tableWith (o := e) (o' := awardedWith text s.offers.acceptTimeout e) (s := s) (by rw [hoffers]) rfl, hoffers]
      rfl)
  · exact (retractBid_shown _ _ _).trans hmade.shown
  · exact (htport.trans (if_pos rfl)).trans hport

theorem findEntry_joined {b e : PendEntry} {u : Nat} {s t : State} (h : findEntry u s = some b)
    (ht : t.tx = (joined e s).tx) : findEntry u t = some b := by
  unfold findEntry at h ⊢
  rw [ht]
  simp [joined, List.find?_append, h]

/-- An entry in BID_WAIT is refused, the REFUSE joining before the BID is taken back. -/
theorem assign_bidWait_refused {e : OfferEntry} {b : PendEntry} {text : Option (List Byte)} {r : RefuseReason} {s : State}
    (hl : Listed e s) (hw : BidWaits e b s) (hr : refusalOf e.need s = some r) (hq : ReplyJoinsQuietly s) :
    OfferMoved e { refusedFor r (some ⟨s.nextUid, none⟩) e with bidFrame := none }
      (takenOut b (joined (replyEntry e.id (.refuse e.id r) s) s)) s (assign e text s) := by
  obtain ⟨hst, ⟨q, hf⟩, -, hown, hb, ho, hwaits⟩ := hw
  have hfree : e.state.isJobHeld = false := by simp [hst, OfferState.isJobHeld]
  obtain ⟨o, hine, hdirect⟩ := ineligible_some hr
  have hrefused := refuseOwn_joins (r := r) hl hq (.inl hfree)
  have hrun : assign e text s = retractBid .award e.id (refuseOwn e.id r s) := by
    simp [assign, hst, OfferState.isFinal, hine, hdirect]
  rw [hrun]
  generalize refuseOwn e.id r s = u at *
  have htx : u.tx = (joined (replyEntry e.id (.refuse e.id r) s) s).tx := hrefused.touches.kept (b := .tx) (by simp)
  have hback := retractBid_unkeyed (b := b) .award (hrefused.listed hl rfl) hf (hrefused.ownsFrame hown)
    (findEntry_joined hb htx) ho (.inl hwaits) (.inl rfl)
  rw [bidBack_decided (o := refusedFor r (some ⟨s.nextUid, none⟩) e) (by simp [refusedFor])
    (by simp [stopTimers, refusedFor])] at hback
  exact hrefused.trans hback rfl (.inr rfl) (.inl rfl) (takenOut_mono (by simp) (by simp) hrefused.touches)

/-! ## A new entry -/

/-- The table with a new entry at its end. -/
def withNew (e : OfferEntry) (rest : List OfferEntry) (s : State) : State :=
  { s with offers := { s.offers with table := rest ++ [e] } }

theorem mem_of_room {rest : List OfferEntry} {s : State} (h : RoomIn rest s) : ∀ a ∈ rest, a ∈ s.offers.table := by
  obtain ⟨-, rfl⟩ | ⟨before, after, d, htable, -, -, -, rfl⟩ := h
  · exact fun a ha => ha
  · intro a ha
    rw [htable]
    obtain ha | ha := List.mem_append.1 ha <;> simp [ha]

theorem listed_new {e : OfferEntry} {rest : List OfferEntry} {s : State} (h : ∀ a ∈ rest, a.id ≠ e.id) :
    Listed e (withNew e rest s) := by
  refine ⟨by simp [withNew], fun a ha hid => ?_⟩
  obtain ha | ha := List.mem_append.1 ha
  · exact absurd hid (h a ha)
  · exact List.mem_singleton.1 ha

theorem tableWith_new {e e' : OfferEntry} {rest : List OfferEntry} {s : State} (h : ∀ a ∈ rest, a.id ≠ e.id) :
    tableWith e e' (withNew e rest s) = rest ++ [e'] := by
  have hkept : (rest.map fun a => if a.id = e.id then e' else a) = rest :=
    (List.map_congr_left fun a ha => if_neg (h a ha)).trans (List.map_id rest)
  simp [tableWith, withNew, hkept]

theorem withNew_touches (e : OfferEntry) (rest : List OfferEntry) (s : State) : OnlyTouches [.offers] s (withNew e rest s) :=
  ⟨rfl, fun b => by cases b <;> simp [Kept, withNew]⟩

theorem blank_final (id : OfferId) (n : Nat) : (blankOffer id n).state ∈ finalStates := by simp [blankOffer, finalStates]

theorem reused_blank (id : OfferId) (n : Nat) : reused (blankOffer id n) = blankOffer id n := by
  rw [reused_final (blank_final id n)]
  rfl

/-! ## An AWARD naming this station -/

/-- An AWARD naming this station for an entry in a final state or in BID_WAIT is a direct assignment. -/
theorem awardHeard_assigns {p : AwardFields} {e : OfferEntry} {s : State} (hs : s.link.station = some p.winner) (hl : Listed e s)
    (hid : e.id = p.id) (hst : e.state ∈ finalStates ∨ e.state = .bidWait ∨ (e.state = .bidSent ∧ s.offers.heldJob ≠ none)) :
    awardHeard p s = (assign e p.jobText s, .stored) := by
  have hfind : findOffer p.id s = some e := by
    rw [← hid]
    exact findOffer_of_listed hl
  have hnot : e.state.isJobHeld = false := by
    obtain hst | hst | ⟨hst, -⟩ := hst
    · exact notHeld_of_final hst
    · simp [hst, OfferState.isJobHeld]
    · simp [hst, OfferState.isJobHeld]
  have hsent : ¬ (e.state = .bidSent ∧ s.offers.heldJob = none) := by
    rintro ⟨hsent, hnone⟩
    simp [hsent, hnone, finalStates] at hst
  rw [awardHeard_own hs, awardOwn, hfind]
  simp only [hnot, Bool.false_eq_true, if_false, hsent, directAssignment, hfind]

/-- For an offer with no entry it makes one where there is room. -/
theorem awardHeard_new {p : AwardFields} {rest : List OfferEntry} {s : State} (hs : s.link.station = some p.winner)
    (hnew : ∀ e ∈ s.offers.table, e.id ≠ p.id) (hroom : RoomIn rest s) :
    awardHeard p s = (assign (blankOffer p.id s.port.clock) p.jobText (withNew (blankOffer p.id s.port.clock) rest s), .stored) := by
  rw [awardHeard_own hs, awardOwn, findOffer_none hnew]
  simp only [directAssignment, findOffer_none hnew, roomFor_of_room hroom]
  rfl

/-- What completes with an award made. -/
theorem award_completes {f : RxFrame} {p : AwardFields} {o o' : OfferEntry} {u v s : State} {may : List Block} {post : State → Prop}
    (h : Accepted .award f s) (hp : parseAward f.payload = some p) (hheard : awardHeard p (heardWell s) = (u, .stored))
    (hmade : AwardMade o o' v (heardWell s) u) (hv : OnlyTouches may (heardWell s) v) (hm : .link ∉ may)
    (hpost : ∀ t : State, t.offers = { s.offers with table := tableWith o o' s, heldJob := some o.id } → t.tx = v.tx →
      AwardShown o.id s t → OnlyTouches ([.link, .offers, .msg, .port] ++ may) s t → post t) : Completes (.award f) s post := by
  have hroute := (route_award (s := heardWell s) hp).trans (congrArg some hheard)
  have hlink : u.link = v.link := hmade.touches.kept (b := .link) (by simp)
  have htx : u.tx = v.tx := hmade.touches.kept (b := .tx) (by simp)
  refine accepted_completes h (by simp) hroute (hlink.trans (hv.kept (b := .link) hm)) (hpost _ ?_ ?_ ⟨?_, ?_⟩ ?_)
  · simp only [settle_keeps]
    exact hmade.offers
  · simpa using htx
  · simpa using hmade.shown
  · simp only [settle_keeps, hmade.port]
    exact raise_port _ _ _ _ (raise_port _ _ _ _ rfl)
  · exact accepted_touches ((hv.widen fun b hb => List.mem_append_right _ hb).trans
      (hmade.touches.widen fun b hb => List.mem_append_left _ (List.mem_cons_of_mem _ hb))) (by simp)

end Sys2Proof.Claims
end

section
/-! SUPPORT. AWARD as a direct assignment (R42, R74). -/

namespace Sys2Proof.Claims

open Sys2Proof.Machine

theorem refusalOf_congr {need : Option VehicleNeed} {s t : State} (hf : t.fare = s.fare) (he : t.emerg = s.emerg)
    (hl : t.link.state = s.link.state) (hh : t.offers.heldJob = s.offers.heldJob)
    (hc : t.offers.capability = s.offers.capability) : refusalOf need t = refusalOf need s := by
  rw [refusalOf, hf, he, hl, hh, hc, refusalOf]

theorem directAssignmentIsTaken : DirectAssignmentIsTaken := by
  intro f p s ⟨h, hp, hs⟩
  refine ⟨fun rest hnew hroom hr => ?_, fun e hl hid hst hr => ?_, fun e b hl hid hw hr => ?_⟩
  · have hrest : ∀ a ∈ rest, a.id ≠ p.id := fun a ha => hnew a (mem_of_room hroom a ha)
    have hmade := assign_final (e := blankOffer p.id s.port.clock) (text := p.jobText)
      (listed_new (s := heardWell s) hrest) (blank_final _ _) hr
    have hheard := awardHeard_new (s := heardWell s) hs hnew hroom
    rw [reused_blank] at hmade
    have hroute := (route_award (s := heardWell s) hp).trans (congrArg some hheard)
    obtain ⟨hoffers, hshown, hport, htouch⟩ := hmade
    rw [tableWith_new hrest] at hoffers
    have hall := ((withNew_touches _ rest (heardWell s)).widen (more := [.offers, .msg, .port]) (by simp)).trans htouch
    refine accepted_completes h (by simp) hroute (hall.kept (b := .link) (by simp))
      ⟨?_, ⟨by simpa using hshown, ?_⟩, accepted_touches (hall.widen (by simp)) (by simp)⟩
    · simp only [settle_keeps]
      exact hoffers
    · simp only [settle_keeps]
      exact hport.trans (raise_port _ _ _ _ (raise_port _ _ _ _ rfl))
  · have hmade := assign_final (text := p.jobText) (s := heardWell s) hl hst hr
    exact award_completes h hp (awardHeard_assigns (s := heardWell s) hs hl hid (.inl hst)) hmade (onlyTouches_refl [] _) (by simp)
      fun t ho _ hshown htouch => by
        rw [hid] at ho hshown
        exact ⟨ho, hshown, htouch.widen (by simp)⟩
  · have hmade := assign_bidWait (text := p.jobText) (s := heardWell s) hl hw hr
    obtain ⟨hst, -, -, -, -, -, hwaits⟩ := hw
    have hout := takenOut_waiting_touches (b := b) (by simp [hwaits]) (heardWell s)
    exact award_completes h hp (awardHeard_assigns (s := heardWell s) hs hl hid (.inr (.inl hst))) hmade hout (by simp)
      fun t ho htx hshown htouch => by
        rw [hid] at ho hshown
        exact ⟨ho, htx.trans (by rw [takenOut_waiting (by simp [hwaits])]; rfl), hshown, htouch.widen (by simp)⟩

/-! ## Refused -/

/-- What completes with an entry moved and a frame of it joined or taken out. -/
theorem award_moved_completes {f : RxFrame} {p : AwardFields} {o o' : OfferEntry} {u v s : State} {may : List Block}
    {post : State → Prop} (h : Accepted .award f s) (hp : parseAward f.payload = some p)
    (hheard : awardHeard p (heardWell s) = (u, .stored)) (hmoved : OfferMoved o o' v (heardWell s) u)
    (hv : OnlyTouches may (heardWell s) v) (hm : .link ∉ may)
    (hpost : ∀ t : State, t.offers = { s.offers with
        table := tableWith o o' s, heldJob := heldAfter o.id o'.state s.offers.heldJob } → t.tx = v.tx →
      t.port = (if o'.state = o.state then s.port else (raise .offerChanged (.offer o.id) s).port) →
      OnlyTouches ([.link, .offers, .msg, .port] ++ may) s t → t.msg.queue = s.msg.queue → post t) :
    Completes (.award f) s post := by
  have hroute := (route_award (s := heardWell s) hp).trans (congrArg some hheard)
  have hlink : u.link = v.link := hmoved.touches.kept (b := .link) (by simp)
  have htx : u.tx = v.tx := hmoved.touches.kept (b := .tx) (by simp)
  refine accepted_completes h (by simp) hroute (hlink.trans (hv.kept (b := .link) hm)) (hpost _ ?_ ?_ ?_ ?_ ?_)
  · simp only [settle_keeps]
    exact hmoved.offers
  · simpa using htx
  · simp only [settle_keeps, hmoved.port]
    exact if_congr Iff.rfl rfl (raise_port _ _ _ _ rfl)
  · exact accepted_touches ((hv.widen fun b hb => List.mem_append_right _ hb).trans
      (hmoved.touches.widen fun b hb => List.mem_append_left _ (List.mem_cons_of_mem _ hb))) (by simp)
  · simpa using hmoved.queue

theorem ownAssign_refused {e : OfferEntry} {text : Option (List Byte)} {r : RefuseReason} {s : State}
    (hst : e.state = .bidSent) (hr : refusalOf e.need s = some r) : assign e text s = refuseOwn e.id r s := by
  obtain ⟨o, hine, hdirect⟩ := ineligible_some hr
  simp [assign, hst, OfferState.isFinal, hine, hdirect]

/-- A final entry, or one in BID_SENT, is refused and the REFUSE joins. -/
theorem assign_refusal_joins {e : OfferEntry} {text : Option (List Byte)} {r : RefuseReason} {s : State} (hl : Listed e s)
    (hst : e.state ∈ finalStates ∨ e.state = .bidSent) (hr : refusalOf e.need s = some r) (hq : ReplyJoinsQuietly s) :
    OfferMoved e (refusedFor r (some ⟨s.nextUid, none⟩) (reused e)) (joined (replyEntry e.id (.refuse e.id r) s) s) s
      (assign e text s) := by
  obtain hst | hst := hst
  · exact assign_refused hl hst hr hq
  · rw [ownAssign_refused hst hr, reused, if_neg (by simp [hst, finalStates])]
    exact refuseOwn_joins hl hq (.inl (by simp [hst, OfferState.isJobHeld]))

theorem assign_refusal_full {e : OfferEntry} {text : Option (List Byte)} {r : RefuseReason} {s : State} (hl : Listed e s)
    (hst : e.state ∈ finalStates ∨ e.state = .bidSent) (hr : refusalOf e.need s = some r) (hq : 20 ≤ s.tx.queue.length) :
    OfferMoved e (refusedFor r (reused e).replyFrame (reused e)) s s (assign e text s) := by
  obtain hst | hst := hst
  · exact assign_refused_full hl hst hr hq
  · rw [ownAssign_refused hst hr, reused, if_neg (by simp [hst, finalStates])]
    exact refuseOwn_full hl hq

theorem heldAfter_refused {id : OfferId} {held : Option OfferId} (h : held ≠ some id) : heldAfter id .refused held = held := by
  rw [heldAfter_free rfl, if_neg h]

theorem directAssignmentIsRefused : DirectAssignmentIsRefused := by
  intro f p r s ⟨h, hp, hs⟩ said
  refine ⟨fun rest hnew hroom hr hheld hq => ?_, fun e hl hid hst hheld hr => ⟨fun hq hsent => ?_, fun hq hsent => ?_⟩,
    fun e b hl hid hw hr hheld hbu hq => ?_, fun hnone hlen hq => ?_⟩
  · have hrest : ∀ a ∈ rest, a.id ≠ p.id := fun a ha => hnew a (mem_of_room hroom a ha)
    have hmoved := assign_refused (e := blankOffer p.id s.port.clock) (text := p.jobText)
      (listed_new (s := heardWell s) hrest) (blank_final _ _) hr hq
    have hheard := awardHeard_new (s := heardWell s) hs hnew hroom
    rw [reused_blank] at hmoved
    have hroute := (route_award (s := heardWell s) hp).trans (congrArg some hheard)
    obtain ⟨hoffers, hport, htouch, hqueue⟩ := hmoved
    rw [tableWith_new hrest] at hoffers
    have hjoined := (joined_touches (replyEntry p.id (.refuse p.id r) (withNew (blankOffer p.id s.port.clock) rest (heardWell s)))
      (withNew (blankOffer p.id s.port.clock) rest (heardWell s)))
    have hall := ((withNew_touches _ rest (heardWell s)).widen (more := [.tx, .offers, .msg, .port]) (by simp)).trans
      ((hjoined.widen (by simp)).trans (htouch.widen (by simp)))
    have htx := htouch.kept (b := .tx) (by simp)
    have hkept : heldAfter (blankOffer p.id s.port.clock).id .refused s.offers.heldJob = s.offers.heldJob := heldAfter_refused hheld
    refine accepted_completes h (by simp) hroute (hall.kept (b := .link) (by simp))
      ⟨?_, ?_, ?_, accepted_touches (hall.widen (by simp)) (by simp), by simpa [withNew] using hqueue⟩
    · simp only [settle_keeps]
      refine hoffers.trans ?_
      simp only [withNew, refusedFor, heardWell_keeps, hkept]
      rfl
    · exact ⟨_, by simp only [settle_keeps]; exact htx, rfl, rfl, rfl, rfl, rfl, rfl, rfl⟩
    · simp only [settle_keeps]
      exact hport.trans (raise_port _ _ _ _ rfl)
  · have hmoved := assign_refusal_joins (text := p.jobText) (s := heardWell s) hl hst hr hq
    have hheard := awardHeard_assigns (s := heardWell s) hs hl hid (hst.imp id fun hb => .inr ⟨hb, hsent hb⟩)
    refine award_moved_completes h hp hheard hmoved (joined_touches _ _) (by simp) fun t ho htx hport htouch hqueue =>
      ⟨ho.trans ?_, ?_, hport.trans ?_, htouch.widen (by simp), hqueue⟩
    · simp only [refusedFor, heldAfter_refused hheld]
      rfl
    · rw [← hid]
      exact ⟨_, htx, rfl, rfl, rfl, rfl, rfl, rfl, rfl⟩
    · simp only [said, ← hid]
      exact if_congr eq_comm rfl rfl
  · have hmoved := assign_refusal_full (text := p.jobText) (s := heardWell s) hl hst hr hq
    have hheard := awardHeard_assigns (s := heardWell s) hs hl hid (hst.imp id fun hb => .inr ⟨hb, hsent hb⟩)
    refine award_moved_completes h hp hheard hmoved (onlyTouches_refl [] _) (by simp) fun t ho htx hport htouch hqueue =>
      ⟨ho.trans ?_, hport.trans ?_, htouch.widen (by simp), hqueue⟩
    · simp only [refusedFor, heldAfter_refused hheld]
    · simp only [said, ← hid]
      exact if_congr eq_comm rfl rfl
  · have hmoved := assign_bidWait_refused (text := p.jobText) (s := heardWell s) hl hw hr hq
    obtain ⟨hst, -, -, -, -, -, hwaits⟩ := hw
    have hheard := awardHeard_assigns (s := heardWell s) hs hl hid (.inr (.inl hst))
    have hv := (joined_touches (replyEntry e.id (.refuse e.id r) (heardWell s)) (heardWell s)).trans
      (takenOut_waiting_touches (b := b) (by simp [hwaits]) _)
    refine award_moved_completes h hp hheard hmoved hv (by simp) fun t ho htx hport htouch hqueue =>
      ⟨ho.trans ?_, ?_, hport.trans ?_, htouch.widen (by simp), hqueue⟩
    · simp only [refusedFor, heldAfter_refused hheld]
      rfl
    · rw [takenOut_waiting (by simp [hwaits])] at htx
      rw [← hid]
      refine ⟨{ replyEntry e.id (.refuse e.id r) (heardWell s) with
        uid := s.nextUid, state := .waiting, attempts := 0, seq := none }, htx.trans ?_, rfl, rfl, rfl, rfl, rfl, rfl, rfl⟩
      simp [joined, Ne.symm hbu]
    · rw [if_neg (by simp [refusedFor, hst]), hid]
  · have hmissing := findOffer_none (s := heardWell s) (id := p.id) fun e he => (hnone e he).1
    have hfull : roomFor (heardWell s).offers.table = none := roomFor_none (fun e he => (hnone e he).2) hlen
    have hjoins := offerEntry_reply_quiet (id := p.id) (p := .refuse p.id .busy) (s := countOverflow (heardWell s)) hq
    have hheard : awardHeard p (heardWell s) =
        (joined (replyEntry p.id (.refuse p.id .busy) (heardWell s)) (countOverflow (heardWell s)), .stored) := by
      rw [awardHeard_own (s := heardWell s) hs, awardOwn, hmissing]
      simp only [directAssignment, hmissing, hfull]
      exact congrArg (fun x => (x.1, Verdict.stored)) hjoins
    have hroute := (route_award (s := heardWell s) hp).trans (congrArg some hheard)
    refine accepted_completes h (by simp) hroute rfl ⟨by simp [joined, countOverflow, satAdd],
      ⟨_, by simp only [settle_keeps]; rfl, rfl, rfl, rfl, rfl, rfl, rfl, rfl⟩, accepted_touches ?_ (by simp)⟩
    exact ⟨rfl, fun b => by cases b <;> simp [Kept, joined, countOverflow]⟩

end Sys2Proof.Claims
end

section
/-! SUPPORT. The queued frames of an entry that is taken away (R50, R51, R70, R73, R80). -/

namespace Sys2Proof.Claims

open Sys2Proof.Machine

/-! ## A frame asked back -/

/-- The state with an entry's retraction asked for its exchange's end. -/
def backAsked (b : PendEntry) (s : State) : State := { s with tx := { s.tx with queue := askedBack b.uid s.tx.queue } }

theorem backAsked_touches (b : PendEntry) (s : State) : OnlyTouches [.tx] s (backAsked b s) :=
  ⟨rfl, fun c => by cases c <;> simp [Kept, backAsked]⟩

theorem backAsked_mono {b : PendEntry} {may : List Block} {s t : State} (hx : .tx ∉ may) (h : OnlyTouches may s t) :
    OnlyTouches may (backAsked b s) (backAsked b t) := by
  have htx : t.tx = s.tx := h.kept hx
  refine ⟨h.1, fun c => (h.2 c).imp id fun hc => ?_⟩
  cases c with
  | tx => simp only [Kept, backAsked, htx]
  | _ => exact hc

/-- What a change leaves, seen from a state with the same offer engine, port and messages. -/
theorem OfferMoved.rebase {o o' : OfferEntry} {v s s' t : State} (h : OfferMoved o o' v s' t) (ho : s'.offers = s.offers)
    (hp : s'.port = s.port) (hq : s'.msg.queue = s.msg.queue) : OfferMoved o o' v s t := by
  refine ⟨?_, ?_, h.touches, h.queue.trans hq⟩
  · rw [h.offers, tableWith_congr (s := s) (by rw [ho]), ho]
  · rw [h.port]
    exact if_congr Iff.rfl hp (raise_port _ _ _ _ hp)

/-- A frame that is not in an exchange is taken out, and its entry gets the result. -/
theorem retract_moved {o o1 o2 : OfferEntry} {b : PendEntry} {g : OfferEntry → OfferEntry} {s : State} (hl : Listed o s)
    (hown : OwnsFrame o b.uid s) (hg : stopTimers (g o) = o1) (hid : o1.id = o.id) (hst : o1.state = o.state)
    (hh : o1.state.isJobHeld = false ∨ s.offers.heldJob = some o.id) (hb : findEntry b.uid s = some b)
    (hs : b.state = .waiting ∨ b.state = .deferring)
    (hrep : ∀ v, Listed o1 v → OwnsFrame o1 b.uid v →
      ∃ res, report ⟨b, .retracted, true⟩ v = updateOffer o1.id res v ∧ stopTimers (res o1) = o2) :
    OfferMoved o o2 (takenOut b s) s (retract b.uid (updateOffer o.id g s)) := by
  have hmoved := updateOffer_moved hl hg
  generalize updateOffer o.id g s = u at *
  have htx : u.tx = s.tx := hmoved.touches.kept (b := .tx) (by simp)
  have hlu : Listed o1 (takenOut b u) := listed_congr (by simp) (hmoved.listed hl hid)
  obtain ⟨res, hrun, hres⟩ := hrep _ hlu (ownsFrame_congr (by simp) (hmoved.ownsFrame hown))
  rw [retract_unkeyed ((findEntry_congr (by rw [htx])).trans hb) hs, hrun]
  exact hmoved.trans ((updateOffer_moved hlu hres).rebase (by simp) (by simp) (by simp)) hid (.inl hst) hh
    (takenOut_mono (by simp) (by simp) hmoved.touches)

/-- One in an exchange stays until its end. -/
theorem retract_asked {o o1 : OfferEntry} {b : PendEntry} {g : OfferEntry → OfferEntry} {s : State} (hl : Listed o s)
    (hg : stopTimers (g o) = o1) (hb : findEntry b.uid s = some b) (hs : b.state = .onAir ∨ b.state = .awaitLack) :
    OfferMoved o o1 (backAsked b s) s (retract b.uid (updateOffer o.id g s)) := by
  have hmoved := updateOffer_moved hl hg
  generalize updateOffer o.id g s = u at *
  have htx : u.tx = s.tx := hmoved.touches.kept (b := .tx) (by simp)
  have hrun : retract b.uid u = backAsked b u := by
    rw [retract_keyed ((findEntry_congr (by rw [htx])).trans hb) hs, updateEntry, updateWhere_askedBack]
    rfl
  rw [hrun]
  exact ⟨hmoved.offers, hmoved.port, (backAsked_mono (by simp) hmoved.touches), hmoved.queue⟩

/-! ## The reply of an entry (R75, R76) -/

theorem retractReply_eq {o : OfferEntry} {f : QueuedFrame} {s : State} (why : RetractReason) (hl : Listed o s)
    (hf : o.replyFrame = some f) :
    retractReply why o.id s =
      retract f.uid (updateOffer o.id (fun e => { e with replyFrame := e.replyFrame.map (recordReason why) }) s) := by
  simp [retractReply, findOffer_of_listed hl, hf]

theorem stopTimers_takenFor_self {st : OfferState} (h : st ∈ finalStates) (o : OfferEntry) :
    stopTimers (takenFor st o) = takenFor st o := by
  have hne : st ≠ .bidSent ∧ st ≠ .awarded := by constructor <;> rintro rfl <;> simp [finalStates] at h
  simp [stopTimers, takenFor, hne]

theorem replyResult_final {st : OfferState} (h : st ∈ finalStates) (accept : Bool) (out : TxOutcome) (o : OfferEntry) :
    stopTimers (replyResult accept out (takenFor st o)) =
      takenFor st { o with replyFrame := none, lastReply := some out } := by
  have hne : st ≠ .bidSent ∧ st ≠ .awarded ∧ st ≠ .accepting := by
    refine ⟨?_, ?_, ?_⟩ <;> rintro rfl <;> simp [finalStates] at h
  simp [replyResult, stopTimers, takenFor, hne]

theorem bidResult_final {st : OfferState} (h : st ∈ finalStates) (n : Nat) (out : TxOutcome) (o : OfferEntry) :
    stopTimers (bidResult n out (takenFor st o)) = takenFor st { o with bidFrame := none } := by
  have hne : st ≠ .bidSent ∧ st ≠ .awarded ∧ st ≠ .bidWait := by
    refine ⟨?_, ?_, ?_⟩ <;> rintro rfl <;> simp [finalStates] at h
  simp [bidResult, stopTimers, takenFor, hne]

/-! ## An entry taken away with a frame -/

/-- What the frame of an entry leaves it by its result. -/
def resultOf (out : TxOutcome) (isBid : Bool) (o : OfferEntry) : OfferEntry :=
  if isBid then { o with bidFrame := none } else { o with replyFrame := none, lastReply := some out }

/-- An entry has one frame in the queue, `b`: its BID, or its reply. -/
def HasFrame (isBid : Bool) (o : OfferEntry) (b : PendEntry) : Prop :=
  if isBid then (∃ r, o.bidFrame = some ⟨b.uid, r⟩) ∧ o.replyFrame = none
  else o.bidFrame = none ∧ ∃ r, o.replyFrame = some ⟨b.uid, r⟩

/-- The entry with the reason of the retraction recorded for its frame. -/
def askedFor (why : RetractReason) (isBid : Bool) (o : OfferEntry) : OfferEntry :=
  if isBid then { o with bidFrame := o.bidFrame.map (recordReason why) }
  else { o with replyFrame := o.replyFrame.map (recordReason why) }

theorem askedFor_hasFrame {why : RetractReason} {isBid : Bool} {o : OfferEntry} {b : PendEntry} (h : HasFrame isBid o b) :
    HasFrame isBid (askedFor why isBid o) b := by
  cases isBid with
  | true =>
    obtain ⟨⟨r, hf⟩, hn⟩ := h
    exact ⟨⟨(recordReason why ⟨b.uid, r⟩).reason, by
      have huid := recordReason_uid why ⟨b.uid, r⟩
      simp only [askedFor, if_true, hf, Option.map_some, Option.some.injEq]
      rw [QueuedFrame.mk.injEq]
      exact ⟨huid, rfl⟩⟩, hn⟩
  | false =>
    obtain ⟨hn, r, hf⟩ := h
    exact ⟨hn, (recordReason why ⟨b.uid, r⟩).reason, by
      have huid := recordReason_uid why ⟨b.uid, r⟩
      simp only [askedFor, Bool.false_eq_true, if_false, hf, Option.map_some, Option.some.injEq]
      rw [QueuedFrame.mk.injEq]
      exact ⟨huid, rfl⟩⟩

/-- The result of the one frame of an entry that was taken away. -/
theorem report_final {isBid : Bool} {o : OfferEntry} {st : OfferState} {b : PendEntry} {v : State} (out : TxOutcome) (r : Bool)
    (hst : st ∈ finalStates) (hf : HasFrame isBid o b) (hl : Listed (takenFor st o) v) (hown : OwnsFrame (takenFor st o) b.uid v)
    (ho : b.owner = .offerEngine) :
    ∃ res, report ⟨b, out, r⟩ v = updateOffer o.id res v ∧ stopTimers (res (takenFor st o)) = takenFor st (resultOf out isBid o) := by
  cases isBid with
  | true =>
    obtain ⟨⟨q, hf⟩, -⟩ := hf
    exact ⟨_, report_bid (o := takenFor st o) out r hl hown (by simp [takenFor, hf]) ho, bidResult_final hst _ _ _⟩
  | false =>
    obtain ⟨hn, q, hf⟩ := hf
    exact ⟨_, report_reply (o := takenFor st o) out r hl hown hn (by simp [takenFor, hf]) ho, replyResult_final hst _ _ _⟩

/-- The frame of an entry is asked back, whichever it is. -/
theorem takeAway_eq {isBid : Bool} {o o2 : OfferEntry} {st : OfferState} {why : RetractReason} {b : PendEntry} {s t w : State}
    (hl : Listed o s) (hst : st ∈ finalStates) (hf : HasFrame isBid o b)
    (ht : t = retract b.uid (updateOffer o.id (askedFor why isBid)
      (updateOffer o.id (fun e => { e with state := st, reason := none }) s)))
    (hmoved : OfferMoved (takenFor st o) o2 w (updateOffer o.id (fun e => { e with state := st, reason := none }) s) t)
    (hid : o2.id = o.id) (hreply : isBid = true → o2.replyFrame = none) : takeAway o.id st why s = t := by
  have hlu := (updateOffer_moved (f := fun e => { e with state := st, reason := none }) hl (stopTimers_takenFor hst o)).listed hl rfl
  have hlt := hmoved.listed hlu hid
  unfold takeAway
  generalize updateOffer o.id (fun e => { e with state := st, reason := none }) s = u at *
  cases isBid with
  | true =>
    obtain ⟨⟨r, hf⟩, -⟩ := hf
    have hbid : retractBid why o.id u = t := (retractBid_eq why hlu hf).trans ht.symm
    rw [hbid, ← hid]
    exact retractReply_none hlt (hreply rfl)
  | false =>
    obtain ⟨hn, r, hf⟩ := hf
    have hbid : retractBid why o.id u = u := retractBid_none (o := takenFor st o) hlu hn
    rw [hbid]
    exact (retractReply_eq why hlu hf).trans ht.symm

theorem resultOf_reply {out : TxOutcome} {isBid : Bool} {o : OfferEntry} {b : PendEntry} (h : HasFrame isBid o b)
    (hb : isBid = true) : (resultOf out isBid o).replyFrame = none := by
  subst hb
  obtain ⟨-, hn⟩ := h
  exact hn

theorem resultOf_id (out : TxOutcome) (isBid : Bool) (o : OfferEntry) : (resultOf out isBid o).id = o.id := by
  cases isBid <;> rfl

theorem askedFor_id (why : RetractReason) (isBid : Bool) (o : OfferEntry) : (askedFor why isBid o).id = o.id := by
  cases isBid <;> rfl

theorem stopTimers_askedFor {st : OfferState} (h : st ∈ finalStates) (why : RetractReason) (isBid : Bool) (o : OfferEntry) :
    stopTimers (askedFor why isBid (takenFor st o)) = takenFor st (askedFor why isBid o) := by
  cases isBid
  · exact stopTimers_takenFor_self h { o with replyFrame := o.replyFrame.map (recordReason why) }
  · exact stopTimers_takenFor_self h { o with bidFrame := o.bidFrame.map (recordReason why) }

theorem resultOf_askedFor (out : TxOutcome) (why : RetractReason) (isBid : Bool) (o : OfferEntry) :
    resultOf out isBid (askedFor why isBid o) = resultOf out isBid o := by
  cases isBid <;> rfl

/-- An entry is taken away with its frame, which is not in an exchange. -/
theorem takeAway_takesBack {isBid : Bool} {o : OfferEntry} {st : OfferState} {why : RetractReason} {b : PendEntry} {s : State}
    (hl : Listed o s) (hst : st ∈ finalStates) (hf : HasFrame isBid o b) (hown : OwnsFrame o b.uid s)
    (hb : findEntry b.uid s = some b) (ho : b.owner = .offerEngine) (hs : b.state = .waiting ∨ b.state = .deferring) :
    OfferMoved o (takenFor st (resultOf .retracted isBid o)) (takenOut b s) s (takeAway o.id st why s) := by
  have hfirst := updateOffer_moved (f := fun e => { e with state := st, reason := none }) hl (stopTimers_takenFor hst o)
  have htx : (updateOffer o.id (fun e => { e with state := st, reason := none }) s).tx = s.tx :=
    hfirst.touches.kept (b := .tx) (by simp)
  have hfree : (takenFor st o).state.isJobHeld = false := notHeld_of_final hst
  have hback := retract_moved (o2 := takenFor st (resultOf .retracted isBid o)) (g := askedFor why isBid) (hfirst.listed hl rfl)
    (hfirst.ownsFrame hown) (stopTimers_askedFor hst why isBid o) (askedFor_id _ _ _) rfl (.inl hfree)
    ((findEntry_congr (by rw [htx])).trans hb) hs fun v hlv hownv => by
      obtain ⟨res, hrun, hres⟩ := report_final .retracted true hst (askedFor_hasFrame (why := why) hf) hlv hownv ho
      rw [resultOf_askedFor] at hres
      exact ⟨res, hrun, hres⟩
  rw [takeAway_eq (why := why) hl hst hf rfl hback (resultOf_id _ _ _) (resultOf_reply hf)]
  exact hfirst.trans hback rfl (.inr rfl) (.inl hfree) (takenOut_mono (by simp) (by simp) hfirst.touches)

/-- An entry is taken away while its frame awaits its LACK. -/
theorem takeAway_asks {isBid : Bool} {o : OfferEntry} {st : OfferState} {why : RetractReason} {b : PendEntry} {s : State}
    (hl : Listed o s) (hst : st ∈ finalStates) (hf : HasFrame isBid o b) (hb : findEntry b.uid s = some b)
    (hs : b.state = .onAir ∨ b.state = .awaitLack) :
    OfferMoved o (takenFor st (askedFor why isBid o)) (backAsked b s) s (takeAway o.id st why s) := by
  have hfirst := updateOffer_moved (f := fun e => { e with state := st, reason := none }) hl (stopTimers_takenFor hst o)
  have htx : (updateOffer o.id (fun e => { e with state := st, reason := none }) s).tx = s.tx :=
    hfirst.touches.kept (b := .tx) (by simp)
  have hfree : (takenFor st o).state.isJobHeld = false := notHeld_of_final hst
  have hback := retract_asked (g := askedFor why isBid) (hfirst.listed hl rfl) (stopTimers_askedFor hst why isBid o)
    ((findEntry_congr (by rw [htx])).trans hb) hs
  rw [takeAway_eq (why := why) hl hst hf rfl hback (askedFor_id _ _ _) fun hbid => by
    subst hbid
    obtain ⟨-, hn⟩ := hf
    exact hn]
  exact hfirst.trans hback rfl (.inr rfl) (.inl hfree) (backAsked_mono (by simp) hfirst.touches)

end Sys2Proof.Claims
end

section
/-! SUPPORT. An AWARD or a WITHDRAW that takes an entry away with its queued frame (R12, R51, R70, R73, R80). -/

namespace Sys2Proof.Claims

open Sys2Proof.Machine

/-! ## The frame heard -/

/-- A frame heard out whose owner leaves no BID held: the link controller alone is left to be said. -/
theorem arrive_settles {k : FrameKind} {f : RxFrame} {u s : State} {v : Verdict} (h : Hears s) (hk : k ≠ .lack)
    (hu : filterFrame k f (heardWell s) = (u, v)) (hg : u.link.carrierInAckGap = false) (hd : u.link.decisionWaits = false)
    (hside : f.needsLack = true → u.link.side ≠ .deferring) : ∃ l, arrive k f s = { u with link := l } := by
  obtain ⟨⟨hs, hkeyed, hcar, -, -⟩, hsteady⟩ := h
  rw [arrive_up hs hkeyed hcar, hearPass_steady hsteady, takeFrame, if_neg hk, hu, endOfFrame_heard hg hd]
  by_cases hsent : lackSent k f v u = true
  · have hasked : f.needsLack = true := by
      by_contra hno
      simp [lackSent, lackOwed, hno] at hsent
    have hback : handBackDeferring { u with link := carrierEnded (if f.needsLack then .ack else .idle) u.link } =
        { u with link := carrierEnded (if f.needsLack then .ack else .idle) u.link } := if_neg (hside hasked)
    rw [if_pos hsent, keyLack, hback]
    exact ⟨_, rfl⟩
  · rw [if_neg hsent]
    exact ⟨_, rfl⟩

theorem settles_completes {k : FrameKind} {f : RxFrame} {u s : State} {v : Verdict} {post : State → Prop} (h : Accepted k f s)
    (hk : k ≠ .lack) (hroute : route k f (heardWell s) = some (u, v)) (hg : u.link.carrierInAckGap = false)
    (hd : u.link.decisionWaits = false) (hside : f.needsLack = true → u.link.side ≠ .deferring)
    (hpost : ∀ l, post (settle { u with link := l })) : Completes (frameCommand k f) s post := by
  obtain ⟨hears, hp, hr, -⟩ := h
  obtain ⟨l, hrun⟩ := arrive_settles hears hk (filterFrame_accepted hp hr hroute) hg hd hside
  exact completes_of ((exec_frameCommand k f s).trans (congrArg (fun u => Host.Outcome.next (settle u)) hrun)) (hpost l)

/-! ## The entry taken away -/

theorem TakesAway.kind {k : FrameKind} {f : RxFrame} {id : OfferId} {st : OfferState} {s : State} (h : TakesAway k f id st s) :
    k ≠ .lack ∧ st ∈ finalStates := by
  obtain ⟨rfl, rfl, -⟩ | ⟨rfl, rfl, -⟩ := h <;> simp [finalStates]

theorem TakesAway.route_listed {k : FrameKind} {f : RxFrame} {e : OfferEntry} {st : OfferState} {s : State}
    (h : TakesAway k f e.id st s) (hl : Listed e s) (he : e.state ∉ finalStates) :
    ∃ why, route k f s = some (takeAway e.id st why s, .stored) := by
  obtain ⟨rfl, rfl, hs, p, hp, hid, hother⟩ | ⟨rfl, rfl, hp⟩ := h
  · refine ⟨.award, ?_⟩
    rw [route_award hp, awardHeard_other hother hs, hid, awardOther_listed hl he]
  · exact ⟨.withdraw, by simp [route, hp, withdrawHeard_listed hl he]⟩

theorem TakesAway.route_dropped {k : FrameKind} {f : RxFrame} {id : OfferId} {st : OfferState} {s : State}
    (h : TakesAway k f id st s) (hnone : ∀ e ∈ s.offers.table, e.id = id → e.state ∈ finalStates) :
    route k f s = some (s, .notStored) := by
  have hdone : ∀ e, findOffer id s = some e → e.state.isFinal = true := fun e he =>
    (isFinal_iff _).2 (hnone e (List.mem_of_find?_eq_some he) (by simpa using List.find?_some he))
  obtain ⟨rfl, rfl, hs, p, hp, rfl, hother⟩ | ⟨rfl, rfl, hp⟩ := h
  · rw [route_award hp, awardHeard_other hother hs, awardOther]
    cases hf : findOffer p.id s with
    | none => rfl
    | some e => simp [hdone e hf]
  · simp only [route, hp, Option.map_some, withdrawHeard]
    cases hf : findOffer id s with
    | none => rfl
    | some e => simp [hdone e hf]

theorem offersWithout_eq {e e' : OfferEntry} {st : OfferState} {s t : State} (hst : st ∈ finalStates)
    (h : t.offers = { s.offers with
      table := tableWith e (takenFor st e') s, heldJob := heldAfter e.id (takenFor st e').state s.offers.heldJob }) :
    t.offers = offersWithout e { e' with state := st } s := by
  have hheld := heldAfter_final (id := e.id) (st := (takenFor st e').state) hst s.offers.heldJob
  rw [h, hheld]
  rfl

theorem takenOut_link (b : PendEntry) (s : State) :
    (takenOut b s).link.carrierInAckGap = s.link.carrierInAckGap ∧ (takenOut b s).link.decisionWaits = s.link.decisionWaits
      ∧ ((takenOut b s).link.side = s.link.side ∨ (takenOut b s).link.side = .idle) := by
  unfold takenOut
  split <;> simp

/-- The frame, which is not in an exchange, goes with its entry. -/
theorem frameTakenBack {isBid : Bool} {k : FrameKind} {f : RxFrame} {id : OfferId} {st : OfferState} {e : OfferEntry}
    {b : PendEntry} {s : State} (ht : TakesAway k f id st s) (hl : Listed e s) (hid : e.id = id) (he : e.state ∉ finalStates)
    (hown : OwnsFrame e b.uid s) (ho : b.owner = .offerEngine) (h : Accepted k f s) (hb : findEntry b.uid s = some b)
    (hs : b.state = .waiting ∨ b.state = .deferring) (hf : HasFrame isBid e b) :
    Completes (frameCommand k f) s fun t =>
      t.offers = offersWithout e { resultOf .retracted isBid e with state := st } s
        ∧ t.tx = { s.tx with queue := s.tx.queue.filter fun a => a.uid != b.uid }
        ∧ t.port = (raise .offerChanged (.offer id) s).port
        ∧ OnlyTouches [.link, .tx, .offers, .msg, .port] s t ∧ t.msg.queue = s.msg.queue := by
  subst hid
  obtain ⟨hk, hst⟩ := ht.kind
  obtain ⟨⟨⟨-, -, -, hgap, hd⟩, -⟩, -, -, hside⟩ := id h
  obtain ⟨why, hroute⟩ := TakesAway.route_listed (s := heardWell s) ht hl he
  have hmoved := takeAway_takesBack (why := why) (s := heardWell s) hl hst hf hown hb ho hs
  obtain ⟨hog, hod, hos⟩ := takenOut_link b (heardWell s)
  have htx := hmoved.touches.kept (b := .tx) (by simp)
  have hlink := hmoved.touches.kept (b := .link) (by simp)
  generalize takeAway e.id st why (heardWell s) = u at *
  have hlink : u.link = (takenOut b (heardWell s)).link := hlink
  rw [← hlink] at hog hod hos
  refine settles_completes h hk hroute (hog.trans hgap) (hod.trans hd) (fun hask => ?_) fun l => ⟨?_, ?_, ?_, ?_, ?_⟩
  · obtain hos | hos := hos
    · rw [hos]
      exact hside hask
    · simp [hos]
  · refine offersWithout_eq hst ?_
    simp only [settle_keeps]
    exact hmoved.offers
  · simp only [settle_keeps]
    exact htx
  · simp only [settle_keeps, hmoved.port]
    rw [if_neg]
    · exact raise_port _ _ _ _ rfl
    · rintro hsame
      exact he (hsame ▸ hst)
  · exact accepted_touches (((takenOut_touches b (heardWell s)).widen (by simp)).trans (hmoved.touches.widen (by simp))) (by simp)
  · simpa using hmoved.queue

/-! ## The frame awaits its LACK, whose decision waits for the end of the frame heard -/

/-- The state with the frame heard out and the attempt decided without a LACK, its entry out of the queue. -/
def undecided (b : PendEntry) (s : State) : State :=
  dequeue b.uid (decided false { s with link := { s.link with carrier := false, carrierInAckGap := false } })

theorem endOfFrame_decides {isBid : Bool} {k : FrameKind} {f : RxFrame} {o : OfferEntry} {st : OfferState} {b : PendEntry}
    {v : Verdict} {u s : State} (h : HeardWhileDeciding k f b s) (hlink : u.link = (heardWell s).link)
    (htx : u.tx = (backAsked b s).tx) (hst : st ∈ finalStates) (hl : Listed (takenFor st o) u)
    (hown : OwnsFrame (takenFor st o) b.uid u) (hf : HasFrame isBid o b) (ho : b.owner = .offerEngine) :
    ∃ res, stopTimers (res (takenFor st o)) = takenFor st (resultOf .noLack isBid o)
      ∧ endOfFrame k f v u = updateOffer o.id res (undecided b u) ∧ (undecided b u).tx.queue = [] := by
  obtain ⟨-, -, -, hgap, hd, hlack, hnone, hside, hqueue, -, -, -, -, hsteady⟩ := h
  have hallowed : lackAllowed u = false := by
    rw [lackAllowed, hlink]
    simp [heardWell, hside, TxSide.noExchange]
  have hwaits : (gapAfter (if f.needsLack then .ack else .idle) u) =
      { u with link := { u.link with carrier := false, carrierInAckGap := false } } := by
    simp [gapAfter, hlink, heardWell, hgap, hnone]
  have hheld : heldEntry { u with link := { u.link with carrier := false, carrierInAckGap := false } } =
      some { b with state := .retractPending } := by
    simp [heldEntry, htx, backAsked, askedBack, hqueue]
  have hdecide := decideAttempt_decides (lack := false) hheld (by simpa [hlink, heardWell] using hlack)
    (by simpa [hlink, heardWell] using hnone) (.inr (.inr (.inr rfl)))
  obtain ⟨res, hrun, hres⟩ := report_final (v := undecided b u) (b := attempted { b with state := .retractPending })
    .noLack true hst hf (listed_congr rfl hl) (ownsFrame_congr rfl hown) ho
  have hempty : (undecided b u).tx.queue = [] := by
    simp [undecided, dequeue, decided, htx, backAsked, askedBack, hqueue]
  refine ⟨res, hres, ?_, hempty⟩
  have htouch := updateOffer_touches o.id res (undecided b u)
  have hulink : (updateOffer o.id res (undecided b u)).link = (undecided b u).link := htouch.kept (b := .link) (by simp)
  have hutx : (updateOffer o.id res (undecided b u)).tx = (undecided b u).tx := htouch.kept (b := .tx) (by simp)
  have hexchanged : exchanged { b with state := .retractPending } .noLack
      (decided false { u with link := { u.link with carrier := false, carrierInAckGap := false } }) =
        updateOffer o.id res (undecided b u) := hrun
  rw [if_neg Bool.false_ne_true, hexchanged, evaluateLink_steady (by
    rw [hulink]
    simpa [undecided, dequeue, decided, hlink, heardWell] using hsteady)] at hdecide
  unfold endOfFrame
  simp only [hallowed, Bool.and_false, Bool.false_eq_true, if_false]
  rw [hwaits, afterCarrier, if_pos (by simpa [hlink, heardWell] using hd)]
  exact (congrArg channelBecomesFree hdecide).trans
    (channelBecomesFree_empty (by rw [hulink]; rfl) (by rw [hutx]; exact hempty))

theorem frameDecidedAndTaken {isBid : Bool} {k : FrameKind} {f : RxFrame} {id : OfferId} {st : OfferState} {e : OfferEntry}
    {b : PendEntry} {s : State} (ht : TakesAway k f id st s) (hl : Listed e s) (hid : e.id = id) (he : e.state ∉ finalStates)
    (hown : OwnsFrame e b.uid s) (ho : b.owner = .offerEngine) (h : HeardWhileDeciding k f b s) (hf : HasFrame isBid e b) :
    Completes (frameCommand k f) s fun t =>
      t.offers = offersWithout e { resultOf .noLack isBid e with state := st } s ∧ t.tx.queue = []
        ∧ t.link.sfc = min 256 (s.link.sfc + 8) ∧ t.link.lastFault = .noLack ∧ t.link.side = .idle
        ∧ t.port = (raise .offerChanged (.offer id) s).port
        ∧ OnlyTouches [.link, .tx, .offers, .msg, .port] s t ∧ t.msg.queue = s.msg.queue := by
  subst hid
  obtain ⟨hk, hst⟩ := ht.kind
  obtain ⟨hs, hkeyed, hcar, -, -, -, -, -, hqueue, hb, hp, hr, hsteady, -⟩ := id h
  obtain ⟨why, hroute⟩ := TakesAway.route_listed (s := heardWell s) ht hl he
  have hfind : findEntry b.uid s = some b := by simp [findEntry, hqueue]
  have hmoved := takeAway_asks (why := why) (s := heardWell s) hl hst hf hfind (.inr hb)
  have hfilter := filterFrame_accepted hp hr hroute
  generalize takeAway e.id st why (heardWell s) = u at *
  have hutouch : OnlyTouches [.tx, .offers, .msg, .port] (heardWell s) u :=
    ((backAsked_touches b (heardWell s)).widen (by simp)).trans (hmoved.touches.widen (by simp))
  have hlu : Listed (takenFor st (askedFor why isBid e)) u := hmoved.listed hl (askedFor_id _ _ _)
  obtain ⟨res, hres, hend, hempty⟩ := endOfFrame_decides (v := .stored) h (hutouch.kept (b := .link) (by simp))
    (hmoved.touches.kept (b := .tx) (by simp)) hst hlu (hmoved.ownsFrame hown) (askedFor_hasFrame hf) ho
  have hrun : arrive k f s = updateOffer e.id res (undecided b u) := by
    rw [arrive_up hs hkeyed hcar, hearPass_steady hsteady, takeFrame, if_neg hk, hfilter, hend, askedFor_id]
  rw [resultOf_askedFor] at hres
  have hlast := (updateOffer_moved (listed_congr (t := undecided b u) rfl hlu) hres).rebase (s := u) rfl rfl rfl
  have hidt : (takenFor st (askedFor why isBid e)).id = e.id := askedFor_id _ _ _
  rw [hidt] at hlast
  have hall := hmoved.trans hlast (askedFor_id _ _ _) (.inr rfl) (.inl (notHeld_of_final hst)) (onlyTouches_refl _ _)
  have htouch : OnlyTouches [.link, .tx, .offers, .msg, .port] s (undecided b u) := by
    have hset : OnlyTouches [.link, .tx, .offers, .msg, .port] u (undecided b u) :=
      ⟨rfl, fun c => by cases c <;> simp [Kept, undecided, dequeue, decided]⟩
    exact ((heardWell_touches s).widen (by simp)).trans ((hutouch.widen (by simp)).trans hset)
  have htx : (updateOffer e.id res (undecided b u)).tx = (undecided b u).tx := hall.touches.kept (b := .tx) (by simp)
  have hulink : u.link = (heardWell s).link := hutouch.kept (b := .link) (by simp)
  have hlink : (updateOffer e.id res (undecided b u)).link = (undecided b u).link := hall.touches.kept (b := .link) (by simp)
  refine completes_of ((exec_frameCommand k f s).trans (congrArg (fun u => Host.Outcome.next (settle u)) hrun))
    ⟨?_, ?_, ?_, ?_, ?_, ?_, onlyTouches_settle (htouch.trans (hall.touches.widen (by simp))), by simpa using hall.queue⟩
  · refine offersWithout_eq hst ?_
    simp only [settle_keeps]
    exact hall.offers
  · simp only [settle_keeps, htx, hempty]
  · simp only [settle_keeps, hlink]
    simp [undecided, dequeue, decided, hulink, heardWell]
  · simp only [settle_keeps, hlink]
    rfl
  · simp only [settle_keeps, hlink]
    rfl
  · simp only [settle_keeps, hall.port]
    rw [if_neg]
    · exact raise_port _ _ _ _ rfl
    · rintro hsame
      exact he (hsame ▸ hst)

theorem queuedFramesAreTakenBack : QueuedFramesAreTakenBack := by
  intro k f id st s ht
  refine ⟨fun e b r hl hid he hown ho => ⟨fun h hb hs => ⟨fun hf hn => ?_, fun hn hf => ?_⟩,
    fun h => ⟨fun hf hn => ?_, fun hn hf => ?_⟩⟩, fun h hnone => ?_⟩
  · exact frameTakenBack (isBid := true) ht hl hid he hown ho h hb hs ⟨⟨r, hf⟩, hn⟩
  · exact frameTakenBack (isBid := false) ht hl hid he hown ho h hb hs ⟨hn, r, hf⟩
  · exact frameDecidedAndTaken (isBid := true) ht hl hid he hown ho h ⟨⟨r, hf⟩, hn⟩
  · exact frameDecidedAndTaken (isBid := false) ht hl hid he hown ho h ⟨hn, r, hf⟩
  · exact accepted_dropped h ht.kind.1 (TakesAway.route_dropped (s := heardWell s) ht hnone)

/-- Settles O60. -/
theorem directAssignmentsAndFramesTakenBack : Obligations.DirectAssignmentsAndFramesTakenBack :=
  ⟨directAssignmentIsTaken, directAssignmentIsRefused, queuedFramesAreTakenBack⟩

end Sys2Proof.Claims
end

section
/-! SUPPORT. A MESSAGE heard: stored, acknowledged alone, refused, or stored in the place of an evicted one (R14, R149 to R151,
R155, R158). -/

namespace Sys2Proof.Claims

open Sys2Proof.Machine

/-! ## A message stored -/

/-- The message unit with a new message, before the pages are composed. -/
def stored (m : Message) (s : State) : State :=
  raise .messageNew (.message m.pair) { s with msg := { s.msg with
    queue := s.msg.queue ++ [m], recent := pushDropHead 16 s.msg.recent m.pair } }

theorem storeMessage_eq (f : RxFrame) (p : MessageFields) (s : State) :
    storeMessage ⟨f.source, p.number⟩ f.fleet p s =
      if p.kind = .priorityText then showPage 2 (stored (newMessage f p .new s) s)
      else composeMessages (stored (newMessage f p .new s) s) := rfl

theorem mem_pushDropHead {α : Type} (cap : Nat) (l : List α) (a : α) : a ∈ pushDropHead cap l a := by
  unfold pushDropHead
  split <;> simp

theorem stored_touches (m : Message) (s : State) : OnlyTouches [.msg, .port] s (stored m s) := by
  have hset : OnlyTouches [.msg, .port] s { s with msg := { s.msg with
      queue := s.msg.queue ++ [m], recent := pushDropHead 16 s.msg.recent m.pair } } :=
    ⟨rfl, fun b => by cases b <;> simp [Kept]⟩
  exact hset.trans ((raise_touches _ _ _).widen (by simp))

theorem stored_port (m : Message) (s : State) : (stored m s).port = (raise .messageNew (.message m.pair) s).port :=
  raise_port _ _ _ _ rfl

@[simp] theorem stored_msg (m : Message) (s : State) : (stored m s).msg = { s.msg with
    queue := s.msg.queue ++ [m], recent := pushDropHead 16 s.msg.recent m.pair } := by simp [stored]

/-- With page 0 shown a TEXT joins as it came. -/
theorem storeMessage_text {f : RxFrame} {p : MessageFields} {s : State} (hk : p.kind ≠ .priorityText) (h0 : s.msg.shown = 0) :
    (storeMessage ⟨f.source, p.number⟩ f.fleet p s).msg.queue = s.msg.queue ++ [newMessage f p .new s]
      ∧ (storeMessage ⟨f.source, p.number⟩ f.fleet p s).msg.shown = 0
      ∧ ⟨f.source, p.number⟩ ∈ (storeMessage ⟨f.source, p.number⟩ f.fleet p s).msg.recent
      ∧ (storeMessage ⟨f.source, p.number⟩ f.fleet p s).msg.receiptLost = s.msg.receiptLost
      ∧ (storeMessage ⟨f.source, p.number⟩ f.fleet p s).msg.refusals = s.msg.refusals := by
  rw [storeMessage_eq, if_neg hk]
  have hshown : (stored (newMessage f p .new s) s).msg.shown = 0 := by simp [h0]
  have hpage := newToShown_otherPages (.inl hshown)
  obtain ⟨hqueue, hshow, hrecent, hrefusals, hlost, -⟩ := composeMessages_keeps_msg (stored (newMessage f p .new s) s)
  refine ⟨by rw [hqueue, hpage, stored_msg], hshow.trans hshown, ?_, by rw [hlost, stored_msg], by rw [hrefusals, stored_msg]⟩
  rw [hrecent, stored_msg]
  exact mem_pushDropHead _ _ _

theorem storeMessage_touches (f : RxFrame) (p : MessageFields) (s : State) :
    OnlyTouches [.msg, .port] s (storeMessage ⟨f.source, p.number⟩ f.fleet p s) := by
  rw [storeMessage_eq]
  split
  · exact (stored_touches _ s).trans ((showPage_touches _ _).widen (by simp))
  · exact (stored_touches _ s).trans ((composeMessages_touches _).widen (by simp))

theorem storeMessage_port (f : RxFrame) (p : MessageFields) (s : State) :
    (storeMessage ⟨f.source, p.number⟩ f.fleet p s).port = (raise .messageNew (.message ⟨f.source, p.number⟩) s).port := by
  rw [storeMessage_eq]
  split
  · rw [(showPage_touches _ _).kept (b := .port) (by simp)]
    exact stored_port _ s
  · rw [(composeMessages_touches _).kept (b := .port) (by simp)]
    exact stored_port _ s

/-- A PRIORITY_TEXT is the first displayed message, and page 2 shows it. -/
theorem storeMessage_priority {f : RxFrame} {p : MessageFields} {s : State} (hk : p.kind = .priorityText) (hlit : s.lit = true)
    (hnew : ∀ m ∈ s.msg.queue, m.pair ≠ ⟨f.source, p.number⟩) :
    (storeMessage ⟨f.source, p.number⟩ f.fleet p s).msg.queue = s.msg.queue ++ [newMessage f p .shown s]
      ∧ (storeMessage ⟨f.source, p.number⟩ f.fleet p s).msg.shown = 2 := by
  rw [storeMessage_eq, if_pos hk]
  obtain ⟨hqueue, hshow, -⟩ := composeMessages_keeps_msg { stored (newMessage f p .new s) s with
    msg := { (stored (newMessage f p .new s) s).msg with shown := 2 } }
  refine ⟨hqueue.trans ?_, hshow⟩
  have hdisplayed : (newMessage f p .new s).displayed = true := rfl
  have hfirst : messageOn { stored (newMessage f p .new s) s with
      msg := { (stored (newMessage f p .new s) s).msg with shown := 2 } } 2 = some (newMessage f p .new s) := by
    simp [messageOn, displayedMessages, hdisplayed]
  have hlit' : ({ stored (newMessage f p .new s) s with
      msg := { (stored (newMessage f p .new s) s).msg with shown := 2 } } : State).lit = true := by
    simpa [State.lit, stored] using hlit
  have hkept : updateWhere (fun e => e.pair == (newMessage f p .new s).pair) (fun e => { e with state := .shown }) s.msg.queue
      = s.msg.queue := by
    refine (List.map_congr_left fun m hm => if_neg ?_).trans (List.map_id _)
    have hpair : (newMessage f p .new s).pair = ⟨f.source, p.number⟩ := rfl
    simpa [hpair] using hnew m hm
  rw [newToShown, hfirst]
  refine (congrArg (fun t : State => t.msg.queue) (if_pos ⟨hlit', rfl⟩)).trans ?_
  rw [updateWhere] at hkept
  simp only [stored_msg, updateWhere, List.map_append, hkept]
  simp [newMessage]

/-! ## The frame -/

theorem route_message {f : RxFrame} {p : MessageFields} {s : State} {r : State × Verdict} (hp : parseMessage f.payload = some p)
    (h : messageHeard f.source f.dest f.fleet p s = r) : route .message f s = some r := by
  simp [route, hp, h]

theorem messageHeard_known {f : RxFrame} {p : MessageFields} {s : State} (hs : s.link.station = some f.dest)
    (h : ⟨f.source, p.number⟩ ∈ s.msg.recent) : messageHeard f.source f.dest f.fleet p s = (s, .ackOnly) := by
  have hdest : ¬ f.dest ≠ s.station := by simp [State.station, hs]
  have hknown : s.msg.recent.contains ⟨f.source, p.number⟩ = true := by simpa using h
  simp only [messageHeard, hdest, if_false, hknown, or_true, if_true]

theorem messageHeard_new {f : RxFrame} {p : MessageFields} {s : State} (hs : s.link.station = some f.dest)
    (hnew : ∀ m ∈ s.msg.queue, m.pair ≠ ⟨f.source, p.number⟩) (hrecent : ⟨f.source, p.number⟩ ∉ s.msg.recent) :
    (s.msg.queue.length < 12 → messageHeard f.source f.dest f.fleet p s =
        (storeMessage ⟨f.source, p.number⟩ f.fleet p s, .stored))
      ∧ (∀ v, 12 ≤ s.msg.queue.length → evictable s.msg.queue = some v → messageHeard f.source f.dest f.fleet p s =
        (storeMessage ⟨f.source, p.number⟩ f.fleet p (evict v s), .stored))
      ∧ (12 ≤ s.msg.queue.length → evictable s.msg.queue = none → messageHeard f.source f.dest f.fleet p s =
        ({ s with msg.refusals := satAdd 65535 s.msg.refusals 1 }, .notStored)) := by
  have hdest : ¬ f.dest ≠ s.station := by simp [State.station, hs]
  have hunknown : ¬ ((findMessage ⟨f.source, p.number⟩ s).isSome = true ∨ s.msg.recent.contains ⟨f.source, p.number⟩ = true) := by
    rintro (h | h)
    · obtain ⟨m, hm⟩ := Option.isSome_iff_exists.1 h
      exact hnew m (List.mem_of_find?_eq_some hm) (by simpa using List.find?_some hm)
    · exact hrecent (by simpa using h)
  refine ⟨fun hroom => ?_, fun v hfull hv => ?_, fun hfull hv => ?_⟩
  · have hroom : s.msg.queue.length < Config.messageCapacity := hroom
    simp only [messageHeard, hdest, hunknown, if_false, hroom, if_true]
  · have hfull : ¬ s.msg.queue.length < Config.messageCapacity := by simpa [Config.messageCapacity] using hfull
    simp only [messageHeard, hdest, hunknown, if_false, hfull, hv]
  · have hfull : ¬ s.msg.queue.length < Config.messageCapacity := by simpa [Config.messageCapacity] using hfull
    simp only [messageHeard, hdest, hunknown, if_false, hfull, hv]

end Sys2Proof.Claims
end

section
/-! SUPPORT. MESSAGE: what completes (R14, R149 to R151, R155, R158). -/

namespace Sys2Proof.Claims

open Sys2Proof.Machine

theorem linkAfter_lacked {k : FrameKind} {f : RxFrame} {v : Verdict} {s : State} (h : Accepted k f s) (hcan : LackCanFollow f s)
    (hk : k ≠ .emergency ∧ k ≠ .emergencyAck) (hv : v.acked = true) : linkAfter k f v s = lackingLink f s := by
  obtain ⟨⟨⟨-, -, -, hgap, -⟩, -⟩, ⟨hsrc, -⟩, -⟩ := h
  obtain ⟨hask, hstation, hidle, hsil, hrec⟩ := hcan
  obtain ⟨-, -, hsent⟩ := lackSent_of_owed (k := k) (v := v) hsrc ⟨hask, hstation⟩ (.inl hidle) ⟨hsil, hrec⟩ hgap hk
  exact if_pos (hsent.trans hv)

theorem evictable_none {q : List Message} (h : ∀ m ∈ q, m.state = .new) : evictable q = none := by
  have hsettled : q.find? Message.settled = none := by
    rw [List.find?_eq_none]
    intro m hm
    simp [Message.settled, h m hm]
  rw [evictable, hsettled]
  refine List.find?_eq_none.2 fun m hm => ?_
  simp [h m hm]

theorem settled_iff (m : Message) : m.settled = true ↔ m.state = .read ∨ m.state = .replied ∨ m.state = .expired := by
  simp [Message.settled, or_assoc]

theorem evictable_evicted {v : Message} {q : List Message} (h : Evicted v q) : evictable q = some v := by
  obtain ⟨before, after, rfl, ⟨hv, hbefore⟩ | ⟨hnone, ⟨hkind, hstate⟩, hbefore⟩⟩ := h
  · have hfirst : (before ++ v :: after).find? Message.settled = some v := by
      rw [List.find?_eq_some_iff_append]
      exact ⟨(settled_iff v).2 hv, before, after, rfl, fun a ha => by
        have hnot := (settled_iff a).not.2 (hbefore a ha)
        simpa using hnot⟩
    rw [evictable, hfirst]
  · have hno : (before ++ v :: after).find? Message.settled = none :=
      List.find?_eq_none.2 fun a ha => (settled_iff a).not.2 (hnone a ha)
    rw [evictable, hno]
    refine List.find?_eq_some_iff_append.2 ⟨by simp [hkind, hstate], before, after, rfl, fun a ha => ?_⟩
    have hnot := hbefore a ha
    by_cases hk : a.kind = .text
    · have hs : a.state ≠ .shown := fun hs => hnot ⟨hk, hs⟩
      simp [hk, hs]
    · simp [hk]

theorem owesReceipt_iff (m : Message) :
    m.owesReceipt = true ↔ m.receipt = some (.owed .read) ∨ m.receipt = some (.owed .reply) := by
  unfold Message.owesReceipt
  split
  next k h => cases k <;> simp [h]
  next h =>
    constructor
    · simp
    · rintro (hm | hm) <;> exact absurd hm (h _)

theorem evict_msg (v : Message) (s : State) :
    (evict v s).msg = { s.msg with
      queue := s.msg.queue.filter fun m => m.pair != v.pair
      receiptLost := if v.receipt = some (.owed .read) ∨ v.receipt = some (.owed .reply) then
        min 65535 (s.msg.receiptLost + 1) else s.msg.receiptLost } := by
  by_cases h : v.owesReceipt = true
  · simp [evict, h, (owesReceipt_iff v).1 h, satAdd]
  · simp [evict, h, (owesReceipt_iff v).not.1 h]

theorem evict_touches (v : Message) (s : State) : OnlyTouches [.msg] s (evict v s) := by
  unfold evict
  dsimp only
  split <;> exact ⟨rfl, fun b => by cases b <;> simp [Kept]⟩

theorem lit_heardWell {k : FrameKind} {f : RxFrame} {s : State} (h : Accepted k f s) : (heardWell s).lit = true := by
  obtain ⟨⟨⟨hs, -⟩, -⟩, -⟩ := h
  exact lit_of_up hs rfl

/-- What completes with a new message stored, from a state that only the messages tell from the one that heard the frame. -/
theorem stored_completes {f : RxFrame} {p : MessageFields} {s u : State} {post : State → Prop} (h : Accepted .message f s)
    (hp : parseMessage f.payload = some p) (hcan : LackCanFollow f s)
    (hheard : messageHeard f.source f.dest f.fleet p (heardWell s) = (storeMessage ⟨f.source, p.number⟩ f.fleet p u, .stored))
    (hu : OnlyTouches [.msg] (heardWell s) u)
    (hpost : ∀ t : State, LackKeyed f s t → t.port = (raise .messageNew (.message ⟨f.source, p.number⟩) s).port →
      OnlyTouches [.link, .msg, .port] s t →
      t.msg = { (storeMessage ⟨f.source, p.number⟩ f.fleet p u).msg with bus := t.msg.bus } → post t) :
    Completes (.message f) s post := by
  have htouch := (hu.widen (more := [.link, .msg, .port]) (by simp)).trans ((storeMessage_touches f p u).widen (by simp))
  have hlinked : (storeMessage ⟨f.source, p.number⟩ f.fleet p u).link = (heardWell s).link :=
    ((storeMessage_touches f p u).kept (b := .link) (by simp)).trans (hu.kept (b := .link) (by simp))
  refine accepted_completes h (by simp) (route_message hp hheard) hlinked
    (hpost _ ?_ ?_ (accepted_touches htouch (by simp)) (by rw [settle_msg]))
  · rw [linkAfter_lacked h hcan (by simp) rfl]
    simp [LackKeyed, lackingLink]
  · have hport : u.port = s.port := hu.kept (b := .port) (by simp)
    simp only [settle_keeps]
    rw [storeMessage_port]
    exact raise_port _ _ _ _ hport

theorem newMessage_congr {f : RxFrame} {p : MessageFields} {st : MsgState} {s t : State} (h : t.port = s.port) :
    newMessage f p st t = newMessage f p st s := by
  rw [newMessage, h, newMessage]

theorem messageIsStoredOrRefused : MessageIsStoredOrRefused := by
  intro f p s h hp hcan
  obtain ⟨-, hstation, -⟩ := id hcan
  refine ⟨fun hnew hrecent hroom hk h0 => ?_, fun hknown => ?_, fun hall hrecent hfull => ?_⟩
  · obtain ⟨hstore, -⟩ := messageHeard_new (s := heardWell s) hstation hnew hrecent
    obtain ⟨hqueue, hshown, hmem, -⟩ := storeMessage_text (f := f) (s := heardWell s) hk h0
    refine stored_completes h hp hcan (hstore hroom) (onlyTouches_refl _ _) fun t hlink hport htouch hmsg =>
      ⟨hlink, ⟨newMessage f p .new s, ?_, rfl, rfl, rfl, rfl, rfl, rfl, rfl, rfl⟩, ?_, ?_, hport, htouch⟩
    · rw [hmsg]
      exact hqueue
    · rw [hmsg]
      exact hmem
    · rw [hmsg]
      exact hshown
  · have hheard := messageHeard_known (s := heardWell s) (f := f) (p := p) hstation hknown
    exact accepted_completes h (by simp) (route_message hp hheard) rfl
      ⟨by rw [linkAfter_lacked h hcan (by simp) rfl]; simp [LackKeyed, lackingLink], accepted_touches (onlyTouches_refl _ _) (by simp)⟩
  · obtain ⟨-, -, hrefuse⟩ := messageHeard_new (s := heardWell s) (f := f) hstation (fun m hm => (hall m hm).1) hrecent
    have hheard := hrefuse hfull (evictable_none fun m hm => (hall m hm).2)
    exact accepted_completes h (by simp) (route_message hp hheard) rfl
      ⟨by rw [linkAfter_notStored]; simp, by rw [settle_msg]; simp [satAdd, heardWell],
        accepted_touches ⟨rfl, fun b => by cases b <;> simp [Kept, heardWell]⟩ (by simp)⟩

theorem priorityAndEviction : PriorityAndEviction := by
  intro f p s h hp hcan hnew hrecent
  obtain ⟨-, hstation, -⟩ := id hcan
  obtain ⟨hroomed, hfulled, -⟩ := messageHeard_new (s := heardWell s) hstation hnew hrecent
  refine ⟨fun hk hroom => ?_, fun v hfull hnodup hv => ⟨fun hk h0 => ?_, fun hk => ?_⟩⟩
  · obtain ⟨hqueue, hshown⟩ := storeMessage_priority (f := f) (s := heardWell s) hk (lit_heardWell h) hnew
    refine stored_completes h hp hcan (hroomed hroom) (onlyTouches_refl _ _) fun t hlink hport htouch hmsg =>
      ⟨hlink, ?_, ?_, hport, htouch⟩
    · rw [hmsg]
      exact hshown
    · rw [hmsg]
      exact hqueue
  · have hout := evict_touches v (heardWell s)
    have hmsg' := evict_msg v (heardWell s)
    have hport : (evict v (heardWell s)).port = s.port := hout.kept (b := .port) (by simp)
    obtain ⟨hqueue, -, -, hlost, hrefusals⟩ := storeMessage_text (f := f) (s := evict v (heardWell s)) hk (by rw [hmsg']; exact h0)
    refine stored_completes h hp hcan (hfulled v hfull (evictable_evicted hv)) hout fun t hlink hport' htouch hmsg =>
      ⟨hlink, ?_, ?_, ?_, hport', htouch⟩
    · rw [hmsg]
      refine hqueue.trans ?_
      rw [hmsg', newMessage_congr hport]
      rfl
    · rw [hmsg]
      exact hlost.trans (by rw [hmsg']; rfl)
    · rw [hmsg]
      exact hrefusals.trans (by rw [hmsg']; rfl)
  · have hout := evict_touches v (heardWell s)
    have hmsg' := evict_msg v (heardWell s)
    have hport : (evict v (heardWell s)).port = s.port := hout.kept (b := .port) (by simp)
    have hrest : ∀ m ∈ (evict v (heardWell s)).msg.queue, m.pair ≠ ⟨f.source, p.number⟩ := by
      rw [hmsg']
      exact fun m hm => hnew m (List.mem_of_mem_filter hm)
    have hlit : (evict v (heardWell s)).lit = true := by
      rw [State.lit, hport]
      exact lit_heardWell h
    obtain ⟨hqueue, hshown⟩ := storeMessage_priority (f := f) hk hlit hrest
    refine stored_completes h hp hcan (hfulled v hfull (evictable_evicted hv)) hout fun t hlink _ htouch hmsg =>
      ⟨hlink, ?_, ?_, htouch⟩
    · rw [hmsg]
      exact hshown
    · rw [hmsg]
      refine hqueue.trans ?_
      rw [hmsg', newMessage_congr hport]
      rfl

/-- Settles O37. -/
theorem messageIsStoredOnce : Obligations.MessageIsStoredOnce := ⟨messageIsStoredOrRefused, priorityAndEviction⟩

end Sys2Proof.Claims
end

section
/-! SUPPORT. The relay table, and what a frame of a pair does with its entry (R179 to R182). -/

namespace Sys2Proof.Claims

open Sys2Proof.Machine

/-! ## The table -/

/-- The emergency controller with another relay table. -/
def withRelays (l : List RelayEntry) (s : State) : State := { s with emerg := { s.emerg with relays := l } }

/-- A table with the entry `r` as `r'`. -/
def relaysWith (r r' : RelayEntry) (l : List RelayEntry) : List RelayEntry := l.map fun a => if a.id = r.id then r' else a

theorem withRelays_touches (l : List RelayEntry) (s : State) : OnlyTouches [.emerg] s (withRelays l s) :=
  ⟨rfl, fun b => by cases b <;> simp [Kept, withRelays]⟩

theorem updateWhere_relay {r r' : RelayEntry} {f : RelayEntry → RelayEntry} {s : State} (h : InRelays r s) (hf : f r = r') :
    updateWhere (fun e => e.id == r.id) f s.emerg.relays = relaysWith r r' s.emerg.relays := by
  obtain ⟨-, hu⟩ := h
  refine List.map_congr_left fun a ha => ?_
  by_cases hid : a.id = r.id
  · have har := hu a ha hid
    subst har
    simp [hf]
  · simp [hid]

theorem updateRelay_eq {r r' : RelayEntry} {f : RelayEntry → RelayEntry} {s : State} (h : InRelays r s) (hf : f r = r') :
    updateRelay r.id f s = withRelays (relaysWith r r' s.emerg.relays) s := by
  rw [updateRelay, updateWhere_relay h hf]
  rfl

theorem inRelays_with {r r' : RelayEntry} {s t : State} (h : InRelays r s) (hid : r'.id = r.id)
    (ht : t.emerg.relays = relaysWith r r' s.emerg.relays) : InRelays r' t := by
  obtain ⟨hm, -⟩ := h
  rw [InRelays, ht]
  refine ⟨List.mem_map.2 ⟨r, hm, if_pos rfl⟩, fun a ha haid => ?_⟩
  obtain ⟨b, -, rfl⟩ := List.mem_map.1 ha
  split at haid
  next h => simp [h]
  next h => exact absurd (haid.trans hid) h

theorem relaysWith_twice {r r1 r2 : RelayEntry} (hid : r1.id = r.id) (l : List RelayEntry) :
    relaysWith r1 r2 (relaysWith r r1 l) = relaysWith r r2 l := by
  rw [relaysWith, relaysWith, List.map_map]
  refine List.map_congr_left fun a _ => ?_
  by_cases ha : a.id = r.id <;> simp [ha, hid]

theorem findRelay_listed {r : RelayEntry} {s : State} (h : InRelays r s) : findRelay r.id s = some r := by
  obtain ⟨hm, hu⟩ := h
  unfold findRelay
  cases hf : s.emerg.relays.find? fun e => e.id == r.id with
  | none => exact absurd (beq_self_eq_true r.id) (List.find?_eq_none.1 hf r hm)
  | some a => rw [hu a (List.mem_of_find?_eq_some hf) (by simpa using List.find?_some hf)]

theorem findRelay_none {id : AlarmId} {s : State} (h : ∀ e ∈ s.emerg.relays, e.id ≠ id) : findRelay id s = none := by
  rw [findRelay, List.find?_eq_none]
  simpa using h

theorem inRelays_new {e : RelayEntry} {l : List RelayEntry} {s : State} (h : ∀ a ∈ l, a.id ≠ e.id)
    (hs : s.emerg.relays = l ++ [e]) : InRelays e s := by
  rw [InRelays, hs]
  refine ⟨by simp, fun a ha hid => ?_⟩
  obtain ha | ha := List.mem_append.1 ha
  · exact absurd hid (h a ha)
  · exact List.mem_singleton.1 ha

theorem relaysWith_new {e e' : RelayEntry} {l : List RelayEntry} (h : ∀ a ∈ l, a.id ≠ e.id) :
    relaysWith e e' (l ++ [e]) = l ++ [e'] := by
  have hkept : (l.map fun a => if a.id = e.id then e' else a) = l :=
    (List.map_congr_left fun a ha => if_neg (h a ha)).trans (List.map_id l)
  simp [relaysWith, hkept]

/-! ## A pair heard (R179) -/

/-- The entry of a pair as it is heard again. -/
def heardAgain (r : RelayEntry) (s : State) : RelayEntry :=
  { r with lastHeard := s.elapsed, hearing := nextHearing s.emerg.relays, agedOut := false }

/-- The entry of a pair as it is first heard. -/
def firstHeard (id : AlarmId) (s : State) : RelayEntry :=
  { blankRelay id s.elapsed with hearing := nextHearing s.emerg.relays }

theorem hearPair_known {r : RelayEntry} {s : State} (h : InRelays r s) :
    hearPair r.id s = some (withRelays (relaysWith r (heardAgain r s) s.emerg.relays) s) := by
  have hknown : (findRelay r.id s).isSome = true := by simp [findRelay_listed h]
  simp only [hearPair, hknown, if_true]
  exact congrArg some (updateRelay_eq h rfl)

theorem hearPair_new {id : AlarmId} {l : List RelayEntry} {s : State} (h : ∀ e ∈ s.emerg.relays, e.id ≠ id)
    (hroom : relayRoom s.elapsed s.emerg.relays = some l) :
    hearPair id s = some (raise .otherAlarm (.alarm id) (withRelays (l ++ [firstHeard id s]) s)) := by
  simp only [hearPair, findRelay_none h, hroom]
  rfl

theorem hearPair_full {id : AlarmId} {s : State} (h : ∀ e ∈ s.emerg.relays, e.id ≠ id)
    (hroom : relayRoom s.elapsed s.emerg.relays = none) : hearPair id s = none := by
  simp only [hearPair, findRelay_none h, hroom]
  rfl

theorem relayRoom_short {n : Nat} {l : List RelayEntry} (h : l.length < 16) : relayRoom n l = some l := if_pos h

/-! ## A relay offered -/

/-- The link and the queue take a relay without a stir. -/
abbrev RelayJoins (s : State) : Prop :=
  s.tx.queue.length < 20 ∧ s.link.side = .idle ∧ s.link.carrier = true ∧ s.link.state = .active

theorem offerEntry_relay {id : AlarmId} {p : TxPayload} {hop : Nat} {s : State} (h : RelayJoins s) :
    offerEntry (relayEntry id p hop) s = (joined (relayEntry id p hop) s, .joined s.nextUid) := by
  obtain ⟨hlen, hi, hc, hl⟩ := h
  have hfull : refusedFull s.tx.queue (relayEntry id p hop).cls = false := by
    simp [refusedFull, relayEntry, newEntry, Config.pendingCapacity]
    exact decide_eq_false (by omega)
  have hlink : refusedLink s.link.state (relayEntry id p hop).cls = false := by
    rw [hl]
    rfl
  rw [offerEntry_joins _ hfull hlink, joinEntry_quiescent _ (quiescent_of_busy hi hc)]
  rfl

/-- An entry of a pair with its EMERGENCY relay in the queue (R180). -/
def relayPending (r : RelayEntry) (repeatSeq : Nat) (s : State) : RelayEntry :=
  { r with pending := some ⟨s.nextUid, repeatSeq, r.highest, s.elapsed⟩, highest := some repeatSeq }

theorem treatEmergency_relays {r : RelayEntry} {p : EmergencyFields} {hop : Nat} {s : State} (hr : InRelays r s)
    (hid : r.id = p.alarm) (hn : r.pending = none) (hh : ∀ h, r.highest = some h → h < p.repeatSeq) (hop0 : 0 < hop)
    (hj : RelayJoins s) :
    treatEmergency p hop s = withRelays (relaysWith r (relayPending r p.repeatSeq s) s.emerg.relays)
      (joined (relayEntry p.alarm (.emergency p.alarm p.repeatSeq p.phase p.cell) hop) s) := by
  have hfind : findRelay p.alarm s = some r := hid ▸ findRelay_listed hr
  obtain ⟨-, -, -, hl⟩ := id hj
  have hcond : 0 < hop ∧ relayLink s.link.state = true ∧ r.highest.all (fun h => decide (h < p.repeatSeq)) = true := by
    refine ⟨hop0, by simp [relayLink, hl], ?_⟩
    cases hhigh : r.highest with
    | none => rfl
    | some h => simpa using hh h hhigh
  simp only [treatEmergency, hfind, hn]
  refine (if_pos hcond).trans ?_
  rw [relayEmergency, offerEntry_relay hj]
  rw [← hid]
  exact updateRelay_eq (s := joined (relayEntry r.id (.emergency r.id p.repeatSeq p.phase p.cell) hop) s) hr rfl

theorem treatEmergency_known {r : RelayEntry} {p : EmergencyFields} {hop : Nat} {s : State} (hr : InRelays r s)
    (hid : r.id = p.alarm) (hn : r.pending = none) (hh : ∃ h, r.highest = some h ∧ p.repeatSeq ≤ h) :
    treatEmergency p hop s = s := by
  have hfind : findRelay p.alarm s = some r := hid ▸ findRelay_listed hr
  obtain ⟨h, hhigh, hle⟩ := hh
  have hcond : ¬ (0 < hop ∧ relayLink s.link.state = true ∧ r.highest.all (fun h => decide (h < p.repeatSeq)) = true) := by
    rintro ⟨-, -, hall⟩
    simp [hhigh] at hall
    omega
  simp only [treatEmergency, hfind, hn]
  exact if_neg hcond

theorem treatEmergency_pending {r : RelayEntry} {q : RelayPending} {p : EmergencyFields} {hop : Nat} {s : State}
    (hr : InRelays r s) (hid : r.id = p.alarm) (hq : r.pending = some q) :
    treatEmergency p hop s = if q.repeatSeq = p.repeatSeq then retract q.uid s else s := by
  have hfind : findRelay p.alarm s = some r := hid ▸ findRelay_listed hr
  simp only [treatEmergency, hfind, hq]

theorem treatAck_relays {r : RelayEntry} {id : AlarmId} {hop : Nat} {s : State} (hr : InRelays r s) (hid : r.id = id)
    (hk : r.ackRelay = .no) (hop0 : 0 < hop) (hj : RelayJoins s) :
    treatAck id hop s = withRelays (relaysWith r { r with ackRelay := .pending s.nextUid s.elapsed } s.emerg.relays)
      (joined (relayEntry id (.emergencyAck id) hop) s) := by
  subst hid
  obtain ⟨-, -, -, hl⟩ := id hj
  have hcond : 0 < hop ∧ relayLink s.link.state = true := ⟨hop0, by simp [relayLink, hl]⟩
  simp only [treatAck, findRelay_listed hr, hk]
  refine (if_pos hcond).trans ?_
  rw [relayAck, offerEntry_relay hj]
  exact updateRelay_eq (s := joined (relayEntry r.id (.emergencyAck r.id) hop) s) hr rfl

theorem treatAck_pending {r : RelayEntry} {uid joined hop : Nat} {s : State} (hr : InRelays r s)
    (hk : r.ackRelay = .pending uid joined) : treatAck r.id hop s = retract uid s := by
  simp only [treatAck, findRelay_listed hr, hk]

/-! ## A relay taken back (R50, R182) -/

/-- A relay that waits leaves the queue, and its entry gets the result. -/
theorem retract_relayWaiting {r r' : RelayEntry} {b : PendEntry} {s : State} (hr : InRelays r s) (hb : findEntry b.uid s = some b)
    (ho : b.owner = .emergencyController) (href : b.ref = .relay r.id) (hs : b.state = .waiting)
    (hn : ∀ a ∈ s.emerg.relays, a.agedOut = false) (hres : relayResult ⟨b, .retracted, true⟩ r = r') (ha : r'.agedOut = false) :
    retract b.uid s = withRelays (relaysWith r r' s.emerg.relays)
      { s with tx := { s.tx with queue := s.tx.queue.filter fun a => a.uid != b.uid } } := by
  obtain ⟨-, hu⟩ := hr
  have htable := relayTable_kept (f := relayResult ⟨b, .retracted, true⟩) hu (fun a hm _ => hn a hm) hres ha
  rw [retract_unkeyed hb (.inl hs), takenOut_waiting (by simp [hs])]
  simp only [report, ho, emergencyResult, href, dropAged, updateRelay]
  rw [htable]
  rfl

end Sys2Proof.Claims
end

section
/-! SUPPORT. EMERGENCY: entered, relayed once, and its relay taken back (R174, R179 to R182). -/

namespace Sys2Proof.Claims

open Sys2Proof.Machine

/-- No LACK answers an emergency frame (R174). -/
theorem linkAfter_emergency {k : FrameKind} (f : RxFrame) (v : Verdict) (s : State) (hk : k = .emergency ∨ k = .emergencyAck) :
    linkAfter k f v s = afterFrame f s := by
  obtain rfl | rfl := hk <;> simp [linkAfter, lackSent, lackOwed]

/-- What completes with an emergency frame whose owner leaves the link as it was. -/
theorem emergency_completes {k : FrameKind} {f : RxFrame} {u s : State} {v : Verdict} {post : State → Prop} (h : Accepted k f s)
    (hk : k = .emergency ∨ k = .emergencyAck) (hroute : route k f (heardWell s) = some (u, v))
    (hlink : u.link = (heardWell s).link) (hpost : post (settle { u with link := afterFrame f s })) :
    Completes (frameCommand k f) s post := by
  have hnot : k ≠ .lack := by obtain rfl | rfl := hk <;> simp
  exact accepted_completes h hnot hroute hlink (by rwa [linkAfter_emergency f v s hk])

theorem route_emergency {f : RxFrame} {p : EmergencyFields} {s : State} {r : State × Verdict}
    (hp : parseEmergency f.payload = some p) (h : emergencyHeard p f.hop s = r) : route .emergency f s = some r := by
  simp [route, hp, h]

theorem route_ack {f : RxFrame} {id : AlarmId} {s : State} {r : State × Verdict} (hp : parseEmergencyAck f.payload = some id)
    (h : ackHeard id f.hop s = r) : route .emergencyAck f s = some r := by
  simp [route, hp, h]

/-- The entry of a pair with what its EMERGENCY said last (R179). -/
def lastSaid (p : EmergencyFields) (r : RelayEntry) : RelayEntry := { r with lastPhase := some p.phase, lastCell := some p.cell }

/-- An EMERGENCY of a pair whose entry stands once the pair was heard. -/
theorem emergencyHeard_entry {p : EmergencyFields} {r : RelayEntry} {hop : Nat} {s v : State} (ho : p.alarm.origin ≠ s.link.station.getD 0)
    (hv : hearPair p.alarm s = some v) (hr : InRelays r v) (hid : r.id = p.alarm) :
    emergencyHeard p hop s =
      (treatEmergency p hop (withRelays (relaysWith r (lastSaid p r) v.emerg.relays) v), .stored) := by
  have hother : ¬ p.alarm.origin = s.station := ho
  have hsaid := updateRelay_eq (f := lastSaid p) hr rfl
  rw [hid] at hsaid
  simp only [emergencyHeard, hother, if_false, hv]
  exact congrArg (fun u => (treatEmergency p hop u, Verdict.stored)) hsaid

theorem emergencyHeard_own {p : EmergencyFields} {hop : Nat} {s : State} (ho : p.alarm.origin = s.link.station.getD 0) :
    emergencyHeard p hop s = (s, .notStored) := if_pos ho

theorem ackHeard_other {id : AlarmId} {hop : Nat} {s v : State} (ho : id.origin ≠ s.link.station.getD 0)
    (hv : hearPair id s = some v) : ackHeard id hop s = (treatAck id hop v, .stored) := by
  have hother : ¬ id.origin = s.station := ho
  simp only [ackHeard, hother, if_false, hv]

/-- The state with a pair heard: its relay table, and the port with the notice of a new pair. -/
def pairHeard (l : List RelayEntry) (q : Port) (s : State) : State := { withRelays l s with port := q }

theorem raise_eq (k : NoticeKind) (j : Subject) (s : State) : raise k j s = { s with port := (raise k j s).port } := by
  unfold raise
  repeat' split
  all_goals rfl

/-- The port with OTHER_ALARM raised for a pair. -/
def otherAlarm (id : AlarmId) (s : State) : Port := (raise .otherAlarm (.alarm id) s).port

theorem hearPair_first {id : AlarmId} {l : List RelayEntry} {s : State} (h : ∀ e ∈ s.emerg.relays, e.id ≠ id)
    (hroom : relayRoom s.elapsed s.emerg.relays = some l) :
    hearPair id s = some (pairHeard (l ++ [firstHeard id s]) (otherAlarm id s) s) := by
  rw [hearPair_new h hroom, raise_eq, raise_port _ _ (withRelays (l ++ [firstHeard id s]) s) s rfl]
  rfl

theorem hearPair_again {r : RelayEntry} {s : State} (h : InRelays r s) :
    hearPair r.id s = some (pairHeard (relaysWith r (heardAgain r s) s.emerg.relays) s.port s) := hearPair_known h

theorem emergencyHeard_first {p : EmergencyFields} {hop : Nat} {l : List RelayEntry} {s : State}
    (ho : p.alarm.origin ≠ s.link.station.getD 0) (hnew : ∀ e ∈ s.emerg.relays, e.id ≠ p.alarm)
    (hroom : relayRoom s.elapsed s.emerg.relays = some l) (hl : ∀ e ∈ l, e.id ≠ p.alarm) :
    emergencyHeard p hop s = (treatEmergency p hop
      (pairHeard (l ++ [lastSaid p (firstHeard p.alarm s)]) (otherAlarm p.alarm s) s), .stored) := by
  have htable : relaysWith (firstHeard p.alarm s) (lastSaid p (firstHeard p.alarm s)) (l ++ [firstHeard p.alarm s]) = _ :=
    relaysWith_new hl
  exact (emergencyHeard_entry ho (hearPair_first hnew hroom) (inRelays_new hl rfl) rfl).trans
    (congrArg (fun t => (treatEmergency p hop (pairHeard t (otherAlarm p.alarm s) s), Verdict.stored)) htable)

theorem emergencyHeard_again {p : EmergencyFields} {r : RelayEntry} {hop : Nat} {s : State}
    (ho : p.alarm.origin ≠ s.link.station.getD 0) (hr : InRelays r s) (hid : r.id = p.alarm) :
    emergencyHeard p hop s = (treatEmergency p hop
      (pairHeard (relaysWith r (lastSaid p (heardAgain r s)) s.emerg.relays) s.port s), .stored) := by
  have hin : InRelays (heardAgain r s) (pairHeard (relaysWith r (heardAgain r s) s.emerg.relays) s.port s) :=
    inRelays_with hr rfl rfl
  have htable : relaysWith (heardAgain r s) (lastSaid p (heardAgain r s)) (relaysWith r (heardAgain r s) s.emerg.relays) = _ :=
    relaysWith_twice rfl _
  exact (emergencyHeard_entry ho (hid ▸ hearPair_again hr) hin hid).trans
    (congrArg (fun t => (treatEmergency p hop (pairHeard t s.port s), Verdict.stored)) htable)

/-- A pair heard, with its relay joined to the queue. -/
theorem relayed_touches (l l' : List RelayEntry) (q : Port) (e : PendEntry) (s : State) :
    OnlyTouches [.tx, .emerg, .port] s (withRelays l (joined e (pairHeard l' q s))) :=
  ⟨rfl, fun b => by cases b <;> simp [Kept, withRelays, pairHeard, joined]⟩

theorem relayed_touches_quietly (l l' : List RelayEntry) (e : PendEntry) (s : State) :
    OnlyTouches [.tx, .emerg] s (withRelays l (joined e (pairHeard l' s.port s))) :=
  ⟨rfl, fun b => by cases b <;> simp [Kept, withRelays, pairHeard, joined]⟩

theorem emergencyIsRelayed : EmergencyIsRelayed := by
  intro f p s h hp
  refine ⟨fun ho => ?_, fun ho hnew hroom hhop hact hlen hidle => ?_⟩
  · exact accepted_dropped h (by simp) (route_emergency hp (emergencyHeard_own (s := heardWell s) ho))
  · obtain ⟨⟨⟨-, -, hcar, -⟩, -⟩, -⟩ := id h
    have hheard := emergencyHeard_first (hop := f.hop) (s := heardWell s) ho hnew (relayRoom_short hroom) hnew
    have htreat := treatEmergency_relays (p := p) (hop := f.hop) (r := lastSaid p (firstHeard p.alarm (heardWell s)))
      (s := pairHeard (s.emerg.relays ++ [lastSaid p (firstHeard p.alarm (heardWell s))]) (otherAlarm p.alarm (heardWell s)) (heardWell s))
      (inRelays_new hnew rfl) rfl rfl (fun _ hno => by cases hno) hhop ⟨hlen, hidle, hcar, hact⟩
    have hroute := route_emergency hp (hheard.trans (congrArg (·, Verdict.stored) htreat))
    refine emergency_completes h (.inl rfl) hroute rfl
      ⟨⟨_, by
        simp only [settle_keeps_emerg]
        exact relaysWith_new hnew, rfl, rfl, rfl, rfl, rfl, rfl⟩, ⟨_, by
        simp only [settle_keeps]
        rfl, rfl, rfl, rfl, rfl, rfl, rfl, rfl⟩, by simp [withRelays, joined, pairHeard], by simp [withRelays, joined, pairHeard], ?_,
        accepted_touches ((relayed_touches _ _ _ _ _).widen (by simp)) (by simp)⟩
    simp only [settle_keeps]
    exact raise_port _ _ _ _ rfl

end Sys2Proof.Claims
end

section
/-! SUPPORT. An EMERGENCY of a pair already heard, and EMERGENCY_ACK (R174, R180 to R182, R184). -/

namespace Sys2Proof.Claims

open Sys2Proof.Machine

theorem retract_relayOnAir {b : PendEntry} {s : State} (hb : findEntry b.uid s = some b) (hs : b.state = .onAir) :
    retract b.uid s = backAsked b s := by
  rw [retract_keyed hb (.inl hs), updateEntry, updateWhere_askedBack]
  rfl

theorem notAged_with {r r' : RelayEntry} {l : List RelayEntry} (h : ∀ a ∈ l, a.agedOut = false) (hr : r'.agedOut = false) :
    ∀ a ∈ relaysWith r r' l, a.agedOut = false := by
  intro a ha
  obtain ⟨b, hb, rfl⟩ := List.mem_map.1 ha
  split
  · exact hr
  · exact h b hb

theorem knownEmergencyIsRelayedOnce : KnownEmergencyIsRelayedOnce := by
  intro f p r s h hp ho hr hid _ heard
  obtain ⟨⟨⟨-, -, hcar, -⟩, -⟩, -⟩ := id h
  have hheard := emergencyHeard_again (hop := f.hop) (s := heardWell s) ho hr hid
  have hin : InRelays heard (pairHeard (relaysWith r heard s.emerg.relays) s.port (heardWell s)) := inRelays_with hr rfl rfl
  have htwice : ∀ r', relaysWith heard r' (relaysWith r heard s.emerg.relays) = relaysWith r r' s.emerg.relays := fun r' =>
    relaysWith_twice rfl _
  have hquiet : ∀ l, OnlyTouches [.emerg] (heardWell s) (pairHeard l s.port (heardWell s)) := fun l =>
    withRelays_touches l (heardWell s)
  refine ⟨fun hn hh hhop hact hlen hidle => ?_, fun hn hh => ?_, fun ⟨uid, seq, before, since⟩ b hq hb hbo hbr hages => ⟨fun hseq hw => ?_, fun hseq hair => ?_, fun hseq => ?_⟩⟩
  · have htreat := treatEmergency_relays (p := p) (hop := f.hop) hin hid hn hh hhop ⟨hlen, hidle, hcar, hact⟩
    have hroute := route_emergency hp (hheard.trans (congrArg (·, Verdict.stored) htreat))
    exact emergency_completes h (.inl rfl) hroute rfl
      ⟨by
        simp only [settle_keeps_emerg]
        exact htwice _, ⟨_, by
        simp only [settle_keeps]
        rfl, rfl, rfl, rfl, rfl, rfl⟩, accepted_touches ((relayed_touches_quietly _ _ _ _).widen (by simp)) (by simp)⟩
  · have htreat := treatEmergency_known (p := p) (hop := f.hop) hin hid hn hh
    have hroute := route_emergency hp (hheard.trans (congrArg (·, Verdict.stored) htreat))
    exact emergency_completes h (.inl rfl) hroute rfl
      ⟨by simp only [settle_keeps], by
        simp only [settle_keeps_emerg]
        rfl, accepted_touches ((hquiet _).widen (by simp)) (by simp)⟩
  · obtain rfl : b.uid = uid := findEntry_uid hb
    have hres : relayResult ⟨b, .retracted, true⟩ heard = { heard with pending := none } := by
      simp [relayResult, heard, hq]
    have hback := retract_relayWaiting hin (b := b) (by exact hb) hbo hbr hw (notAged_with hages rfl) hres rfl
    have htreat := ((treatEmergency_pending (p := p) (hop := f.hop) hin hid hq).trans (if_pos hseq)).trans hback
    have hroute := route_emergency hp (hheard.trans (congrArg (·, Verdict.stored) htreat))
    exact emergency_completes h (.inl rfl) hroute rfl
      ⟨by
        simp only [settle_keeps_emerg]
        exact htwice _, by
        simp only [settle_keeps]
        rfl, accepted_touches ⟨rfl, fun c => by cases c <;> simp [Kept, withRelays, pairHeard]⟩ (by simp)⟩
  · obtain rfl : b.uid = uid := findEntry_uid hb
    have hback := retract_relayOnAir (s := pairHeard (relaysWith r heard s.emerg.relays) s.port (heardWell s)) hb hair
    have htreat := ((treatEmergency_pending (p := p) (hop := f.hop) hin hid hq).trans (if_pos hseq)).trans hback
    have hroute := route_emergency hp (hheard.trans (congrArg (·, Verdict.stored) htreat))
    exact emergency_completes h (.inl rfl) hroute rfl
      ⟨by
        simp only [settle_keeps_emerg]
        rfl, by
        simp only [settle_keeps]
        rfl, accepted_touches ⟨rfl, fun c => by cases c <;> simp [Kept, backAsked, withRelays, pairHeard]⟩ (by simp)⟩
  · have htreat := (treatEmergency_pending (p := p) (hop := f.hop) hin hid hq).trans (if_neg hseq)
    have hroute := route_emergency hp (hheard.trans (congrArg (·, Verdict.stored) htreat))
    exact emergency_completes h (.inl rfl) hroute rfl
      ⟨by
        simp only [settle_keeps_emerg]
        rfl, accepted_touches ((hquiet _).widen (by simp)) (by simp)⟩

/-! ## EMERGENCY_ACK -/

theorem charOf_showMarker {s : State} (h : DisplayShape s) : charOf 0 0 19 (showMarker s) = some (byteOf s.emerg.marker) :=
  charOf_setChar_self (s := { s with emerg.markerShown := true, emerg.markerTimer := some 10 }) h (by simp) (by simp) (by simp)

theorem showMarker_touches (s : State) : OnlyTouches [.msg, .emerg] s (showMarker s) := by
  have hset : OnlyTouches [.msg, .emerg] s { s with emerg.markerShown := true, emerg.markerTimer := some 10 } :=
    ⟨rfl, fun b => by cases b <;> simp [Kept]⟩
  exact hset.trans ((setChar_touches _ _ _ _ _).widen (by simp))

theorem showMarker_emerg (s : State) :
    (showMarker s).emerg = { s.emerg with markerShown := true, markerTimer := some 10 } := by simp [showMarker]

theorem showMarker_queue (s : State) : (showMarker s).msg.queue = s.msg.queue := by simp [showMarker]

theorem ackHeard_own {id : AlarmId} {hop : Nat} {s : State} (h : s.link.station = some id.origin)
    (hn : s.emerg.number = some id.alarm) : ackHeard id hop s = ownAck s := by
  rw [ackHeard, if_pos (station_of_some h).symm, if_pos hn]

theorem ackHeard_ownOther {id : AlarmId} {hop : Nat} {s : State} (h : s.link.station = some id.origin)
    (hn : s.emerg.number ≠ some id.alarm) : ackHeard id hop s = (s, .notStored) := by
  rw [ackHeard, if_pos (station_of_some h).symm, if_neg hn]

/-- What completes with the marker shown. -/
theorem marker_completes {f : RxFrame} {id : AlarmId} {s u : State} {v : Verdict} {post : State → Prop}
    (h : Accepted .emergencyAck f s) (hp : parseEmergencyAck f.payload = some id)
    (hheard : ackHeard id f.hop (heardWell s) = (showMarker u, v)) (hlink : u.link = (heardWell s).link)
    (hmsg : Kept .msg s u)
    (hpost : ∀ t, t = settle { showMarker u with link := afterFrame f s } →
      (DisplayShape s → charOf 0 0 19 t = some (byteOf u.emerg.marker)) → t.msg.queue = s.msg.queue → post t) :
    Completes (.emergencyAck f) s post := by
  have hmlink : (showMarker u).link = u.link := (showMarker_touches u).kept (b := .link) (by simp)
  refine emergency_completes h (.inr rfl) (route_ack hp hheard) (hmlink.trans hlink) (hpost _ rfl (fun hshape => ?_) ?_)
  · have hu : DisplayShape u := by
      have hpages : u.msg.pages = s.msg.pages := (congrArg Msg.pages (show { u.msg with bus := s.msg.bus } = s.msg from hmsg) :)
      rwa [DisplayShape, hpages]
    rw [charOf_congr (t := settle { showMarker u with link := afterFrame f s }) (s := showMarker u) (by rw [settle_msg])]
    exact charOf_showMarker hu
  · simpa [showMarker_queue] using kept_msg_queue hmsg

theorem acknowledgementIsTaken : AcknowledgementIsTaken := by
  intro f id s h hp
  refine ⟨fun hs hn ha => ?_, fun hs hn => ?_, fun ho hnew hroom hhop hact hlen hidle => ?_⟩
  · have hack : ackHeard id f.hop (heardWell s) = (showMarker (setAlarm .acknowledged
        { heardWell s with emerg.ackHeard := true, emerg.repeatTimer := some 15 }), .stored) := by
      rw [ackHeard_own (s := heardWell s) hs hn, ownAck]
      simp [ha]
    have hemerg := setAlarm_emerg .acknowledged { heardWell s with emerg.ackHeard := true, emerg.repeatTimer := some 15 }
    have htouch := setAlarm_touches .acknowledged { heardWell s with emerg.ackHeard := true, emerg.repeatTimer := some 15 }
    have hport : (setAlarm .acknowledged { heardWell s with emerg.ackHeard := true, emerg.repeatTimer := some 15 }).port =
        (raise .alarmState .ownAlarm s).port := by
      have hne : ¬ (heardWell s).emerg.alarm = .acknowledged := by simp [ha]
      exact (congrArg State.port (if_neg hne)).trans (raise_port _ _ _ _ rfl)
    have hset : OnlyTouches [.emerg] (heardWell s) { heardWell s with emerg.ackHeard := true, emerg.repeatTimer := some 15 } :=
      ⟨rfl, fun b => by cases b <;> simp [Kept]⟩
    generalize setAlarm .acknowledged { heardWell s with emerg.ackHeard := true, emerg.repeatTimer := some 15 } = u at *
    have hmarker := showMarker_emerg u
    have hall := (hset.widen (more := [.msg, .emerg, .port]) (by simp)).trans
      ((htouch.widen (by simp)).trans ((showMarker_touches u).widen (by simp)))
    have hmport : (showMarker u).port = u.port := (showMarker_touches u).kept (b := .port) (by simp)
    refine marker_completes h hp hack (htouch.kept (b := .link) (by simp)) (htouch.kept (b := .msg) (by simp))
      fun t ht hchar hqueue => ?_
    subst ht
    rw [hemerg] at hmarker hchar
    refine ⟨?_, ?_, ?_, ?_, ?_, ?_, ?_, ?_, hchar, ?_, hqueue, accepted_touches (hall.widen (by simp)) (by simp)⟩
    all_goals simp only [settle_keeps, settle_keeps_emerg, hmarker, hmport, hport]
    all_goals rfl
  · exact accepted_dropped h (by simp) (route_ack hp (ackHeard_ownOther (s := heardWell s) hs hn))
  · obtain ⟨⟨⟨-, -, hcar, -⟩, -⟩, -⟩ := (show _ from h)
    have hv := hearPair_first (s := heardWell s) (l := s.emerg.relays) hnew (relayRoom_short hroom)
    have htreat := treatAck_relays (hop := f.hop) (r := firstHeard id (heardWell s))
      (s := pairHeard (s.emerg.relays ++ [firstHeard id (heardWell s)]) (otherAlarm id (heardWell s)) (heardWell s))
      (inRelays_new hnew rfl) rfl rfl hhop ⟨hlen, hidle, hcar, hact⟩
    have hheard := (ackHeard_other (hop := f.hop) (s := heardWell s) ho hv).trans (congrArg (·, Verdict.stored) htreat)
    exact emergency_completes h (.inr rfl) (route_ack hp hheard) rfl
      ⟨⟨_, by
        simp only [settle_keeps_emerg]
        exact relaysWith_new hnew, rfl, rfl, rfl⟩, ⟨_, by
        simp only [settle_keeps]
        rfl, rfl, rfl, rfl, rfl, rfl, rfl⟩, accepted_touches ((relayed_touches _ _ _ _ _).widen (by simp)) (by simp)⟩

end Sys2Proof.Claims
end

section
/-! SUPPORT. A later EMERGENCY_ACK, and a new pair while the relay table is full (R174, R179, R182, R184). -/

namespace Sys2Proof.Claims

open Sys2Proof.Machine

theorem laterAcknowledgementsAreTaken : LaterAcknowledgementsAreTaken := by
  intro f pair s h hp
  refine ⟨fun hs hn => ⟨fun ha => ?_, fun ha => ?_⟩,
    fun r b uid joined ho hr hid hk hpend hb hbo hbr hw hages => ?_⟩
  · have hown := ackHeard_own (hop := f.hop) (s := heardWell s) hs hn
    obtain ⟨u, hu, hack⟩ : ∃ u, u = { heardWell s with emerg.ackHeard := if s.emerg.alarm = .held then true else s.emerg.ackHeard }
        ∧ ackHeard pair f.hop (heardWell s) = (showMarker u, .stored) := by
      rw [hown, ownAck]
      obtain ha | ha := ha
      · exact ⟨_, rfl, by simp [ha]⟩
      · exact ⟨heardWell s, by
          rw [if_neg (by simp [ha])]
          rfl, by simp [ha]⟩
    have hset : OnlyTouches [.emerg] (heardWell s) u := by
      rw [hu]
      exact ⟨rfl, fun b => by cases b <;> simp [Kept]⟩
    have hemerg : (showMarker u).emerg = { s.emerg with
        ackHeard := if s.emerg.alarm = .held then true else s.emerg.ackHeard, markerShown := true, markerTimer := some 10 } := by
      rw [showMarker_emerg, hu]
      rfl
    have hall := (hset.widen (more := [.msg, .emerg]) (by simp)).trans (showMarker_touches u)
    refine marker_completes h hp hack (hset.kept (b := .link) (by simp)) (hset.kept (b := .msg) (by simp))
      fun t ht hchar hqueue => ⟨?_, fun hshape => (hchar hshape).trans (by rw [hu]; rfl), hqueue, ?_⟩
    · rw [ht, settle_emerg]
      simp only [hemerg]
    · rw [ht]
      exact accepted_touches (hall.widen (by simp)) (by simp)
  · have hack : ackHeard pair f.hop (heardWell s) = (heardWell s, .notStored) := by
      rw [ackHeard_own (s := heardWell s) hs hn, ownAck]
      simp [ha]
    exact accepted_dropped h (by simp) (route_ack hp hack)
  · subst hid
    obtain rfl : b.uid = uid := findEntry_uid hb
    have hv := hearPair_again (s := heardWell s) hr
    have hin : InRelays (heardAgain r (heardWell s))
      (pairHeard (relaysWith r (heardAgain r (heardWell s)) s.emerg.relays) s.port (heardWell s)) := inRelays_with hr rfl rfl
    have hres : relayResult ⟨b, .retracted, true⟩ (heardAgain r (heardWell s)) =
        { heardAgain r (heardWell s) with ackRelay := .done } := by
      simp [relayResult, relayResult.ackResult, heardAgain, hk, hpend]
    have hback := retract_relayWaiting hin (b := b) (by exact hb) hbo hbr hw (notAged_with hages rfl) hres rfl
    have htreat := (treatAck_pending (hop := f.hop) hin hk).trans hback
    have hheard := (ackHeard_other (hop := f.hop) (s := heardWell s) ho hv).trans (congrArg (·, Verdict.stored) htreat)
    have hr0 : r.agedOut = false := hages r hr.1
    refine emergency_completes h (.inr rfl) (route_ack hp hheard) rfl
      ⟨by
        simp only [settle_keeps_emerg]
        refine (relaysWith_twice rfl _).trans ?_
        simp only [heardAgain, relaysWith, ← hr0]
        rfl, by
        simp only [settle_keeps]
        rfl, accepted_touches ⟨rfl, fun c => by cases c <;> simp [Kept, withRelays, pairHeard]⟩ (by simp)⟩

/-! ## A full table (R179) -/

/-- What the relaying of a pair keeps of the table: the pairs, and every entry of another pair. -/
structure TableKept (id : AlarmId) (s t : State) : Prop where
  ids : t.emerg.relays.map (·.id) = s.emerg.relays.map (·.id)
  others : ∀ a ∈ s.emerg.relays, a.id ≠ id → a ∈ t.emerg.relays
  aside : LinkAside s t
  touches : OnlyTouches [.link, .tx, .emerg] s t

theorem TableKept.refl (id : AlarmId) (s : State) : TableKept id s s :=
  ⟨rfl, fun _ ha _ => ha, rfl, onlyTouches_refl _ s⟩

theorem TableKept.offered (id : AlarmId) (e : PendEntry) (s : State) : TableKept id s (offerEntry e s).1 := by
  have htouch := offerEntry_touches e s
  have hrelays : (offerEntry e s).1.emerg.relays = s.emerg.relays :=
    (congrArg Emerg.relays (htouch.kept (b := .emerg) (by simp)) :)
  exact ⟨by rw [hrelays], fun a ha _ => by rwa [hrelays], offerEntry_aside e s, htouch.widen (by simp)⟩

theorem TableKept.updated {id : AlarmId} {s t : State} (h : TableKept id s t) (f : RelayEntry → RelayEntry)
    (hf : ∀ a, (f a).id = a.id) : TableKept id s (updateRelay id f t) := by
  refine ⟨?_, fun a ha hne => ?_, h.aside, h.touches.trans ⟨rfl, fun b => by cases b <;> simp [Kept, updateRelay]⟩⟩
  · rw [← h.ids]
    simp only [updateRelay, updateWhere, List.map_map]
    refine List.map_congr_left fun a _ => ?_
    simp only [Function.comp_apply]
    split
    · exact hf a
    · rfl
  · exact List.mem_map.2 ⟨a, h.others a ha hne, if_neg (by simpa using hne)⟩

theorem relayEmergency_table (p : EmergencyFields) (hop : Nat) (s : State) : TableKept p.alarm s (relayEmergency p hop s) := by
  unfold relayEmergency
  generalize hx : offerEntry _ s = x
  have hs : TableKept p.alarm s x.1 := hx ▸ .offered _ _ s
  obtain ⟨u, a⟩ := x
  cases a with
  | joined uid => exact hs.updated _ fun _ => rfl
  | full => exact hs
  | link => exact hs

theorem relayAck_table (id : AlarmId) (hop : Nat) (s : State) : TableKept id s (relayAck id hop s) := by
  unfold relayAck
  generalize hx : offerEntry _ s = x
  have hs : TableKept id s x.1 := hx ▸ .offered _ _ s
  obtain ⟨u, a⟩ := x
  cases a with
  | joined uid => exact hs.updated _ fun _ => rfl
  | full => exact hs
  | link => exact hs

/-- A pair first heard has no relay pending. -/
theorem treatEmergency_table {p : EmergencyFields} {r : RelayEntry} {hop : Nat} {s : State} (hr : InRelays r s)
    (hid : r.id = p.alarm) (hn : r.pending = none) : TableKept p.alarm s (treatEmergency p hop s) := by
  have hfind : findRelay p.alarm s = some r := hid ▸ findRelay_listed hr
  simp only [treatEmergency, hfind, hn]
  split
  · exact relayEmergency_table p hop s
  · exact .refl _ s

theorem treatAck_table {r : RelayEntry} {id : AlarmId} {hop : Nat} {s : State} (hr : InRelays r s) (hid : r.id = id)
    (hk : r.ackRelay = .no) : TableKept id s (treatAck id hop s) := by
  subst hid
  simp only [treatAck, findRelay_listed hr, hk]
  split
  · exact relayAck_table _ hop s
  · exact .refl _ s

/-- What an emergency frame of a new pair leaves of the table. -/
theorem route_newPair {k : FrameKind} {f : RxFrame} {id : AlarmId} {l : List RelayEntry} {s : State} (hk : IsOfPair k f id)
    (ho : id.origin ≠ s.link.station.getD 0) (hnew : ∀ a ∈ s.emerg.relays, a.id ≠ id)
    (hroom : relayRoom s.elapsed s.emerg.relays = some l) (hl : ∀ a ∈ l, a.id ≠ id) :
    ∃ (e : RelayEntry) (u : State), e.id = id ∧ route k f s = some (u, .stored)
      ∧ TableKept id (pairHeard (l ++ [e]) (otherAlarm id s) s) u := by
  obtain ⟨rfl, p, hp, rfl⟩ | ⟨rfl, hp⟩ := hk
  · exact ⟨_, _, rfl, route_emergency hp (emergencyHeard_first ho hnew hroom hl),
      treatEmergency_table (r := lastSaid p (firstHeard p.alarm s)) (inRelays_new hl rfl) rfl rfl⟩
  · exact ⟨firstHeard id s, _, rfl, route_ack hp (ackHeard_other ho (hearPair_first hnew hroom)),
      treatAck_table (r := firstHeard id s) (inRelays_new hl rfl) rfl rfl⟩

theorem route_overflow {k : FrameKind} {f : RxFrame} {id : AlarmId} {s : State} (hk : IsOfPair k f id)
    (ho : id.origin ≠ s.link.station.getD 0) (hnew : ∀ a ∈ s.emerg.relays, a.id ≠ id)
    (hroom : relayRoom s.elapsed s.emerg.relays = none) : route k f s = some (countRelayOverflow s, .notStored) := by
  have hother : ¬ id.origin = s.station := ho
  obtain ⟨rfl, p, hp, rfl⟩ | ⟨rfl, hp⟩ := hk
  · refine route_emergency hp ?_
    simp only [emergencyHeard, hother, if_false, hearPair_full hnew hroom]
  · refine route_ack hp ?_
    simp only [ackHeard, hother, if_false, hearPair_full hnew hroom]

/-- An emergency frame heard out: the link controller alone is left to be said. -/
theorem emergency_settles {k : FrameKind} {f : RxFrame} {u s : State} {v : Verdict} {post : State → Prop} (h : Accepted k f s)
    (hk : k = .emergency ∨ k = .emergencyAck) (hroute : route k f (heardWell s) = some (u, v))
    (haside : LinkAside (heardWell s) u) (hpost : ∀ l, post (settle { u with link := l })) :
    Completes (frameCommand k f) s post := by
  obtain ⟨⟨⟨hs, hkeyed, hcar, hgap, hd⟩, hsteady⟩, hp, hr, -⟩ := h
  have hnot : k ≠ .lack := by obtain rfl | rfl := hk <;> simp
  have hsent : lackSent k f v u = false := by obtain rfl | rfl := hk <;> simp [lackSent, lackOwed]
  have hug : u.link.carrierInAckGap = false := (congrArg Link.carrierInAckGap haside :).trans hgap
  have hud : u.link.decisionWaits = false := (congrArg Link.decisionWaits haside :).trans hd
  have hrun : arrive k f s = { u with link := carrierEnded (if f.needsLack then .ack else .idle) u.link } := by
    rw [arrive_up hs hkeyed hcar, hearPass_steady hsteady, takeFrame, if_neg hnot, filterFrame_accepted hp hr hroute,
      endOfFrame_heard hug hud, hsent]
    rfl
  exact completes_of ((exec_frameCommand k f s).trans (congrArg (fun u => Host.Outcome.next (settle u)) hrun)) (hpost _)

theorem fullRelayTableReplacesTheOldest : FullRelayTableReplacesTheOldest := by
  intro k f id r s hk h ho hnew hlen hr holdest quiet
  have hkind : k = .emergency ∨ k = .emergencyAck := by
    obtain ⟨rfl, -⟩ | ⟨rfl, -⟩ := hk <;> simp
  obtain ⟨hmem, -⟩ := hr
  have hroom := relayRoom_full (now := s.elapsed) hlen
    (oldestRelay_of_heardBefore hmem fun a ha hne => heardBefore_iff.2 (holdest a ha hne))
  refine ⟨fun hold hq => ?_, fun hnot => ?_⟩
  · rw [if_pos ⟨hold, relaying_eq_false.2 hq⟩] at hroom
    have hrest : ∀ a ∈ s.emerg.relays.filter (fun a => a.id != r.id), a.id ≠ id := fun a ha => hnew a (List.mem_of_mem_filter ha)
    obtain ⟨e, u, hid, hroute, hids, hothers, haside, htouch⟩ := route_newPair (s := heardWell s) hk ho hnew hroom hrest
    have hheard : OnlyTouches [.link, .tx, .emerg, .port] (heardWell s) (pairHeard
        (s.emerg.relays.filter (fun a => a.id != r.id) ++ [e]) (otherAlarm id (heardWell s)) (heardWell s)) :=
      ⟨rfl, fun b => by cases b <;> simp [Kept, pairHeard, withRelays]⟩
    have hport : u.port = otherAlarm id (heardWell s) := htouch.kept (b := .port) (by simp)
    refine emergency_settles h hkind hroute haside fun l => ⟨?_, fun a ha hne => ?_, ?_,
      accepted_touches (hheard.trans (htouch.widen (by simp))) (by simp)⟩
    · simp only [settle_keeps_emerg]
      refine hids.trans ?_
      simp [pairHeard, withRelays, hid]
    · simp only [settle_keeps_emerg]
      exact hothers a (List.mem_append_left _ (List.mem_filter.2 ⟨ha, by simpa using hne⟩)) (hnew a ha)
    · simp only [settle_keeps, hport]
      exact raise_port _ _ _ _ rfl
  · rw [if_neg fun ⟨hold, hq⟩ => hnot ⟨hold, relaying_eq_false.1 hq⟩] at hroom
    have hroute := route_overflow (s := heardWell s) hk ho hnew hroom
    exact emergency_completes h hkind hroute rfl
      ⟨by rw [settle_emerg]; simp [countRelayOverflow, satAdd], by simp,
        accepted_touches ⟨rfl, fun b => by cases b <;> simp [Kept, countRelayOverflow]⟩ (by simp)⟩

/-- Settles O38. -/
theorem emergencyFramesAreRelayedAndAcknowledged : Obligations.EmergencyFramesAreRelayedAndAcknowledged :=
  ⟨emergencyIsRelayed, acknowledgementIsTaken, knownEmergencyIsRelayedOnce, laterAcknowledgementsAreTaken,
    fullRelayTableReplacesTheOldest⟩

end Sys2Proof.Claims
end

section
/-! SUPPORT. Supply-low: the hold, and what goes on with its release (R129, R134, R139, R140). -/

namespace Sys2Proof.Claims

open Sys2Proof.Machine

/-! ## The sectors -/

theorem sectorOf_listed {n : Nat} {c : Sector} {s : State} (h : Sector? n s = some c) : sectorOf s n = c := by
  unfold Sector? at h
  simp [sectorOf, List.getD, h]

theorem sectorOf_congr {s t : State} (h : t.store.sectors = s.store.sectors) (n : Nat) : sectorOf t n = sectorOf s n := by
  rw [sectorOf, h, sectorOf]

theorem sectorOf_set {n : Nat} {c c' : Sector} {s t : State} (h : Sector? n s = some c)
    (ht : t.store.sectors = s.store.sectors.set (n - 1) c') : sectorOf t n = c' := by
  have hlen : n - 1 < s.store.sectors.length := by
    unfold Sector? at h
    exact (List.getElem?_eq_some_iff.1 h).1
  rw [sectorOf, ht]
  simp [List.getD, List.getElem?_set_self hlen]

theorem sectorOf_set_other {n m : Nat} {c' : Sector} {s t : State} (h : m - 1 ≠ n - 1)
    (ht : t.store.sectors = s.store.sectors.set (n - 1) c') : sectorOf t m = sectorOf s m := by
  rw [sectorOf, ht]
  simp [List.getD, List.getElem?_set_ne (Ne.symm h), sectorOf]

/-- A change of a sector's slots leaves the ACTIVE sector. -/
theorem activeSector_set {n : Nat} {c c' : Sector} {s t : State} (h : Sector? n s = some c)
    (ht : t.store.sectors = s.store.sectors.set (n - 1) c') (hf : c'.header = c.header ∧ c'.fault = c.fault) :
    activeSector t = activeSector s := by
  refine activeSector_congr _ _ (by simp [ht]) fun m => ?_
  by_cases hm : m - 1 = n - 1
  · have hsame : ∀ u : State, sectorOf u m = sectorOf u n := fun u => by rw [sectorOf, hm, sectorOf]
    rw [hsame, hsame, sectorOf_set h ht, sectorOf_listed h]
    exact hf
  · rw [sectorOf_set_other hm ht]
    exact ⟨rfl, rfl⟩

theorem activeSector_sectors {s t : State} (h : t.store.sectors = s.store.sectors) : activeSector t = activeSector s :=
  activeSector_congr _ _ (by rw [h]) fun n => by
    rw [sectorOf_congr h]
    exact ⟨rfl, rfl⟩

/-! ## The head group begins -/

/-- The store as the head group's first record begins in the ACTIVE sector (R130, R134). -/
def headBegun (n : Nat) (g : Group) (gs : List Group) (r : Record) (rs : List Record) (s : State) : State :=
  beginRecord r n { s with
    free := s.free + g.records.length
    store.queue := { g with writing := true } :: gs
    store.activity := .writing
    store.writeCounter := writeNoAfter s.free s.store.writeCounter g.records.length
    store.rest := rs }

theorem numberRecords_cons (free first : Nat) (b : RecordBody) (bs : List RecordBody) :
    ∃ (r : Record) (rs : List Record), numberRecords free first (b :: bs) = r :: rs ∧ r.body = b ∧ r.position = 1
      ∧ r.writeNo = first ∧ rs.map (·.body) = bs := by
  refine ⟨_, _, List.mapIdx_cons, rfl, rfl, rfl, ?_⟩
  refine List.ext_getElem (by simp) fun i h h' => ?_
  simp

theorem startHead_begins {n : Nat} {g : Group} {gs : List Group} {b : RecordBody} {bs : List RecordBody} {s : State}
    (hq : s.store.queue = g :: gs) (hb : g.records = b :: bs) (hl : s.store.supplyLow = false) (ha : activeSector s = some n)
    (hfit : g.need ≤ freeSlots s n) :
    ∃ (r : Record) (rs : List Record), startHead s = headBegun n g gs r rs s ∧ r.body = b ∧ r.position = 1
      ∧ r.writeNo = s.store.writeCounter ∧ rs.map (·.body) = bs := by
  obtain ⟨r, rs, hnumber, hbody, hpos, hno, hrest⟩ := numberRecords_cons s.free s.store.writeCounter b bs
  refine ⟨r, rs, ?_, hbody, hpos, hno, hrest⟩
  rw [← hb] at hnumber
  have hheld : s.held = false := hl
  simp only [startHead, hq, hheld, Bool.false_eq_true, if_false, ha, hfit, if_true, hnumber]
  rfl

theorem headBegun_touches (n : Nat) (g : Group) (gs : List Group) (r : Record) (rs : List Record) (s : State) :
    OnlyTouches [.store] s (headBegun n g gs r rs s) :=
  ⟨rfl, fun b => by cases b <;> simp [Kept, headBegun, beginRecord]⟩

theorem startHead_empty {s : State} (h : s.store.queue = []) :
    startHead s = { s with store := { s.store with activity := .idle } } := by
  rw [startHead, h]

/-! ## The hold -/

theorem exec_supplyLowAsserted (s : State) : exec .supplyLowAsserted s = .next (settle (supplyLowAsserted s)) := rfl

theorem exec_supplyLowReleased (s : State) : exec .supplyLowReleased s = .next (settle (supplyLowReleased s)) := rfl

/-- The state with the hold over, its notice raised, before what it kept due goes on. -/
def holdOver (s : State) : State := raise .supplyLow .store { s with store.supplyLow := false }

theorem supplyLowReleased_eq {s : State} (hl : s.store.supplyLow = true) (hr : s.port.inReset = false) :
    supplyLowReleased s = resumeStore (holdOver s) := by
  simp [supplyLowReleased, hl, hr, holdOver]

@[simp] theorem holdOver_store (s : State) : (holdOver s).store = { s.store with supplyLow := false } := by simp [holdOver]

theorem holdOver_port (s : State) : (holdOver s).port = (raise .supplyLow .store s).port := raise_port _ _ _ _ rfl

theorem holdOver_touches (s : State) : OnlyTouches [.store, .port] s (holdOver s) :=
  ((raise_touches _ _ _).widen (by simp)).before rfl fun b => by cases b <;> simp [Kept]

/-- What a hold's release leaves, when it writes the store alone. -/
theorem release_completes {s : State} {st : Store} {P : State → Prop} (hl : s.store.supplyLow = true) (hr : s.port.inReset = false)
    (hrun : resumeStore (holdOver s) = { holdOver s with store := st })
    (hp : ∀ t : State, t.store = st → t.port = (raise .supplyLow .store s).port → OnlyTouches [.store, .port] s t → P t) :
    Completes .supplyLowReleased s P := by
  refine completes_event ((supplyLowReleased_eq hl hr).trans hrun) (exec_supplyLowReleased s) (hp _ (by simp) ?_ ?_)
  · simp only [settle_keeps]
    exact holdOver_port s
  · have hset : OnlyTouches [.store, .port] (holdOver s) { holdOver s with store := st } :=
      ⟨rfl, fun b => by cases b <;> simp [Kept]⟩
    exact onlyTouches_settle ((holdOver_touches s).trans hset)

theorem supplyLowIsAssertedAndReleased : SupplyLowIsAssertedAndReleased := by
  intro s hr
  refine ⟨fun hl => ?_, fun hl => ?_, fun hl hrec hhead herase hq hidle => ?_, fun n hl hp hrec hhead herase => ?_, fun hl => ?_⟩
  · have hrun : supplyLowAsserted s = raise .supplyLow .store
        { s with store.supplyLow := true, store.inProgress := s.store.inProgress && s.store.erasing.isNone } := by
      simp [supplyLowAsserted, hl, hr]
    refine completes_event hrun (exec_supplyLowAsserted s) ⟨by simp, ?_, onlyTouches_settle ?_⟩
    · simp only [settle_keeps]
      exact raise_port _ _ _ _ rfl
    · exact ((raise_touches _ _ _).widen (by simp)).before rfl fun b => by cases b <;> simp [Kept]
  · exact completes_nothing ((exec_supplyLowAsserted s).trans (by rw [supplyLowAsserted, if_pos hl]))
  · have hkick : kickStore (holdOver s) = holdOver s := by
      rw [kickStore]
      split
      · rw [startHead_empty (by simp [hq])]
        have hsame : { (holdOver s).store with activity := Activity.idle } = (holdOver s).store := by simp [← hidle]
        rw [hsame]
      · rfl
    have hrun : resumeStore (holdOver s) = { holdOver s with store := { s.store with supplyLow := false } } := by
      have hsame : { holdOver s with store := { s.store with supplyLow := false } } = holdOver s := by rw [← holdOver_store]
      rw [hsame, resumeStore]
      split
      · rfl
      · simp only [holdOver_store, hrec, hhead, herase]
        exact hkick
    exact release_completes hl hr hrun fun t hst hport htouch => ⟨hst, hport, htouch⟩
  · have hrun : resumeStore (holdOver s) = beginErase n (holdOver s) := by
      simp only [resumeStore, holdOver_store, hp, Bool.false_eq_true, if_false, hrec, hhead, herase]
    have hbegun : beginErase n (holdOver s) = { holdOver s with store := (beginErase n (holdOver s)).store } := by
      simp only [beginErase]
      split <;> rfl
    refine release_completes hl hr (hrun.trans hbegun) fun t hst _ htouch => ?_
    rw [hst]
    refine ⟨?_, ?_, ?_, ?_, htouch⟩
    all_goals simp [beginErase, State.held]
  · exact completes_nothing ((exec_supplyLowReleased s).trans (by rw [supplyLowReleased, if_neg (by simp [hl])]))

end Sys2Proof.Claims
end

section
/-! SUPPORT. What a hold kept due (R129, R134, R140). -/

namespace Sys2Proof.Claims

open Sys2Proof.Machine

/-- The slots of a sector whose last record was cut short, and the slots it misses. -/
theorem missingSlots_cutShort {w : RecordWrite} {used slots : List Slot} (h : 1 ≤ w.written)
    (hs : slots = used ++ .head w.record :: List.replicate (w.written - 1) .tail) (hu : missingSlots used.length used = 0)
    (hw : w.written < w.record.slots) :
    missingSlots slots.length slots = w.record.slots - w.written ∧ slots.length = used.length + w.written := by
  obtain ⟨k, hk⟩ : ∃ k, w.written = k + 1 := ⟨w.written - 1, by omega⟩
  subst hs
  rw [hk, Nat.add_sub_cancel]
  exact ⟨missingSlots_cut hu (by omega), by simp⟩

theorem missingSlots_passed {w : RecordWrite} {used slots : List Slot} (h : 1 ≤ w.written)
    (hs : slots = used ++ .head w.record :: List.replicate (w.written - 1) .tail) (hu : missingSlots used.length used = 0)
    (hw : w.written < w.record.slots) :
    let all := slots ++ List.replicate (w.record.slots - w.written) Slot.blank
    missingSlots all.length all = 0 := by
  obtain ⟨k, hk⟩ : ∃ k, w.written = k + 1 := ⟨w.written - 1, by omega⟩
  subst hs
  rw [hk, Nat.add_sub_cancel]
  exact missingSlots_passedOver hu (by omega)

theorem usedSlots_resting {n : Nat} {s : State} (h : writingInto s n = false)
    (hm : missingSlots (sectorOf s n).slots.length (sectorOf s n).slots = 0) : usedSlots s n = (sectorOf s n).slots.length := by
  simp [usedSlots, cutSlots, h, hm]

/-- The state with the record cut short passed over, its group to be written again from its first record. -/
def cutPassed (w : RecordWrite) (s : State) : State :=
  { passOver w.sector { holdOver s with store.record := none } with store.rest := [] }

theorem resumeCut_group {w : RecordWrite} {s : State} (h : s.store.swap = none) :
    resumeCut w (holdOver s) = startHead (cutPassed w s) := by
  have hswap : (passOver w.sector { holdOver s with store.record := none }).store.swap = none := by simp [passOver, h]
  unfold resumeCut
  dsimp only
  split
  next sw hsw => exact absurd (hsw.symm.trans hswap) (by simp)
  next => rfl

theorem cutPassed_store {w : RecordWrite} {c : Sector} {m : Nat} {s : State} (hc : Sector? w.sector s = some c)
    (hm : missingSlots c.slots.length c.slots = m) :
    (cutPassed w s).store = { s.store with
      supplyLow := false, record := none, rest := []
      sectors := s.store.sectors.set (w.sector - 1) { c with slots := c.slots ++ List.replicate m .blank } } := by
  have hsector : sectorOf { holdOver s with store.record := none } w.sector = c := by
    rw [sectorOf_congr (s := s) (by simp)]
    exact sectorOf_listed hc
  unfold cutPassed passOver
  simp only [updateSector_store]
  rw [hsector, hm]
  simp

theorem releaseGoesOnWithWhatWasDue : ReleaseGoesOnWithWhatWasDue := by
  intro s hr hl hp
  refine ⟨fun h hrec hhead => ?_, fun w hrec hw => ?_,
    fun w c used g b bs rest hrec h1 hc _ hs hu hw hswap hact hq hb hfit => ?_⟩
  · have hrun : resumeStore (holdOver s) = { holdOver s with store := { (holdOver s).store with inProgress := true } } := by
      simp only [resumeStore, holdOver_store, hp, Bool.false_eq_true, if_false, hrec, hhead]
    exact release_completes hl hr hrun fun t hst hport htouch => ⟨hst.trans (by rw [holdOver_store]), hport, htouch⟩
  · have hrun : resumeStore (holdOver s) = { holdOver s with store := { (holdOver s).store with inProgress := true } } := by
      simp only [resumeStore, holdOver_store, hp, Bool.false_eq_true, if_false, hrec, hw, if_true]
    exact release_completes hl hr hrun fun t hst hport htouch => ⟨hst.trans (by rw [holdOver_store]), hport, htouch⟩
  · obtain ⟨hmiss, hlen⟩ := missingSlots_cutShort h1 hs hu hw
    have hstore := cutPassed_store hc hmiss
    have hheld : (cutPassed w s).store.supplyLow = false := by rw [hstore]
    have hset : (cutPassed w s).store.sectors = s.store.sectors.set (w.sector - 1)
        { c with slots := c.slots ++ List.replicate (w.record.slots - w.written) .blank } := by rw [hstore]
    have hsector := sectorOf_set hc hset
    have hactive : activeSector (cutPassed w s) = some w.sector := (activeSector_set hc hset ⟨rfl, rfl⟩).trans hact
    have hused : usedSlots (cutPassed w s) w.sector = used.length + w.record.slots := by
      rw [usedSlots_resting (by simp [writingInto, hstore]) (by rw [hsector]; exact missingSlots_passed h1 hs hu hw), hsector]
      simp [hlen]
      omega
    obtain ⟨r, rs, hbegun, hbody, hpos, hno, hrest⟩ := startHead_begins (s := cutPassed w s) (by rw [hstore]; exact hq) hb hheld
      hactive (by rw [freeSlots, hused, Config.sectorSlots]; omega)
    have hrun : supplyLowReleased s = headBegun w.sector g rest r rs (cutPassed w s) := by
      rw [supplyLowReleased_eq hl hr, ← hbegun, ← resumeCut_group hswap]
      have hnot : ¬ w.written = 0 := by omega
      simp only [resumeStore, holdOver_store, hp, Bool.false_eq_true, if_false, hrec, hnot]
    have htouch : OnlyTouches [.store, .port] s (cutPassed w s) :=
      (holdOver_touches s).trans ⟨rfl, fun b => by cases b <;> simp [Kept, cutPassed, passOver]⟩
    refine completes_event hrun (exec_supplyLowReleased s) ⟨?_, ⟨r, ?_, hbody, hpos, ?_⟩, ?_, ?_, ?_, ?_,
      onlyTouches_settle (htouch.trans ((headBegun_touches _ _ _ _ _ _).widen (by simp)))⟩
    · simp [headBegun, beginRecord, hstore]
    · simp [headBegun, beginRecord]
    · rw [hno, hstore]
    · simpa [headBegun, beginRecord] using hrest
    · simp [headBegun, beginRecord, State.held, hheld]
    · simp [headBegun, beginRecord, hheld]
    · simp [headBegun, beginRecord]

theorem cutSlotsCountAsUsed : CutSlotsCountAsUsed := by
  intro w c used s hrec hp hc _ h1 hs hu hw hact hle hup
  obtain ⟨hmiss, hlen⟩ := missingSlots_cutShort h1 hs hu hw
  have hsector : sectorOf (counted s) w.sector = c := sectorOf_listed hc
  have hused : usedSlots (counted s) w.sector = used.length + w.record.slots := by
    have hnot : writingInto (counted s) w.sector = false := by simp [writingInto, hp]
    simp only [usedSlots, cutSlots, hnot, Bool.false_eq_true, if_false, hsector, hmiss]
    omega
  have hfree : activeFree (counted s) = 256 - (used.length + w.record.slots) := by
    have hactive : activeSector (counted s) = some w.sector := (activeSector_sectors rfl).trans hact
    simp [activeFree, hactive, freeSlots, hused, Config.sectorSlots]
  refine completes_request (o := getStatus) (t := .always) rfl hup rfl ⟨statusReport (counted s), by simp, ?_⟩
  exact hfree

/-- Settles O49. -/
theorem supplyLowHoldsTheStore : Obligations.SupplyLowHoldsTheStore :=
  ⟨supplyLowIsAssertedAndReleased, releaseGoesOnWithWhatWasDue, cutSlotsCountAsUsed⟩

end Sys2Proof.Claims
end

section
/-! SUPPORT. The store's steps, said once: what each begins, and what it depends on (R129, R134 to R145). -/

namespace Sys2Proof.Claims

open Sys2Proof.Machine

/-! ## What depends on the sectors alone -/

theorem headerOf_congr {s t : State} (h : t.store.sectors = s.store.sectors) (n : Nat) : headerOf t n = headerOf s n := by
  rw [headerOf, sectorOf_congr h, headerOf]

theorem seqOf_congr {s t : State} (h : t.store.sectors = s.store.sectors) (n : Nat) : seqOf t n = seqOf s n := by
  rw [seqOf, headerOf_congr h, seqOf]

theorem rotation_sectors {s t : State} (h : t.store.sectors = s.store.sectors) : rotation t = rotation s := by
  simp only [Machine.rotation, sectorOf_congr h, h]

theorem sectorsWith_congr {s t : State} (h : t.store.sectors = s.store.sectors) (p : Header → Bool) :
    sectorsWith p t = sectorsWith p s := by
  simp only [sectorsWith, rotation_sectors h, headerOf_congr h]

theorem spareSector_congr {s t : State} (h : t.store.sectors = s.store.sectors) : spareSector t = spareSector s := by
  rw [spareSector, sectorsWith_congr h, spareSector]

theorem oldestOf_congr {s t : State} (h : t.store.sectors = s.store.sectors) (l : List Nat) : oldestOf t l = oldestOf s l := by
  simp only [oldestOf, seqOf_congr h]

theorem oldestFull_congr {s t : State} (h : t.store.sectors = s.store.sectors) : oldestFull t = oldestFull s := by
  rw [oldestFull, sectorsWith_congr h, oldestOf_congr h, oldestFull]

theorem unreadableSector_congr {s t : State} (h : t.store.sectors = s.store.sectors) : unreadableSector t = unreadableSector s := by
  simp only [unreadableSector, rotation_sectors h, headerOf_congr h, sectorOf_congr h]

theorem acceptedIn_congr {s t : State} (h : t.store.sectors = s.store.sectors) (n : Nat) : acceptedIn t n = acceptedIn s n := by
  simp only [acceptedIn, sectorOf_congr h]

theorem carryComplete_congr {s t : State} (h : t.store.sectors = s.store.sectors) : carryComplete t = carryComplete s := by
  funext n
  simp only [carryComplete, acceptedIn_congr h, seqOf_congr h]

theorem nextSeq_congr {s t : State} (h : t.store.sectors = s.store.sectors) (hf : t.free = s.free) : nextSeq t = nextSeq s := by
  have hseq : seqOf t = seqOf s := funext fun n => seqOf_congr h n
  rw [nextSeq, hf, rotation_sectors h, hseq, nextSeq]

theorem sector?_congr {s t : State} (h : t.store.sectors = s.store.sectors) (n : Nat) : Sector? n t = Sector? n s := by
  rw [Sector?, h, Sector?]

/-- The slots used in a sector into which no record is being written. -/
theorem usedSlots_congr {n : Nat} {s t : State} (h : t.store.sectors = s.store.sectors) (hs : s.store.record = none)
    (ht : t.store.record = none) : usedSlots t n = usedSlots s n := by
  have hnot : ∀ u : State, u.store.record = none → writingInto u n = false := fun u hu => by simp [writingInto, hu]
  simp only [usedSlots, cutSlots, hnot s hs, hnot t ht, sectorOf_congr h]

theorem freeSlots_congr {n : Nat} {s t : State} (h : t.store.sectors = s.store.sectors) (hs : s.store.record = none)
    (ht : t.store.record = none) : freeSlots t n = freeSlots s n := by
  rw [freeSlots, usedSlots_congr h hs ht, freeSlots]

/-! ## What begins -/

theorem beginRecord_eq (r : Record) (n : Nat) (s : State) :
    beginRecord r n s = { s with store := { s.store with record := some ⟨r, n, 0⟩, inProgress := !s.store.supplyLow } } := rfl

theorem beginHeader_eq (n : Nat) (h : Header) (s : State) :
    beginHeader n h s = { s with store := { s.store with headerWrite := some ⟨n, h⟩, inProgress := !s.store.supplyLow } } := rfl

theorem beginErase_store (n : Nat) (s : State) :
    (beginErase n s).store = { s.store with
      erasing := some n, inProgress := !s.store.supplyLow, activity := .erasing
      sectors := (beginErase n s).store.sectors } := by
  unfold beginErase
  dsimp only
  split <;> rfl

theorem beginErase_other {n m : Nat} (h : m - 1 ≠ n - 1) (s : State) : Sector? m (beginErase n s) = Sector? m s := by
  unfold beginErase Sector?
  dsimp only
  split
  · rfl
  · rw [updateSector_store]
    exact List.getElem?_set_ne (Ne.symm h)

/-- A notice raised writes the port alone, as the port alone asks. -/
theorem raise_with {k : NoticeKind} {j : Subject} {s t : State} (h : t.port = s.port) :
    raise k j t = { t with port := (raise k j s).port } := by
  rw [← raise_port k j t s h]
  exact raise_eq k j t

/-- The store with nothing more to write (R141). -/
def haltedStore (st : Store) : Store :=
  { st with
    activity := .halted, record := none, rest := [], headerWrite := none, erasing := none, inProgress := false, swap := none }

theorem haltStore_eq (s : State) :
    haltStore s = { s with store := haltedStore s.store, port := (raise .storeFault .store s).port } := raise_with rfl

/-- A state that differs in its store, its port and its free values alone. -/
theorem onlyTouches_storePort {s : State} (st : Store) (q : Port) (n : Nat) :
    OnlyTouches [.store, .port] s { s with store := st, port := q, free := n } :=
  ⟨rfl, fun b => by cases b <;> simp [Kept]⟩

theorem onlyTouches_store {s : State} (st : Store) (n : Nat) : OnlyTouches [.store] s { s with store := st, free := n } :=
  ⟨rfl, fun b => by cases b <;> simp [Kept]⟩

/-! ## Rows -/

theorem exec_slotWriteComplete (s : State) : exec .slotWriteComplete s = .next (settle (slotWriteComplete s)) := rfl

theorem exec_headerWriteComplete (s : State) : exec .headerWriteComplete s = .next (settle (headerWriteComplete s)) := rfl

theorem exec_eraseComplete (verified : Bool) (s : State) :
    exec (.eraseComplete verified) s = .next (settle (eraseComplete verified s)) := rfl

/-! ## A slot written -/

/-- The store with the slot of a record written. -/
def slotIn (w : RecordWrite) (c : Sector) (s : State) : List Sector :=
  s.store.sectors.set (w.sector - 1) { c with slots := c.slots ++ [if w.written = 0 then .head w.record else .tail] }

theorem putSlot_eq {w : RecordWrite} {c : Sector} {s : State} (hc : Sector? w.sector s = some c) :
    putSlot w s = { s with store := { s.store with sectors := slotIn w c s } } := by
  rw [putSlot, updateSector, sectorOf_listed hc]
  rfl

/-- The state with a record's last slot written. -/
def recordIn (w : RecordWrite) (c : Sector) (s : State) : State :=
  { s with store := { s.store with sectors := slotIn w c s, record := none, inProgress := false } }

theorem slotWriteComplete_last {w : RecordWrite} {c : Sector} {s : State} (hw : s.store.record = some w)
    (hp : s.store.inProgress = true) (hc : Sector? w.sector s = some c) (hl : w.record.slots ≤ w.written + 1) :
    slotWriteComplete s = recordDone w.sector (recordIn w c s) := by
  have hnot : ¬ w.written + 1 < w.record.slots := by omega
  simp only [slotWriteComplete, hw, hp, if_true, putSlot_eq hc, hnot, if_false]
  rfl

theorem slotWriteComplete_more {w : RecordWrite} {c : Sector} {s : State} (hw : s.store.record = some w)
    (hp : s.store.inProgress = true) (hc : Sector? w.sector s = some c) (hl : w.written + 1 < w.record.slots) :
    slotWriteComplete s = { s with store := { s.store with
      sectors := slotIn w c s, record := some { w with written := w.written + 1 }, inProgress := !s.store.supplyLow } } := by
  simp only [slotWriteComplete, hw, hp, if_true, putSlot_eq hc, hl]
  rfl

/-! ## A header written, an erase over -/

theorem headerWriteComplete_eq {h : HeaderWrite} {s : State} (hh : s.store.headerWrite = some h)
    (hp : s.store.inProgress = true) : headerWriteComplete s = headerDone h s := by
  simp only [headerWriteComplete, hh, hp, if_true]

theorem putHeader_eq (h : HeaderWrite) (s : State) :
    putHeader h s = { s with store := { s.store with
      sectors := s.store.sectors.set (h.sector - 1) { sectorOf s h.sector with header := h.header }
      headerWrite := none, inProgress := false } } := rfl

/-- The state with an erase over, its count and its notices made (R136, R137, R141). -/
def eraseOver (verified : Bool) (n : Nat) (c : Sector) (s : State) : State :=
  { erased verified n c s with
    store := { (erased verified n c s).store with dropped := droppedWith n c s }
    port := (eraseSaid verified n c s).port }

theorem countDropped_eq {n : Nat} {c : Sector} {s : State} (hc : Sector? n s = some c) :
    (if (headerOf s n).isFull then countDropped n s else s) = { s with
      store := { s.store with dropped := droppedWith n c s }
      port := (if droppedWith n c s = s.store.dropped then s else raise .storeEvent .store s).port } := by
  have hh : headerOf s n = c.header := by rw [headerOf, sectorOf_listed hc]
  rw [hh]
  by_cases hfull : c.header.isFull = true
  · have hcount : satAdd 65535 s.store.dropped (historyLost s n) = droppedWith n c s := by
      simp [droppedWith, hfull, satAdd]
    simp only [hfull, if_true, countDropped, hcount]
    split
    next h => rw [h]
    next h => exact raise_with rfl
  · have hcount : droppedWith n c s = s.store.dropped := by simp [droppedWith, hfull]
    simp [hfull, hcount]

/-- An erase over, before the store goes on; the sector is verified or leaves rotation. -/
theorem sectorErased_eq {verified : Bool} {n : Nat} {c : Sector} {s : State} (hc : Sector? n s = some c) :
    (if verified then updateSector n (fun c => { c with header := .erased, slots := [], eraseBegun := false })
        { s with store.erasing := none, store.inProgress := false }
      else raise .storeFault (.sector n) (updateSector n (fun c => { c with fault := true })
        { s with store.erasing := none, store.inProgress := false }))
      = { erased verified n c s with port := (if verified then s else raise .storeFault (.sector n) s).port } := by
  have hsector : sectorOf { s with store.erasing := none, store.inProgress := false } n = c := sectorOf_listed hc
  cases verified with
  | true =>
    simp only [if_true, updateSector, hsector]
    rfl
  | false =>
    simp only [Bool.false_eq_true, if_false, updateSector, hsector]
    exact raise_with rfl

/-- How the store goes on after an erase. -/
def afterErase (s : State) : State :=
  match s.store.swap with
  | some sw => swapErase sw s
  | none => continueStore s

theorem eraseDone_eq (n : Nat) (verified : Bool) (s : State) :
    eraseDone n verified s = afterErase
      (let u := if (headerOf s n).isFull then countDropped n s else s
        if verified then updateSector n (fun c => { c with header := .erased, slots := [], eraseBegun := false })
          { u with store.erasing := none, store.inProgress := false }
        else raise .storeFault (.sector n) (updateSector n (fun c => { c with fault := true })
          { u with store.erasing := none, store.inProgress := false })) := rfl

theorem eraseComplete_over {verified : Bool} {n : Nat} {c : Sector} {s : State} (he : s.store.erasing = some n)
    (hp : s.store.inProgress = true) (hc : Sector? n s = some c) :
    eraseComplete verified s = afterErase (eraseOver verified n c s) := by
  have hrun : eraseComplete verified s = eraseDone n verified s := by simp only [eraseComplete, he, hp, if_true]
  rw [hrun, eraseDone_eq, countDropped_eq hc]
  refine congrArg afterErase ((sectorErased_eq (c := c) (by exact hc)).trans ?_)
  have hport : (if verified then ({ s with
      store := { s.store with dropped := droppedWith n c s }
      port := (if droppedWith n c s = s.store.dropped then s else raise .storeEvent .store s).port } : State)
      else raise .storeFault (.sector n) { s with
        store := { s.store with dropped := droppedWith n c s }
        port := (if droppedWith n c s = s.store.dropped then s else raise .storeEvent .store s).port }).port =
      (eraseSaid verified n c s).port := by
    cases verified with
    | true => rfl
    | false => exact raise_port _ _ _ _ rfl
  rw [hport]
  rfl

theorem afterErase_swap {sw : Swap} {s : State} (h : s.store.swap = some sw) : afterErase s = swapErase sw s := by
  simp only [afterErase, h]

theorem afterErase_none {s : State} (h : s.store.swap = none) : afterErase s = continueStore s := by
  simp only [afterErase, h]

theorem eraseOver_sectors (verified : Bool) (n : Nat) (c : Sector) (s : State) :
    (eraseOver verified n c s).store.sectors = (erased verified n c s).store.sectors := rfl

end Sys2Proof.Claims
end

section
/-! SUPPORT. What the store does next: the scan's repairs, formatting, the head group and the end of a swap (R134 to R137,
R141, R142, R145). -/

namespace Sys2Proof.Claims

open Sys2Proof.Machine

/-! ## The scan's repairs (R142) -/

/-- The scan with a repair counted. -/
def repairing (k : Scan) (s : State) : State := { s with store := { s.store with scan := some { k with repaired := true } } }

theorem markRepaired_eq {k : Scan} {s : State} (h : s.store.scan = some k) : markRepaired s = repairing k s := by
  simp [markRepaired, repairing, h]

theorem continueStore_repairs {k : Scan} {s : State} (h : s.store.scan = some k) (hf : k.formatting = none) :
    continueStore s = nextRepair s := by
  simp [continueStore, h, hf]

theorem continueStore_formats {k : Scan} {l : List Nat} {s : State} (h : s.store.scan = some k) (hf : k.formatting = some l) :
    continueStore s = formatNext s := by
  simp [continueStore, h, hf]

theorem continueStore_head {s : State} (h : s.store.scan = none) : continueStore s = startHead s := by
  simp [continueStore, h]

theorem nextRepair_unreadable {n : Nat} {k : Scan} {s : State} (hk : s.store.scan = some k) (h : unreadableSector s = some n) :
    nextRepair s = beginErase n (repairing k s) := by
  simp only [nextRepair, h, markRepaired_eq hk]

theorem nextRepair_olderActive {n : Nat} {k : Scan} {s : State} (hk : s.store.scan = some k) (hu : unreadableSector s = none)
    (h2 : 2 ≤ (sectorsWith Header.isActive s).length) (ho : oldestOf s (sectorsWith Header.isActive s) = some n) :
    nextRepair s = beginHeader n (.full (seqOf s n))
      { repairing k s with store := { (repairing k s).store with activity := .swapping } } := by
  simp only [nextRepair, hu, h2, if_true, ho, markRepaired_eq hk]

theorem nextRepair_carried {n : Nat} {k : Scan} {s : State} (hk : s.store.scan = some k) (hu : unreadableSector s = none)
    (h2 : (sectorsWith Header.isActive s).length < 2)
    (hc : (sectorsWith Header.isCarrying s).find? (carryComplete s) = some n) :
    nextRepair s = beginHeader n (.active (seqOf s n))
      { repairing k s with store := { (repairing k s).store with activity := .swapping } } := by
  have hfew : ¬ 2 ≤ (sectorsWith Header.isActive s).length := by omega
  simp only [nextRepair, hu, hfew, if_false, hc, markRepaired_eq hk]

theorem nextRepair_carrying {n : Nat} {k : Scan} {s : State} (hk : s.store.scan = some k) (hu : unreadableSector s = none)
    (h2 : (sectorsWith Header.isActive s).length < 2)
    (hc : (sectorsWith Header.isCarrying s).find? (carryComplete s) = none)
    (hh : (sectorsWith Header.isCarrying s).head? = some n) :
    nextRepair s = beginErase n
      { s with store := { s.store with scan := some { k with repaired := true, redoSwap := true } } } := by
  have hfew : ¬ 2 ≤ (sectorsWith Header.isActive s).length := by omega
  simp only [nextRepair, hu, hfew, if_false, hc, hh, hk]
  rfl

/-- One ACTIVE sector, no CARRYING one and no swap to make again: what is left is a spare. -/
structure Settled (a : Nat) (k : Scan) (s : State) : Prop where
  scan : s.store.scan = some k
  readable : unreadableSector s = none
  redo : k.redoSwap = false
  active : sectorsWith Header.isActive s = [a]
  carrying : sectorsWith Header.isCarrying s = []

theorem nextRepair_settled {a : Nat} {k : Scan} {s : State} (h : Settled a k s)
    (hs : (∃ m, spareSector s = some m) ∨ sectorsWith Header.isFull s = []) :
    nextRepair s = { s with store := { s.store with activity := .idle } } := by
  obtain ⟨hk, hu, hr, ha, hc⟩ := h
  obtain ⟨m, hm⟩ | hfull := hs
  · simp [nextRepair, hu, ha, hc, hk, hr, hm]
  · simp [nextRepair, hu, ha, hc, hk, hr, hfull]

theorem full_of_oldest {m : Nat} {s : State} (h : oldestFull s = some m) : sectorsWith Header.isFull s ≠ [] := by
  intro hnone
  rw [oldestFull, hnone] at h
  simp [oldestOf] at h

theorem nextRepair_noSpare {a m : Nat} {k : Scan} {s : State} (h : Settled a k s) (hs : spareSector s = none)
    (ho : oldestFull s = some m) : nextRepair s = beginErase m (repairing k s) := by
  obtain ⟨hk, hu, hr, ha, hc⟩ := h
  have hfull := full_of_oldest ho
  simp only [nextRepair, hu, ha, hc, hk, hs, ho, markRepaired_eq hk]
  simp [hfull]

/-! ## Formatting (R145) -/

theorem formatNext_erases {k : Scan} {m : Nat} {rest : List Nat} {s : State} (hk : s.store.scan = some k)
    (hf : k.formatting = some (m :: rest)) :
    formatNext s = beginErase m { s with store := { s.store with scan := some { k with formatting := some rest } } } := by
  simp only [formatNext, hk, hf]

theorem formatNext_heads {k : Scan} {m : Nat} {s : State} (hk : s.store.scan = some k) (hf : k.formatting = some [])
    (hs : spareSector s = some m) :
    formatNext s = beginHeader m (.active 1) { s with store := { s.store with activity := .swapping } } := by
  simp only [formatNext, hk, hf, hs]

theorem formatNext_halts {k : Scan} {s : State} (hk : s.store.scan = some k) (hf : k.formatting = some [])
    (hs : spareSector s = none) :
    formatNext s = haltStore { s with store := { s.store with scan := some { k with formatted := true } } } := by
  simp only [formatNext, hk, hf, hs]

/-! ## A swap (R135, R137) -/

/-- The swap that begins into a spare sector. -/
def newSwap (m : Nat) (s : State) : Swap :=
  { target := m, seq := nextSeq s, old := activeSector s, step := .newHeader, toCopy := [], candidates := [], copied := 0 }

theorem beginSwap_spare {m : Nat} {s : State} (h : spareSector s = some m) :
    beginSwap s = beginHeader m (.carrying (nextSeq s)) { s.useFree with
      store := { s.store with activity := .swapping, swap := some (newSwap m s) } } := by
  simp only [beginSwap, h]
  rfl

theorem beginSwap_erases {m : Nat} {s : State} (h : spareSector s = none) (ho : oldestFull s = some m) :
    beginSwap s = beginErase m s := by
  simp only [beginSwap, h, ho]

theorem beginSwap_halts {s : State} (h : spareSector s = none) (ho : oldestFull s = none) : beginSwap s = haltStore s := by
  simp only [beginSwap, h, ho]

theorem startHead_swaps {a : Nat} {g : Group} {gs : List Group} {s : State} (hq : s.store.queue = g :: gs)
    (hl : s.store.supplyLow = false) (ha : activeSector s = some a) (hfit : freeSlots s a < g.need) :
    startHead s = beginSwap s := by
  have hheld : s.held = false := hl
  have hnot : ¬ g.need ≤ freeSlots s a := by omega
  simp only [startHead, hq, hheld, Bool.false_eq_true, if_false, ha, hnot]

/-- The state with the swap over and its notice raised. -/
def swapOver (s : State) : State :=
  { s with store := { s.store with swap := none }, port := (raise .storeEvent .store s).port }

theorem swapComplete_eq (s : State) : swapComplete s = continueStore (swapOver s) := by
  exact congrArg continueStore (raise_with rfl)

theorem swapErase_over {sw : Swap} {s : State}
    (h : (∃ m, spareSector s = some m) ∨ (spareSector s = none ∧ oldestFull s = none)) :
    swapErase sw s = continueStore (swapOver s) := by
  rw [← swapComplete_eq]
  obtain ⟨m, hm⟩ | ⟨hn, ho⟩ := h
  · simp [swapErase, hm]
  · simp [swapErase, hn, ho]

theorem swapErase_erases {sw : Swap} {m : Nat} {s : State} (hs : spareSector s = none) (ho : oldestFull s = some m) :
    swapErase sw s = beginErase m (setStep sw .erase s) := by
  simp [swapErase, hs, ho]

/-! ## Where an erase leads -/

theorem onlyTouches_eraseOver (verified : Bool) (n : Nat) (c : Sector) (s : State) :
    OnlyTouches [.store, .port] s (eraseOver verified n c s) :=
  onlyTouches_storePort _ _ _

/-- The next erase begins from a state that has the last one over. -/
theorem nextErase_begins {verified : Bool} {n m : Nat} {c : Sector} {s v : State} (hm : m - 1 ≠ n - 1)
    (hst : v.store = { (eraseOver verified n c s).store with swap := v.store.swap, scan := v.store.scan, activity := v.store.activity })
    (hp : v.port = (eraseSaid verified n c s).port) (ht : OnlyTouches [.store, .port] s v) :
    NextErase verified n m c s (settle (beginErase m v)) := by
  have hb := beginErase_store m v
  have htouch := beginErase_touches m v
  have hother := beginErase_other (n := m) (m := n) (Ne.symm hm) v
  have hport : (beginErase m v).port = v.port := htouch.kept (b := .port) (by simp)
  generalize beginErase m v = t at *
  refine ⟨?_, ?_, ?_, ?_, ?_, ?_, ?_, onlyTouches_settle (ht.trans (htouch.widen (by simp)))⟩
  · simp only [settle_keeps]; exact (congrArg Store.erasing hb :)
  · simp only [settle_keeps]; exact (congrArg Store.activity hb :)
  · simp only [settle_keeps]
    exact (congrArg Store.inProgress hb :).trans (congrArg (fun st => !st.supplyLow) hst :)
  · rw [sector?_congr (s := t) (by simp), hother]
    exact sector?_congr (congrArg Store.sectors hst :) n
  · simp only [settle_keeps]; exact (congrArg Store.dropped hb :).trans (congrArg Store.dropped hst :)
  · simp only [settle_keeps, hport, hp]
  · simp only [settle_keeps]; exact (congrArg Store.queue hb :).trans (congrArg Store.queue hst :)

/-- A verified sector is ERASED, and in rotation. -/
theorem spare_of_verified {n : Nat} {c : Sector} {s : State} (hc : Sector? n s = some c) (hf : c.fault = false) (h1 : 1 ≤ n)
    (h4 : n ≤ 4) : ∃ m, spareSector (erased true n c s) = some m := by
  have hsector : sectorOf (erased true n c s) n = { c with header := .erased, slots := [], eraseBegun := false } :=
    sectorOf_set hc rfl
  have hlen : n ≤ (erased true n c s).store.sectors.length := by
    unfold Sector? at hc
    have := (List.getElem?_eq_some_iff.1 hc).1
    simp [erased]
    omega
  have hin : n ∈ sectorsWith (fun h => h == .erased) (erased true n c s) := by
    simp only [sectorsWith, Machine.rotation, List.mem_filter, headerOf, hsector, hf]
    refine ⟨⟨?_, by simpa using hlen⟩, rfl⟩
    simp
    omega
  cases hs : sectorsWith (fun h => h == .erased) (erased true n c s) with
  | nil => simp [hs] at hin
  | cons m l => exact ⟨m, by rw [spareSector, hs]; rfl⟩

end Sys2Proof.Claims
end

section
/-! SUPPORT. Where an erase leads: for no one, in a swap's step 4, in the scan, for a spare, in a formatting (R135 to R137, R141,
R142, R145). -/

namespace Sys2Proof.Claims

open Sys2Proof.Machine

theorem droppedWith_notFull {n : Nat} {c : Sector} {s : State} (h : c.header.isFull = false) :
    droppedWith n c s = s.store.dropped := by
  simp [droppedWith, h]

theorem eraseSaid_notFull {verified : Bool} {n : Nat} {c : Sector} {s : State} (h : c.header.isFull = false) :
    eraseSaid verified n c s = if verified then s else raise .storeFault (.sector n) s := by
  simp [eraseSaid, droppedWith_notFull h]

/-- What an erase leaves, once it is known how the store goes on from the erase over. -/
theorem erase_completes {verified : Bool} {n : Nat} {c : Sector} {s u : State} {P : State → Prop}
    (he : s.store.erasing = some n) (hp : s.store.inProgress = true) (hc : Sector? n s = some c)
    (hrun : afterErase (eraseOver verified n c s) = u) (h : P (settle u)) : Completes (.eraseComplete verified) s P :=
  completes_event ((eraseComplete_over he hp hc).trans hrun) (exec_eraseComplete verified s) h

/-- With no swap, no scan and nothing queued the store is idle. -/
theorem afterErase_idle {verified : Bool} {n : Nat} {c : Sector} {s : State} (hw : s.store.swap = none) (hk : s.store.scan = none)
    (hq : s.store.queue = []) : afterErase (eraseOver verified n c s) = { eraseOver verified n c s with
      store := { (eraseOver verified n c s).store with activity := .idle } } := by
  rw [afterErase_none (by exact hw), continueStore_head (by exact hk), startHead_empty (by exact hq)]

theorem eraseVerifiesOrFaults : EraseVerifiesOrFaults := by
  intro n c s he hp hc hbad hw hk hq
  have hfull : c.header.isFull = false := by rw [hbad]; rfl
  have hdrop := droppedWith_notFull (n := n) (s := s) hfull
  refine ⟨erase_completes he hp hc (afterErase_idle hw hk hq) ⟨?_, onlyTouches_settle ?_⟩,
    erase_completes he hp hc (afterErase_idle hw hk hq) ⟨?_, ?_, onlyTouches_settle (onlyTouches_storePort _ _ _)⟩⟩
  · simp [eraseOver, hdrop, erased]
  · simp only [eraseOver, eraseSaid_notFull hfull, if_true]
    exact onlyTouches_store _ _
  · simp [eraseOver, hdrop, erased]
  · simp [eraseOver, eraseSaid_notFull hfull]

/-! ## Step 4 of a swap -/

theorem stepFourEraseEndsTheSwap : StepFourEraseEndsTheSwap := by
  rintro n c sw s ⟨he, hp, hc, hrec, hhead⟩ _ hsw
  have hset : ∀ verified : Bool, (eraseOver verified n c s).store.sectors = (erased verified n c s).store.sectors := fun _ => rfl
  have hset' : ∀ verified : Bool, (swapOver (eraseOver verified n c s)).store.sectors =
      (erased verified n c s).store.sectors := fun _ => rfl
  have hover : ∀ verified : Bool, (∃ m, spareSector (erased verified n c s) = some m) ∨
      (spareSector (erased verified n c s) = none ∧ oldestFull (erased verified n c s) = none) →
      afterErase (eraseOver verified n c s) = continueStore (swapOver (eraseOver verified n c s)) := fun verified h => by
    rw [afterErase_swap (by exact hsw)]
    exact swapErase_over (by rw [spareSector_congr (hset verified), oldestFull_congr (hset verified)]; exact h)
  have hport : ∀ verified : Bool, (swapOver (eraseOver verified n c s)).port =
      (raise .storeEvent .store (eraseSaid verified n c s)).port := fun verified => raise_port _ _ _ _ rfl
  refine ⟨fun verified a g b bs rest hend hk hl hq hb ha hfit => ?_, fun k a hk hf hr hfault h1 h4 hu hact hcarry => ?_,
    fun m hs ho hm => ?_⟩
  · have hdone : (∃ m, spareSector (erased verified n c s) = some m) ∨
        (spareSector (erased verified n c s) = none ∧ oldestFull (erased verified n c s) = none) := by
      cases verified with
      | true =>
        obtain ⟨hfault, h1, h4⟩ := hend
        exact Or.inl (spare_of_verified hc hfault h1 h4)
      | false => exact Or.inr hend
    obtain ⟨r, rs, hbegun, hbody, _, hno, _⟩ := startHead_begins (n := a) (s := swapOver (eraseOver verified n c s)) hq hb hl
      ((activeSector_sectors (hset' verified)).trans ha) (by rw [freeSlots_congr (hset' verified) hrec hrec]; exact hfit)
    refine erase_completes he hp hc ((hover verified hdone).trans ((continueStore_head (by exact hk)).trans hbegun))
      ⟨?_, ?_, ?_, ?_, ⟨r, ?_, hbody, hno⟩, ?_, ?_, ?_, onlyTouches_settle (onlyTouches_storePort _ _ _)⟩
    · simp [headBegun, beginRecord, swapOver]
    · simp [headBegun, beginRecord, swapOver, eraseOver]
    · simp [headBegun, beginRecord, swapOver, eraseOver, erased]
    · simp [headBegun, beginRecord, swapOver, eraseOver]
    · simp [headBegun, beginRecord]
    · simp [headBegun, beginRecord]
    · simp [headBegun, beginRecord, swapOver, eraseOver, erased, State.held, hl]
    · simp only [settle_keeps]
      exact hport verified
  · have hspare := spare_of_verified hc hfault h1 h4
    have hrun : continueStore (swapOver (eraseOver true n c s)) = { swapOver (eraseOver true n c s) with
        store := { (swapOver (eraseOver true n c s)).store with activity := .idle } } := by
      rw [continueStore_repairs (by exact hk) hf]
      refine nextRepair_settled (a := a) ⟨hk, ?_, hr, ?_, ?_⟩ (Or.inl ?_)
      · rw [unreadableSector_congr (hset' true)]; exact hu
      · rw [sectorsWith_congr (hset' true)]; exact hact
      · rw [sectorsWith_congr (hset' true)]; exact hcarry
      · rw [spareSector_congr (hset' true)]; exact hspare
    refine erase_completes he hp hc ((hover true (Or.inl hspare)).trans hrun)
      ⟨?_, ?_, ?_, ?_, ?_, ?_, ?_, ?_, onlyTouches_settle (onlyTouches_storePort _ _ _)⟩
    · simp [swapOver]
    · simp [swapOver, eraseOver]
    · simp [swapOver, eraseOver, erased]
    · simp [swapOver, eraseOver]
    · simp [swapOver, eraseOver, erased, hk]
    · simp
    · simp [swapOver, eraseOver, erased]
    · simp only [settle_keeps]
      exact hport true
  · have hrun : afterErase (eraseOver false n c s) = beginErase m (setStep sw .erase (eraseOver false n c s)) := by
      rw [afterErase_swap (by exact hsw)]
      exact swapErase_erases (by rw [spareSector_congr (hset false)]; exact hs)
        (by rw [oldestFull_congr (hset false)]; exact ho)
    refine erase_completes he hp hc hrun ⟨nextErase_begins hm rfl rfl (onlyTouches_storePort _ _ _), ?_⟩
    simp only [settle_keeps]
    exact (congrArg Store.swap (beginErase_store m _) :)

/-! ## The scan -/

/-- What the store does after an erase of the scan that no formatting asked. -/
theorem afterErase_repairs {verified : Bool} {n : Nat} {c : Sector} {k : Scan} {s : State} (hw : s.store.swap = none)
    (hk : s.store.scan = some k) (hf : k.formatting = none) :
    afterErase (eraseOver verified n c s) = nextRepair (eraseOver verified n c s) :=
  (afterErase_none (by exact hw)).trans (continueStore_repairs (by exact hk) hf)

theorem afterErase_formats {verified : Bool} {n : Nat} {c : Sector} {k : Scan} {l : List Nat} {s : State}
    (hw : s.store.swap = none) (hk : s.store.scan = some k) (hf : k.formatting = some l) :
    afterErase (eraseOver verified n c s) = formatNext (eraseOver verified n c s) :=
  (afterErase_none (by exact hw)).trans (continueStore_formats (by exact hk) hf)

theorem scanEraseGoesOnWithTheRepairs : ScanEraseGoesOnWithTheRepairs := by
  rintro verified n c k s ⟨he, hp, hc, hrec, hhead⟩ hw hk u
  have hsame : (eraseOver verified n c s).store.sectors = u.store.sectors := rfl
  refine ⟨fun hf => ⟨fun m hm hne => ?_, fun a hu hr hact hcarry => ⟨fun hspare => ?_, fun m hs ho hne => ?_⟩⟩,
    fun m rest hf hne => ?_⟩
  · have hrun := (afterErase_repairs (verified := verified) (n := n) (c := c) hw hk hf).trans
      (nextRepair_unreadable (n := m) (by exact hk) (by rw [unreadableSector_congr hsame]; exact hm))
    refine erase_completes he hp hc hrun ⟨nextErase_begins hne rfl rfl (onlyTouches_storePort _ _ _), ?_⟩
    simp only [settle_keeps]
    exact (congrArg Store.scan (beginErase_store m _) :)
  · have hsettled : Settled a k (eraseOver verified n c s) :=
      ⟨hk, by rw [unreadableSector_congr hsame]; exact hu, hr, by rw [sectorsWith_congr hsame]; exact hact,
        by rw [sectorsWith_congr hsame]; exact hcarry⟩
    have hrun := (afterErase_repairs (verified := verified) (n := n) (c := c) hw hk hf).trans (nextRepair_settled hsettled
      (by rw [spareSector_congr hsame, sectorsWith_congr hsame]; exact hspare))
    refine erase_completes he hp hc hrun ⟨?_, ?_, ?_, ?_, ?_, ?_, ?_, onlyTouches_settle (onlyTouches_storePort _ _ _)⟩
    · simp only [settle_keeps]; exact hsame
    · simp [eraseOver, erased]
    · simp [eraseOver, erased]
    · simp
    · simp [eraseOver, erased, hk]
    · simp [eraseOver]
    · simp [eraseOver]
  · have hsettled : Settled a k (eraseOver verified n c s) :=
      ⟨hk, by rw [unreadableSector_congr hsame]; exact hu, hr, by rw [sectorsWith_congr hsame]; exact hact,
        by rw [sectorsWith_congr hsame]; exact hcarry⟩
    have hrun := (afterErase_repairs (verified := verified) (n := n) (c := c) hw hk hf).trans (nextRepair_noSpare hsettled
      (by rw [spareSector_congr hsame]; exact hs) (by rw [oldestFull_congr hsame]; exact ho))
    refine erase_completes he hp hc hrun ⟨nextErase_begins hne rfl rfl (onlyTouches_storePort _ _ _), ?_⟩
    simp only [settle_keeps]
    exact (congrArg Store.scan (beginErase_store m _) :)
  · have hrun := (afterErase_formats (verified := verified) (n := n) (c := c) hw hk hf).trans (formatNext_erases (by exact hk) hf)
    refine erase_completes he hp hc hrun ⟨nextErase_begins hne rfl rfl (onlyTouches_storePort _ _ _), ?_⟩
    simp only [settle_keeps]
    exact (congrArg Store.scan (beginErase_store m _) :)

/-! ## A spare for the head group -/

theorem spareEraseLetsTheSwapBegin : SpareEraseLetsTheSwapBegin := by
  rintro n a c g rest verified s ⟨he, hp, hc, hrec, hhead⟩ hw hk hl hq u ha hfit
  have hsame : (eraseOver verified n c s).store.sectors = u.store.sectors := rfl
  have hrun : afterErase (eraseOver verified n c s) = beginSwap (eraseOver verified n c s) := by
    rw [afterErase_none (by exact hw), continueStore_head (by exact hk)]
    exact startHead_swaps hq hl ((activeSector_sectors hsame).trans ha)
      (by rw [freeSlots_congr hsame hrec hrec]; exact hfit)
  have hseq : nextSeq (eraseOver verified n c s) = nextSeq u := nextSeq_congr hsame rfl
  refine ⟨fun m hm => ?_, fun m hs ho hne => ?_, fun hs ho => ?_⟩
  · have hbegun := beginSwap_spare (s := eraseOver verified n c s) (by rw [spareSector_congr hsame]; exact hm)
    refine erase_completes he hp hc (hrun.trans hbegun)
      ⟨?_, ?_, ⟨newSwap m (eraseOver verified n c s), ?_, rfl, hseq, (activeSector_sectors hsame).trans ha, rfl⟩, ?_, ?_, ?_, ?_, ?_,
        onlyTouches_settle (onlyTouches_storePort _ _ _)⟩
    · simp [beginHeader, hseq]
    · simp only [settle_keeps]; exact hsame
    · simp [beginHeader]
    · simp [beginHeader]
    · simp [beginHeader, State.held, eraseOver, erased, hl]
    · simp [beginHeader, eraseOver, erased]
    · simp [beginHeader, eraseOver]
    · simp [beginHeader, eraseOver]
  · have hbegun := beginSwap_erases (s := eraseOver verified n c s) (by rw [spareSector_congr hsame]; exact hs)
      (by rw [oldestFull_congr hsame]; exact ho)
    exact erase_completes he hp hc (hrun.trans hbegun) (nextErase_begins hne rfl rfl (onlyTouches_storePort _ _ _))
  · have hhalt := beginSwap_halts (s := eraseOver verified n c s) (by rw [spareSector_congr hsame]; exact hs)
      (by rw [oldestFull_congr hsame]; exact ho)
    refine erase_completes he hp hc (hrun.trans (hhalt.trans (haltStore_eq _)))
      ⟨?_, ?_, ?_, ?_, ?_, ?_, ?_, onlyTouches_settle (onlyTouches_storePort _ _ _)⟩
    · simp [haltedStore]
    · simp only [settle_keeps]; exact hsame
    · simp [haltedStore, eraseOver, erased]
    · simp [haltedStore]
    · simp [haltedStore]
    · simp [haltedStore, eraseOver]
    · simp only [settle_keeps]
      exact raise_port _ _ _ _ rfl

end Sys2Proof.Claims
end

section
/-! SUPPORT. A record's slots and the group they complete (R118, R123, R134, R177). -/

namespace Sys2Proof.Claims

open Sys2Proof.Machine

/-! ## The owed groups -/

theorem offerOwedDone_none {s : State} (h : ∀ u ∈ s.trips.uploads, u.doneOwed = false) : offerOwedDone s = s := by
  have hnone : s.trips.uploads.filter (·.doneOwed) = [] := List.filter_eq_nil_iff.2 fun u hu => by simp [h u hu]
  rw [offerOwedDone, hnone, List.foldl_nil]

theorem owedGroups_none {s : State} (ho : s.emerg.openRecord ≠ .owed) (hd : ∀ u ∈ s.trips.uploads, u.doneOwed = false) :
    owedGroups s = s.useFree := by
  have hdone : offerOwedDone s.useFree = s.useFree := offerOwedDone_none hd
  have halarm : reofferAlarmOpen s.useFree = s.useFree := reofferAlarmOpen_settled ho
  rw [owedGroups]
  split
  · rw [hdone, halarm]
  · rw [halarm, hdone]

/-- The reports of a group leave what an owner still owes to it. -/
theorem groupWritten_last {g : Group} {s v : State} (hq : s.store.queue = [g])
    (hv : groupReported g.kind { s with store := { s.store with queue := [] } } = v) (hvq : v.store.queue = [])
    (ho : v.emerg.openRecord ≠ .owed) (hd : ∀ u ∈ v.trips.uploads, u.doneOwed = false) :
    groupWritten s = { v.useFree with
      store := { v.store with queue := [], activity := .idle }, port := (raise .storeEvent .store v).port } := by
  have hempty : v.useFree.store.queue = [] := hvq
  have howed : owedGroups (groupReported g.kind { s with store := { s.store with queue := [] } }) = v.useFree := by
    rw [hv, owedGroups_none ho hd]
  simp only [groupWritten, hq, howed, hempty, List.isEmpty_nil, if_true, startHead_empty hempty]
  exact raise_with (s := v) rfl

/-! ## The last slot -/

/-- The state with the last group's last slot written, as its owner is told. -/
def lastIn (w : RecordWrite) (c : Sector) (s : State) : State :=
  { recordIn w c s with store := { (recordIn w c s).store with queue := [] } }

theorem lastSlot_completes {w : RecordWrite} {c : Sector} {g : Group} {s v : State} {P : State → Prop} (h : LastSlotOf w c g s)
    (hv : groupReported g.kind (lastIn w c s) = v) (hst : v.store = (lastIn w c s).store) (ho : v.emerg.openRecord ≠ .owed)
    (hd : ∀ u ∈ v.trips.uploads, u.doneOwed = false)
    (hp : P (settle { v.useFree with store := groupOut w c s, port := (raise .storeEvent .store v).port })) :
    Completes .slotWriteComplete s P := by
  obtain ⟨hw, hin, hc, hl, hswap, hrest, hq, _, _⟩ := h
  have hdone : recordDone w.sector (recordIn w c s) = groupWritten (recordIn w c s) := by
    have hswap' : (recordIn w c s).store.swap = none := hswap
    have hrest' : (recordIn w c s).store.rest = [] := hrest
    simp only [recordDone, hswap', hrest']
  have hwritten := groupWritten_last (s := recordIn w c s) hq hv (by rw [hst]; rfl) ho hd
  rw [hst] at hwritten
  exact completes_event ((slotWriteComplete_last hw hin hc hl).trans (hdone.trans hwritten)) (exec_slotWriteComplete s) hp

/-- A group whose owner asks nothing more. -/
theorem lastSlot_quiet {w : RecordWrite} {c : Sector} {g : Group} {s : State} (h : LastSlotOf w c g s)
    (hg : groupReported g.kind (lastIn w c s) = lastIn w c s) : Completes .slotWriteComplete s fun t =>
      t.store = groupOut w c s ∧ t.port = (raise .storeEvent .store s).port ∧ OnlyTouches [.store, .port] s t := by
  obtain ⟨_, _, _, _, _, _, _, ho, hd⟩ := id h
  refine lastSlot_completes h hg rfl ho hd ⟨by simp, ?_, onlyTouches_settle (onlyTouches_storePort _ _ _)⟩
  simp only [settle_keeps]
  exact raise_port _ _ _ _ rfl

theorem slotsFillTheSector : SlotsFillTheSector := by
  intro w c s hw hp hc
  refine ⟨fun hl => ?_, fun g hl hswap hrest hq hk ho hd => ?_⟩
  · exact completes_event (slotWriteComplete_more hw hp hc hl) (exec_slotWriteComplete s)
      ⟨by simp [slotIn], onlyTouches_settle (onlyTouches_store _ _)⟩
  · refine lastSlot_quiet ⟨hw, hp, hc, hl, hswap, hrest, hq, ho, hd⟩ ?_
    obtain hk | hk := hk <;> rw [hk] <;> rfl

/-! ## Its owner -/

theorem offerReport_joins {u : UploadEntry} {base : Nat} {s : State} (hbase : s.trips.homeBase = some base)
    (hq : ReplyJoinsQuietly s) :
    offerReport u s = setUpload u.trip.number .queued
      (joined (newEntry .tripRecorder (.trip u.trip.number) .normal (.tripReport (tripReportOf u.trip)) base s.fleet) s) := by
  obtain ⟨hlen, hord, hi, hcarrier⟩ := hq
  have hoffer := offerEntry_quiet
    (e := newEntry .tripRecorder (.trip u.trip.number) .normal (.tripReport (tripReportOf u.trip)) base s.fleet) hlen hord
    (quiescent_of_busy hi hcarrier) rfl
  simp only [offerReport, hbase, hoffer]

theorem number_of_findUpload {n : Nat} {u : UploadEntry} {s : State} (h : findUpload n s = some u) : u.trip.number = n := by
  simpa using List.find?_some h

theorem setUpload_owed {n : Nat} {st : UploadState} {s : State} (h : ∀ u ∈ s.trips.uploads, u.doneOwed = false) :
    ∀ u ∈ (setUpload n st s).trips.uploads, u.doneOwed = false := by
  rw [setUpload_uploads]
  intro u hu
  obtain ⟨a, ha, rfl⟩ := List.mem_map.1 hu
  split
  · exact h a ha
  · exact h a ha

theorem lastSlot_close {w : RecordWrite} {c : Sector} {g : Group} {n base : Nat} {u : UploadEntry} {s : State}
    (h : LastSlotOf w c g s) (hg : g.kind = .close n true) (hq : ReplyJoinsQuietly s) (hbase : s.trips.homeBase = some base)
    (hu : findUpload n s = some u) (hst : u.trip.upload = .storing) : Completes .slotWriteComplete s fun t =>
      t.store = groupOut w c s
        ∧ t.trips = { s.trips with uploads := uploadsWith n (fun a => { a with trip.upload := .queued }) s }
        ∧ (∃ e : PendEntry, t.tx = { s.tx with queue := s.tx.queue ++ [e] } ∧ e.cls = .normal ∧ e.owner = .tripRecorder
          ∧ e.ref = .trip n ∧ e.dest = base ∧ ∃ r : TripReport, e.payload = .tripReport r ∧ r.number = u.trip.number
            ∧ r.fare = u.trip.fare)
        ∧ t.port = (raise .storeEvent .store (raise .uploadChanged (.trip n) s)).port
        ∧ OnlyTouches [.tx, .trips, .store, .port] s t := by
  obtain ⟨_, _, _, _, _, _, _, ho, hd⟩ := id h
  have hnumber := number_of_findUpload hu
  have hreport : groupReported g.kind (lastIn w c s) = setUpload n .queued (joined (newEntry .tripRecorder (.trip n) .normal
      (.tripReport (tripReportOf u.trip)) base s.fleet) (lastIn w c s)) := by
    have hfound : findUpload n (lastIn w c s) = some u := hu
    simp only [hg, groupReported, hfound, hst, if_true]
    exact hnumber ▸ offerReport_joins (by exact hbase) (by exact hq)
  refine lastSlot_completes h hreport (by simp [setUpload]) (by simpa [setUpload, lastIn, recordIn] using ho) (setUpload_owed (by exact hd))
    ⟨by simp, ?_, ⟨{ newEntry .tripRecorder (.trip n) .normal (.tripReport (tripReportOf u.trip)) base s.fleet with
        uid := s.nextUid, state := .waiting, attempts := 0, seq := none }, ?_, rfl, rfl, rfl, rfl, _, rfl, rfl, rfl⟩, ?_, ?_⟩
  · simp only [settle_keeps]
    exact setUpload_uploads _ _ _
  · simp only [settle_keeps]
    simp [State.useFree, setUpload, joined, lastIn, recordIn]
  · simp only [settle_keeps]
    exact raise_port _ _ _ _ ((setUpload_port _ _ _).trans (raise_port _ _ _ _ rfl))
  · refine onlyTouches_settle ((?_ : OnlyTouches [.tx, .trips, .store, .port] s _).trans
      ((onlyTouches_storePort _ _ _).widen (by simp)))
    have hin : OnlyTouches [.tx, .trips, .store, .port] s (lastIn w c s) := (onlyTouches_store _ _).widen (by simp)
    exact hin.trans (((joined_touches _ _).widen (by simp)).trans ((setUpload_touches _ _ _).widen (by simp)))

theorem lastSlot_uploadDone {w : RecordWrite} {c : Sector} {g : Group} {n : Nat} {s : State} (h : LastSlotOf w c g s)
    (hg : g.kind = .uploadDone n) : Completes .slotWriteComplete s fun t =>
      t.store = groupOut w c s
        ∧ t.trips = { s.trips with
            uploads := s.trips.uploads.filter fun u => u.trip.number != n
            lastClosed := s.trips.lastClosed.map fun r =>
              if r.number = n ∧ r.upload ≠ .notListed then { r with upload := .delivered } else r }
        ∧ t.port = (raise .storeEvent .store (raise .uploadChanged (.trip n) s)).port
        ∧ OnlyTouches [.trips, .store, .port] s t := by
  obtain ⟨_, _, _, _, _, _, _, ho, hd⟩ := id h
  have hreport : groupReported g.kind (lastIn w c s) = uploadDoneWritten n (lastIn w c s) := by rw [hg]; rfl
  have htrips : (uploadDoneWritten n (lastIn w c s)).trips = { s.trips with
      uploads := s.trips.uploads.filter fun u => u.trip.number != n
      lastClosed := s.trips.lastClosed.map fun r =>
        if r.number = n ∧ r.upload ≠ .notListed then { r with upload := .delivered } else r } := by
    simp [uploadDoneWritten, lastIn, recordIn]
  refine lastSlot_completes h hreport (by simp [uploadDoneWritten]) (by simpa [uploadDoneWritten, lastIn, recordIn] using ho) ?_
    ⟨by simp, ?_, ?_, onlyTouches_settle ?_⟩
  · rw [htrips]
    exact fun u hu => hd u (List.mem_filter.1 hu).1
  · simp only [settle_keeps]
    exact htrips
  · simp only [settle_keeps]
    exact raise_port _ _ _ _ (raise_port _ _ _ _ rfl)
  · have hwritten : OnlyTouches [.trips, .store, .port] s (uploadDoneWritten n (lastIn w c s)) :=
      ((raise_touches _ _ _).widen (by simp)).before rfl fun b => by cases b <;> simp [Kept, lastIn, recordIn]
    exact hwritten.trans ((onlyTouches_storePort _ _ _).widen (by simp))

theorem lastSlot_alarmOpen {w : RecordWrite} {c : Sector} {g : Group} {s : State} (h : LastSlotOf w c g s)
    (hg : g.kind = .alarmOpen) (hopen : s.emerg.openRecord = .queued) : Completes .slotWriteComplete s fun t =>
      t.store = groupOut w c s ∧ t.emerg.openRecord = .written ∧ t.emerg.alarm = s.emerg.alarm
        ∧ t.port = (raise .storeEvent .store s).port ∧ OnlyTouches [.store, .emerg, .port] s t := by
  obtain ⟨_, _, _, _, _, _, _, ho, hd⟩ := id h
  have hreport : groupReported g.kind (lastIn w c s) = { lastIn w c s with
      emerg := { s.emerg with openRecord := .written } } := by
    rw [hg]
    exact if_pos ⟨hopen, rfl⟩
  refine lastSlot_completes h hreport rfl (by simp) hd ⟨by simp, by simp [State.useFree],
    by simp [State.useFree, lastIn, recordIn], ?_, onlyTouches_settle ?_⟩
  · simp only [settle_keeps]
    exact raise_port _ _ _ _ rfl
  · exact ⟨rfl, fun b => by cases b <;> simp [Kept, lastIn, recordIn, State.useFree]⟩

theorem writtenGroupReachesItsOwner : WrittenGroupReachesItsOwner := by
  intro w c g s h
  refine ⟨fun hk => lastSlot_quiet h ?_, fun n base u hg hq hbase hu hst => lastSlot_close h hg hq hbase hu hst,
    fun n hg hu => lastSlot_quiet h ?_, fun n hg => lastSlot_uploadDone h hg, fun hg hopen => lastSlot_alarmOpen h hg hopen⟩
  · obtain ⟨n, hk⟩ | hk | hk | hk := hk <;> rw [hk] <;> rfl
  · have hnone : findUpload n (lastIn w c s) = none := hu
    simp only [hg, groupReported, hnone]

end Sys2Proof.Claims
end

section
/-! SUPPORT. The swap from its header to its end (R135 to R137). -/

namespace Sys2Proof.Claims

open Sys2Proof.Machine

/-! ## Headers of a swap -/

theorem headerDone_select {h : HeaderWrite} {sw : Swap} {s : State} (hsw : s.store.swap = some sw) (hstep : sw.step = .newHeader) :
    headerDone h s = swapSelect sw (putHeader h s) := by
  have hput : (putHeader h s).store.swap = some sw := hsw
  simp only [headerDone, hput, hstep]

theorem headerDone_full {h : HeaderWrite} {sw : Swap} {s : State} (hsw : s.store.swap = some sw)
    (hstep : sw.step = .headerActive) : headerDone h s = swapHeaderFull sw (putHeader h s) := by
  have hput : (putHeader h s).store.swap = some sw := hsw
  simp only [headerDone, hput, hstep]

theorem headerDone_erase {h : HeaderWrite} {sw : Swap} {s : State} (hsw : s.store.swap = some sw)
    (hstep : sw.step = .headerFull) : headerDone h s = swapErase sw (putHeader h s) := by
  have hput : (putHeader h s).store.swap = some sw := hsw
  simp only [headerDone, hput, hstep]

theorem swapHeaderFull_old {n : Nat} {sw : Swap} {s : State} (h : sw.old = some n) :
    swapHeaderFull sw s = beginHeader n (.full (seqOf s n)) (setStep sw .headerFull s) := by
  simp only [swapHeaderFull, h]

theorem seqOf_putHeader {h : HeaderWrite} {n : Nat} {s : State} (hn : n - 1 ≠ h.sector - 1) :
    seqOf (putHeader h s) n = seqOf s n := by
  have hsector : sectorOf (putHeader h s) n = sectorOf s n := sectorOf_set_other hn rfl
  rw [seqOf, headerOf, hsector, seqOf, headerOf]

/-- What a header write leaves, once it is known how the store goes on. -/
theorem header_completes {h : HeaderWrite} {s u : State} {P : State → Prop} (hh : s.store.headerWrite = some h)
    (hp : s.store.inProgress = true) (hrun : headerDone h s = u) (hu : P (settle u)) : Completes .headerWriteComplete s P :=
  completes_event ((headerWriteComplete_eq hh hp).trans hrun) (exec_headerWriteComplete s) hu

theorem headersFollowTheSwap : HeadersFollowTheSwap := by
  intro h c sw old s hh hp hc hsw hstep hold hne
  have hrun : headerDone h s = beginHeader old (.full (seqOf s old)) (setStep sw .headerFull (putHeader h s)) := by
    rw [headerDone_full hsw hstep, swapHeaderFull_old hold, seqOf_putHeader hne]
  refine header_completes hh hp hrun ⟨?_, ?_, ?_, ?_, ?_, ?_, onlyTouches_settle (onlyTouches_store _ _)⟩
  · simp [beginHeader, setStep, putHeader_eq, sectorOf_listed hc]
  · simp [beginHeader]
  · simp [beginHeader, setStep]
  · simp [beginHeader, setStep, putHeader_eq, State.held]
  · simp [beginHeader, setStep]
  · simp [beginHeader, setStep, putHeader_eq]

/-! ## The carry -/

/-- The record that a swap writes next has begun. -/
def copying (r : Record) (sw : Swap) (s : State) : State :=
  beginRecord r sw.target { s with store := { s.store with swap := some sw, activity := .swapping } }

theorem copyRecord_fits {r : Record} {sw : Swap} {s : State} (h : usedSlots s sw.target + r.slots + 1 ≤ 256) :
    copyRecord r sw s = copying r sw s :=
  if_pos h

theorem swapCopyNext_more {r : Record} {rest : List Record} {sw : Swap} {s : State} (h : sw.toCopy = r :: rest)
    (hfit : usedSlots s sw.target + r.slots + 1 ≤ 256) : swapCopyNext sw s = copying r { sw with toCopy := rest } s := by
  simp only [swapCopyNext, h]
  exact copyRecord_fits hfit

theorem swapCopyNext_history {sw : Swap} {s : State} (h : sw.toCopy = []) : swapCopyNext sw s = swapHistory sw s := by
  simp only [swapCopyNext, h]

theorem swapHistory_more {k : List Record} {r : Record} {rest : List Record} {more : List (List Record)} {sw : Swap} {s : State}
    (h : sw.candidates = k :: more) (hk : k = r :: rest) (hfit : usedSlots s sw.target + slotsOf k + 1 + 64 ≤ 256) :
    swapHistory sw s = copying (historyCopy r)
      { sw with step := .history, toCopy := rest.map historyCopy, candidates := more } s := by
  have hslots : (historyCopy r).slots ≤ slotsOf k := by
    rw [hk, slotsOf, List.map_cons, List.sum_cons]
    exact Nat.le_add_right _ _
  have hmap : k.map historyCopy = historyCopy r :: rest.map historyCopy := by rw [hk, List.map_cons]
  have hhave : usedSlots s sw.target + slotsOf k + 1 + Config.historyReserve ≤ Config.sectorSlots := hfit
  simp only [swapHistory, h, hhave, if_true, hmap]
  exact copyRecord_fits (by simp only; omega)

/-- The CARRY_DONE with the count of the records carried. -/
def carryDoneOf (sw : Swap) : Record :=
  { body := .carryDone sw.seq sw.copied, writeNo := 0, position := 1, groupEnd := true, carry := .original }

theorem swapHistory_over {sw : Swap} {s : State}
    (h : sw.candidates = [] ∨ ∃ (k : List Record) (more : List (List Record)), sw.candidates = k :: more
      ∧ 256 < usedSlots s sw.target + slotsOf k + 1 + 64) :
    ∃ l : List (List Record), swapHistory sw s = beginRecord (carryDoneOf sw) sw.target
      (setStep { sw with step := .history, candidates := l } .carryDone s) := by
  obtain hnone | ⟨k, more, hk, hfull⟩ := h
  · refine ⟨sw.candidates, ?_⟩
    simp only [swapHistory, hnone]
    rfl
  · refine ⟨[], ?_⟩
    have hnot : ¬ usedSlots s sw.target + slotsOf k + 1 + Config.historyReserve ≤ Config.sectorSlots := by
      simp only [Config.historyReserve, Config.sectorSlots]
      omega
    simp only [swapHistory, hk, hnot, if_false]
    rfl

theorem copying_begins {r : Record} {sw sw' : Swap} {s u : State} (ht : sw'.target = sw.target)
    (hl : u.store.supplyLow = s.store.supplyLow) : CopyBegins r sw s (settle (copying r sw' u)) := by
  simp [CopyBegins, copying, beginRecord, State.held, ht, hl]

theorem copying_swap (r : Record) (sw : Swap) (s : State) : (settle (copying r sw s)).store.swap = some sw := by
  simp [copying, beginRecord]

theorem copying_touches (r : Record) (sw : Swap) (s : State) : OnlyTouches [.store] s (copying r sw s) :=
  onlyTouches_store _ _

theorem essentials_totalizer {r : Record} {listed : List TripRecord} {rs : List Record}
    (h : newest Record.isTotalizer rs = some r) : ∃ rest, essentials listed rs = r :: rest := by
  simp only [essentials, h]
  exact ⟨_, rfl⟩

/-- The swap as its carry begins. -/
def selected (sw : Swap) (s : State) : Swap :=
  { sw with
    step := .essential
    toCopy := (essentials (listedTrips s (allRecords s)) (allRecords s)).map essentialCopy
    candidates := if s.store.historyCarry || s.store.scan.isSome then
      historyCandidates (listedTrips s (allRecords s)) (allRecords s) else [] }

theorem swapSelect_begins {r : Record} {rest : List Record} {sw : Swap} {s : State}
    (hl : essentials (listedTrips s (allRecords s)) (allRecords s) = r :: rest) (hs : r.slots < 256)
    (hu : usedSlots s sw.target = 0) :
    swapSelect sw s = copying (essentialCopy r) { selected sw s with toCopy := rest.map essentialCopy } s := by
  have hcopy : (selected sw s).toCopy = essentialCopy r :: rest.map essentialCopy := by rw [selected, hl, List.map_cons]
  have hslots : (essentialCopy r).slots = r.slots := rfl
  refine swapCopyNext_more (sw := selected sw s) hcopy ?_
  have htarget : usedSlots s (selected sw s).target = 0 := hu
  omega

theorem carryBeginsWithTheEssentials : CarryBeginsWithTheEssentials := by
  intro h sw s hh hp hsw hstep hused u l
  have hrun : ∀ (r : Record) (rest : List Record), l = r :: rest → r.slots < 256 →
      headerDone h s = copying (essentialCopy r) { selected sw u with toCopy := rest.map essentialCopy } u :=
    fun r rest hl hs => (headerDone_select hsw hstep).trans (swapSelect_begins hl hs hused)
  have htouch : ∀ (r : Record) (x : Swap), OnlyTouches [.store] s (settle (copying r x u)) := fun r x =>
    onlyTouches_settle ((onlyTouches_store _ _ : OnlyTouches [.store] s u).trans (copying_touches r x u))
  refine ⟨fun r rest hl hs => ?_, fun r hnew hs => ?_⟩
  · refine header_completes hh hp (hrun r rest hl hs)
      ⟨copying_begins rfl rfl, ⟨_, copying_swap _ _ _, rfl, rfl, rfl, by simp, ?_, fun hoff hk => ?_, fun hon => ?_⟩, htouch _ _⟩
    · simp [essentialCopy, Function.comp_def]
    · simp [selected, u, putHeader_eq, hoff, hk]
    · have hhistory : (u.store.historyCarry || u.store.scan.isSome) = true := by
        obtain hon | hk := hon
        · exact Bool.or_eq_true_iff.2 (Or.inl hon)
        · exact Bool.or_eq_true_iff.2 (Or.inr (Option.isSome_iff_ne_none.2 hk))
      simp [selected, hhistory]
  · obtain ⟨rest, hl⟩ := essentials_totalizer (listed := listedTrips u (allRecords u)) hnew
    exact header_completes hh hp (hrun r rest hl hs) (copying_begins rfl rfl)

/-! ## A record of the carry stands written -/

theorem recordDone_carried {n : Nat} {sw : Swap} {s : State} (h : s.store.swap = some sw) : recordDone n s = carriedDone sw s := by
  simp only [recordDone, h]

/-- What a carry's record leaves, once it is known how the carry goes on. -/
theorem carried_completes {w : RecordWrite} {c : Sector} {sw : Swap} {s u : State} {P : State → Prop}
    (hw : s.store.record = some w) (hp : s.store.inProgress = true) (hc : Sector? w.sector s = some c)
    (hl : w.record.slots = w.written + 1) (hsw : s.store.swap = some sw) (hrun : carriedDone sw (recordIn w c s) = u)
    (hu : P (settle u)) : Completes .slotWriteComplete s P := by
  have hdone : recordDone w.sector (recordIn w c s) = carriedDone sw (recordIn w c s) := recordDone_carried hsw
  exact completes_event ((slotWriteComplete_last hw hp hc (by omega)).trans (hdone.trans hrun)) (exec_slotWriteComplete s) hu

/-- The swap with one more record carried. -/
def oneCarried (sw : Swap) : Swap := { sw with copied := sw.copied + 1 }

theorem carriedDone_next {sw : Swap} {s : State} (h : sw.step = .essential ∨ sw.step = .history) :
    carriedDone sw s = swapCopyNext (oneCarried sw) s := by
  obtain h | h := h <;> simp only [carriedDone, h, oneCarried]

theorem carriedDone_active {sw : Swap} {s : State} (h : sw.step = .carryDone) :
    carriedDone sw s = beginHeader sw.target (.active sw.seq) (setStep sw .headerActive s) := by
  simp only [carriedDone, h]
  rfl

theorem recordIn_sector {w : RecordWrite} {c : Sector} {s : State} (hc : Sector? w.sector s = some c) :
    (sectorOf (recordIn w c s) w.sector).slots = c.slots ++ [if w.written = 0 then Slot.head w.record else .tail] := by
  rw [sectorOf_set hc (t := recordIn w c s) rfl]

theorem recordIn_touches (w : RecordWrite) (c : Sector) (s : State) : OnlyTouches [.store] s (recordIn w c s) :=
  onlyTouches_store _ _

theorem carryGoesOn : CarryGoesOn := by
  intro w c sw s hw hp hc hl hsw hsector _ hstep used
  have hslots : (sectorOf (recordIn w c s) sw.target).slots = used := hsector ▸ recordIn_sector hc
  have hused : missingSlots used.length used = 0 → usedSlots (recordIn w c s) (oneCarried sw).target = used.length := fun hm => by
    have htarget : (oneCarried sw).target = sw.target := rfl
    rw [htarget, usedSlots_resting (by simp [writingInto, recordIn]) (by rw [hslots]; exact hm), hslots]
  have hleast : used.length ≤ usedSlots (recordIn w c s) (oneCarried sw).target := by
    have htarget : (oneCarried sw).target = sw.target := rfl
    rw [htarget, usedSlots, hslots]
    exact Nat.le_add_right _ _
  have htouch : ∀ (r : Record) (x : Swap), OnlyTouches [.store] s (settle (copying r x (recordIn w c s))) := fun r x =>
    onlyTouches_settle ((recordIn_touches w c s).trans (copying_touches _ _ _))
  refine ⟨fun r rest hcopy hm hfit => ?_, fun k r rest more hcopy hcand hk hm hfit => ?_, fun hcopy hover => ?_⟩
  · have hnext := swapCopyNext_more (sw := oneCarried sw) (s := recordIn w c s) hcopy
      (by rw [hused hm]; exact hfit)
    exact carried_completes hw hp hc hl hsw ((carriedDone_next hstep).trans hnext)
      ⟨copying_begins rfl rfl, copying_swap _ _ _, htouch _ _⟩
  · have hnext := swapHistory_more (sw := oneCarried sw) (s := recordIn w c s) hcand hk
      (by rw [hused hm]; exact hfit)
    exact carried_completes hw hp hc hl hsw ((carriedDone_next hstep).trans ((swapCopyNext_history (sw := oneCarried sw) hcopy).trans hnext))
      ⟨copying_begins rfl rfl, ⟨_, copying_swap _ _ _, rfl, rfl, rfl, by simp [historyCopy, Function.comp_def]⟩, htouch _ _⟩
  · obtain ⟨l, hnext⟩ := swapHistory_over (sw := oneCarried sw) (s := recordIn w c s)
      (hover.imp_right fun ⟨k, more, hcand, hfull⟩ => ⟨k, more, hcand, by omega⟩)
    refine carried_completes hw hp hc hl hsw ((carriedDone_next hstep).trans ((swapCopyNext_history (sw := oneCarried sw) hcopy).trans hnext))
      ⟨⟨carryDoneOf (oneCarried sw), ?_, rfl⟩, ⟨{ oneCarried sw with step := .carryDone, candidates := l }, ?_, rfl⟩, onlyTouches_settle ?_⟩
    · simp [CopyBegins, beginRecord, setStep, State.held, recordIn, oneCarried]
    · simp only [settle_keeps]
      rfl
    · exact (recordIn_touches w c s).trans (onlyTouches_store _ _)

/-! ## The end of the swap -/

theorem swapEnds : SwapEnds := by
  intro sw s hsw hp
  refine ⟨fun w c hw hc hl hstep => ?_, fun h hrec hh hstep => ⟨fun n hs hk hq => ?_, fun n hs ho => ?_⟩⟩
  · refine carried_completes hw hp hc hl hsw (carriedDone_active hstep) ⟨?_, ?_, ?_, ?_, ?_, onlyTouches_settle ?_⟩
    · simp [beginHeader]
    · simp [beginHeader, setStep]
    · simp [beginHeader, setStep, recordIn]
    · simp [beginHeader, setStep, recordIn, State.held]
    · simp [beginHeader, setStep]
    · exact (recordIn_touches w c s).trans (onlyTouches_store _ _)
  · have hrun : headerDone h s = { swapOver (putHeader h s) with
        store := { (swapOver (putHeader h s)).store with activity := .idle } } := by
      rw [headerDone_erase hsw hstep, swapErase_over (Or.inl ⟨n, hs⟩), continueStore_head (by exact hk)]
      exact startHead_empty hq
    refine header_completes hh hp hrun ⟨?_, ?_, ?_, ?_, ?_, ?_, onlyTouches_settle (onlyTouches_storePort _ _ _)⟩
    · simp [swapOver]
    · simp
    · simp [swapOver, putHeader_eq]
    · simp [swapOver, putHeader_eq]
    · simp [swapOver]
    · simp only [settle_keeps]
      exact raise_port _ _ _ _ rfl
  · have hrun : headerDone h s = beginErase n (setStep sw .erase (putHeader h s)) := by
      rw [headerDone_erase hsw hstep, swapErase_erases hs ho]
    have hb := beginErase_store n (setStep sw .erase (putHeader h s))
    refine header_completes hh hp hrun ⟨?_, ?_, ?_, ?_, onlyTouches_settle ?_⟩
    · simp only [settle_keeps]; exact (congrArg Store.erasing hb :)
    · simp only [settle_keeps]; exact (congrArg Store.swap hb :)
    · simp only [settle_keeps]; exact (congrArg Store.activity hb :)
    · simp only [settle_keeps]; exact (congrArg Store.inProgress hb :)
    · exact (onlyTouches_store _ _ : OnlyTouches [.store] s (setStep sw .erase (putHeader h s))).trans (beginErase_touches _ _)

end Sys2Proof.Claims
end

section
/-! SUPPORT. The scan's header writes and the format (R142, R145), and with them the store's work. -/

namespace Sys2Proof.Claims

open Sys2Proof.Machine

/-! ## The scan's header writes (R142) -/

theorem headerDone_repairs {h : HeaderWrite} {k : Scan} {s : State} (hw : s.store.swap = none) (hk : s.store.scan = some k)
    (hf : k.formatting = none) : headerDone h s = nextRepair (putHeader h s) := by
  have hw' : (putHeader h s).store.swap = none := hw
  have hk' : (putHeader h s).store.scan = some k := hk
  simp [headerDone, hw', hk', hf]

theorem headerDone_formatted {h : HeaderWrite} {k : Scan} {l : List Nat} {s : State} (hw : s.store.swap = none)
    (hk : s.store.scan = some k) (hf : k.formatting = some l) :
    headerDone h s = { putHeader h s with store := { (putHeader h s).store with
      scan := some { k with formatted := true }, writeCounter := 1, activity := .idle } } := by
  have hw' : (putHeader h s).store.swap = none := hw
  have hk' : (putHeader h s).store.scan = some k := hk
  simp [headerDone, hw', hk', hf]

theorem eraseSaid_eq (verified : Bool) (n : Nat) (c : Sector) (s : State) :
    eraseSaid verified n c s = { s with port := (eraseSaid verified n c s).port } := by
  cases verified with
  | true =>
    simp only [eraseSaid, if_true]
    split
    · rfl
    · exact raise_with rfl
  | false =>
    simp only [eraseSaid, Bool.false_eq_true, if_false]
    split
    · exact raise_with rfl
    · rw [raise_with (k := .storeEvent) (j := .store) (s := s) rfl]
      exact raise_with rfl

/-- The state in which the scan goes on with its repairs: the work over, its notices made. -/
structure RepairsGoOn (s u said v : State) : Prop where
  store : v.store = { u.store with dropped := v.store.dropped }
  scan : v.store.scan = s.store.scan
  supply : v.store.supplyLow = s.store.supplyLow
  port : v.port = said.port
  said : OnlyTouches [.store] said v
  touches : OnlyTouches [.store, .port] s v

theorem workEnds_repairs {i : Instr} {k : Scan} {s u said : State} (h : WorkEnds i s u said) (hk : s.store.scan = some k)
    (hf : k.formatting = none) : ∃ v, exec i s = .next (settle (nextRepair v)) ∧ RepairsGoOn s u said v := by
  obtain ⟨hw, ⟨h, rfl, hh, hp, rfl, rfl⟩ | ⟨verified, n, c, rfl, ⟨he, hp, hc, _, _⟩, rfl, rfl⟩⟩ := h
  · refine ⟨putHeader h said, ?_, rfl, rfl, rfl, rfl, onlyTouches_store _ _, onlyTouches_storePort _ _ _⟩
    rw [exec_headerWriteComplete, headerWriteComplete_eq hh hp, headerDone_repairs hw hk hf]
  · refine ⟨eraseOver verified n c s, ?_, rfl, rfl, rfl, rfl, ?_, onlyTouches_eraseOver _ _ _ _⟩
    · rw [exec_eraseComplete, eraseComplete_over he hp hc, afterErase_repairs hw hk hf]
    · rw [eraseSaid_eq]
      exact onlyTouches_store _ _

theorem RepairsGoOn.headerBegins {h : HeaderWrite} {k : Scan} {s u said v : State} (g : RepairsGoOn s u said v) :
    RepairHeaderBegins h k u said (settle (beginHeader h.sector h.header
      { repairing k v with store := { (repairing k v).store with activity := .swapping } })) := by
  refine ⟨?_, ?_, ?_, ?_, ?_, ?_, ?_, onlyTouches_settle ((g.said.trans (onlyTouches_store _ _)).widen (by simp))⟩
  · simp [beginHeader]
  · simp [beginHeader]
  · simp only [settle_keeps]
    exact congrArg (fun st => !st.supplyLow) g.store
  · simp only [settle_keeps]
    exact (congrArg Store.sectors g.store :)
  · simp [beginHeader, repairing]
  · simp only [settle_keeps]
    exact (congrArg Store.erasing g.store :)
  · simp only [settle_keeps]
    exact g.port

theorem scanWritesItsHeaders : ScanWritesItsHeaders := by
  intro i k s u said hends hk hf hu
  obtain ⟨v, hrun, g⟩ := workEnds_repairs hends hk hf
  have hset : v.store.sectors = u.store.sectors := (congrArg Store.sectors g.store :)
  have hkv : v.store.scan = some k := g.scan.trans hk
  have huv : unreadableSector v = none := (unreadableSector_congr hset).trans hu
  have hseq : ∀ n, seqOf u n = seqOf v n := fun n => (seqOf_congr hset n).symm
  have hactive : sectorsWith Header.isActive u = sectorsWith Header.isActive v := (sectorsWith_congr hset _).symm
  have hcarrying : sectorsWith Header.isCarrying u = sectorsWith Header.isCarrying v := (sectorsWith_congr hset _).symm
  rw [hactive, hcarrying, ← oldestOf_congr hset, ← carryComplete_congr hset]
  refine ⟨fun n h2 ho => ?_, fun h2 => ⟨fun n hc => ?_, fun n hc hh => ?_⟩⟩
  · rw [hseq n]
    exact completes_event (nextRepair_olderActive hkv huv h2 ho) hrun (g.headerBegins (h := ⟨n, .full (seqOf v n)⟩))
  · rw [hseq n]
    exact completes_event (nextRepair_carried hkv huv h2 hc) hrun (g.headerBegins (h := ⟨n, .active (seqOf v n)⟩))
  · refine completes_event (nextRepair_carrying hkv huv h2 hc hh) hrun ⟨?_, ?_, ?_, ?_, ?_, onlyTouches_settle ?_⟩
    · simp only [settle_keeps]; exact (congrArg Store.erasing (beginErase_store n _) :)
    · simp only [settle_keeps]; exact (congrArg Store.activity (beginErase_store n _) :)
    · simp only [settle_keeps]
      exact (congrArg Store.inProgress (beginErase_store n _)).trans (congrArg not g.supply)
    · simp only [settle_keeps]; exact (congrArg Store.scan (beginErase_store n _) :)
    · simp only [settle_keeps]
      exact ((beginErase_touches n _).kept (b := .port) (by simp)).trans g.port
    · exact g.touches.trans (((onlyTouches_store _ _).trans (beginErase_touches n _)).widen (by simp))

/-! ## Formatting (R145) -/

theorem eraseSaid_quiet {n : Nat} {c : Sector} {s : State} (h : c.header.isFull = false) : eraseSaid true n c s = s := by
  rw [eraseSaid_notFull h, if_pos rfl]

theorem eraseOver_quiet_touches {n : Nat} {c : Sector} {s : State} (h : c.header.isFull = false) :
    OnlyTouches [.store] s (eraseOver true n c s) := by
  rw [eraseOver, eraseSaid_quiet h]
  exact onlyTouches_store _ _

/-- The lowest ERASED sector in rotation is the spare. -/
theorem spare_lowest {n : Nat} {s : State} (h1 : 1 ≤ n) (h4 : n ≤ 4) (hin : n ≤ s.store.sectors.length)
    (hf : (sectorOf s n).fault = false) (he : headerOf s n = .erased)
    (hlow : ∀ m, 1 ≤ m → m < n → (sectorOf s m).fault = true ∨ headerOf s m ≠ .erased) : spareSector s = some n := by
  have hspare : spareSector s = [1, 2, 3, 4].find? fun m =>
      (decide (m ≤ s.store.sectors.length) && !(sectorOf s m).fault) && headerOf s m == .erased := by
    rw [spareSector, sectorsWith, Machine.rotation, List.filter_filter, List.head?_filter]
    simp only [Bool.and_comm]
  have hyes : ((decide (n ≤ s.store.sectors.length) && !(sectorOf s n).fault) && headerOf s n == .erased) = true := by
    simp [hin, hf, he]
  have hno : ∀ m, 1 ≤ m → m < n →
      ((decide (m ≤ s.store.sectors.length) && !(sectorOf s m).fault) && headerOf s m == .erased) = false := fun m hm hmn => by
    obtain h | h := hlow m hm hmn <;> simp [h]
  rw [hspare, List.find?_eq_some_iff_getElem]
  refine ⟨hyes, n - 1, by simp; omega, ?_, fun j hj => ?_⟩
  · interval_cases n <;> rfl
  · have hval : ([1, 2, 3, 4] : List Nat)[j]'(by simp; omega) = j + 1 := by
      have : j < 4 := by omega
      interval_cases j <;> rfl
    rw [hval, hno (j + 1) (by omega) (by omega)]
    rfl

theorem formattingGoesThroughTheSectors : FormattingGoesThroughTheSectors := by
  intro k s hk hw hp
  refine ⟨fun n m c rest he hc hfull hf => ?_, fun n c he h1 hc hfull hfault h4 hlen hlow hf => ?_,
    fun verified n c ⟨he, _, hc, hrec, hhead⟩ hf => ⟨fun m hm => ?_, fun hs => ?_⟩, fun h hh hf => ?_⟩
  · have hrun := (afterErase_formats (verified := true) (n := n) (c := c) hw hk hf).trans (formatNext_erases (by exact hk) hf)
    refine erase_completes he hp hc hrun ⟨?_, ?_, ?_, ?_, onlyTouches_settle ?_⟩
    · simp only [settle_keeps]; exact (congrArg Store.erasing (beginErase_store m _) :)
    · simp only [settle_keeps]; exact (congrArg Store.scan (beginErase_store m _) :)
    · simp only [settle_keeps]; exact (congrArg Store.activity (beginErase_store m _) :)
    · simp only [settle_keeps]; exact (congrArg Store.inProgress (beginErase_store m _) :)
    · exact (eraseOver_quiet_touches hfull).trans ((onlyTouches_store _ _).trans (beginErase_touches m _))
  · have hset : (eraseOver true n c s).store.sectors =
        s.store.sectors.set (n - 1) { c with header := .erased, slots := [], eraseBegun := false } := rfl
    have hsector := sectorOf_set hc hset
    have hspare : spareSector (eraseOver true n c s) = some n := by
      refine spare_lowest h1 h4 ?_ ?_ ?_ fun m hm hmn => ?_
      · rw [hset, List.length_set]
        omega
      · rw [hsector]
        exact hfault
      · rw [headerOf, hsector]
      · rw [headerOf, sectorOf_set_other (by omega) hset]
        obtain ⟨a, ha⟩ : ∃ a, Sector? m s = some a := by
          refine ⟨_, List.getElem?_eq_getElem (l := s.store.sectors) (i := m - 1) ?_⟩
          omega
        rw [sectorOf_listed ha]
        exact hlow m hm hmn a ha
    have hrun := (afterErase_formats (verified := true) (n := n) (c := c) hw hk hf).trans
      (formatNext_heads (by exact hk) hf hspare)
    refine erase_completes he hp hc hrun ⟨?_, ?_, ?_, onlyTouches_settle ?_⟩
    · simp [beginHeader]
    · simp [beginHeader]
    · simp [beginHeader, eraseOver, erased]
    · exact (eraseOver_quiet_touches hfull).trans (onlyTouches_store _ _)
  · have hset : (eraseOver verified n c s).store.sectors = (erased verified n c s).store.sectors := rfl
    have hrun := (afterErase_formats (verified := verified) (n := n) (c := c) hw hk hf).trans
      (formatNext_heads (m := m) (by exact hk) hf (by rw [spareSector_congr hset]; exact hm))
    refine erase_completes he hp hc hrun ⟨?_, ?_, ?_, ?_, ?_, ?_, ?_, onlyTouches_settle (onlyTouches_storePort _ _ _)⟩
    · simp [beginHeader]
    · simp [beginHeader]
    · simp [beginHeader, eraseOver, erased]
    · simp [beginHeader, eraseOver, erased, State.held]
    · simp only [settle_keeps]; exact hset
    · simp [beginHeader, eraseOver, erased, hk]
    · simp [beginHeader, eraseOver]
  · have hset : (eraseOver verified n c s).store.sectors = (erased verified n c s).store.sectors := rfl
    have hrun := (afterErase_formats (verified := verified) (n := n) (c := c) hw hk hf).trans
      ((formatNext_halts (by exact hk) hf (by rw [spareSector_congr hset]; exact hs)).trans (haltStore_eq _))
    refine erase_completes he hp hc hrun ⟨?_, ?_, ?_, ?_, ?_, ?_, onlyTouches_settle (onlyTouches_storePort _ _ _)⟩
    · simp [haltedStore]
    · simp only [settle_keeps]; exact hset
    · simp [haltedStore]
    · simp [haltedStore]
    · simp [haltedStore]
    · simp only [settle_keeps]
      exact raise_port _ _ _ _ rfl
  · refine header_completes hh hp (headerDone_formatted hw hk hf) ⟨?_, ?_, ?_, ?_, onlyTouches_settle (onlyTouches_store _ _)⟩
    · simp
    · simp
    · simp [putHeader_eq]
    · simp

/-- Settles O48. -/
theorem storeWorkCompletes : Obligations.StoreWorkCompletes :=
  ⟨slotsFillTheSector, headersFollowTheSwap, eraseVerifiesOrFaults, stepFourEraseEndsTheSwap, scanEraseGoesOnWithTheRepairs,
    scanWritesItsHeaders, spareEraseLetsTheSwapBegin, writtenGroupReachesItsOwner, carryBeginsWithTheEssentials, carryGoesOn,
    swapEnds, formattingGoesThroughTheSectors⟩

end Sys2Proof.Claims
end

section
/-! SUPPORT. The bytes of numbers and fields (R200), and a frame received as it was sent (R7, R201). -/

namespace Sys2Proof.Claims

open Sys2Proof

/-! ## Numbers -/

theorem byteOf_toNat {n : Nat} (h : n < 256) : (byteOf n).toNat = n := by
  simp [byteOf, Nat.mod_eq_of_lt h]

@[simp] theorem toBytes_length (k v : Nat) : (toBytes k v).length = k := by
  induction k with
  | zero => rfl
  | succ k ih => rw [toBytes, List.length_cons, ih]

theorem fromBytes_toBytes_after (k v a : Nat) :
    (toBytes k v).foldl (fun a b => a * 256 + b.toNat) a = a * 256 ^ k + v % 256 ^ k := by
  induction k generalizing a with
  | zero => simp [toBytes, Nat.mod_one]
  | succ k ih =>
    rw [toBytes, List.foldl_cons, ih, byteOf_toNat (Nat.mod_lt _ (by decide))]
    have hsplit : v % 256 ^ (k + 1) = v / 256 ^ k % 256 * 256 ^ k + v % 256 ^ k := by
      rw [pow_succ, Nat.mod_mul, Nat.mul_comm (256 ^ k), Nat.add_comm]
    rw [hsplit, pow_succ]
    ring

theorem fromBytes_toBytes {k v : Nat} (h : fits k v = true) : fromBytes (toBytes k v) = v := by
  have hlt : v < 256 ^ k := of_decide_eq_true h
  rw [fromBytes, fromBytes_toBytes_after, Nat.zero_mul, Nat.zero_add, Nat.mod_eq_of_lt hlt]

/-- A parser takes exactly these bytes off the front, and gives this value. -/
def Spells {α : Type} (item : List Byte → Option (α × List Byte)) (bs : List Byte) (a : α) : Prop :=
  ∀ rest, item (bs ++ rest) = some (a, rest)

theorem Spells.whole {α : Type} {item : List Byte → Option (α × List Byte)} {bs : List Byte} {a : α} (h : Spells item bs a) :
    Sys2Proof.whole (item bs) = some a := by
  have hall := h []
  rw [List.append_nil] at hall
  rw [hall]
  rfl

/-- A parser that hands on what another one took. -/
theorem Spells.bind {α β : Type} {item : List Byte → Option (α × List Byte)} {bs : List Byte} {a : α} (h : Spells item bs a)
    (next : α × List Byte → Option β) (rest : List Byte) : (item (bs ++ rest)).bind next = next (a, rest) := by
  rw [h rest, Option.bind_some]

theorem spells_num {k v : Nat} (h : fits k v = true) : Spells (takeNum k) (toBytes k v) v := fun rest => by
  have htake : (toBytes k v ++ rest).take k = toBytes k v := List.take_left' (toBytes_length k v)
  have hdrop : (toBytes k v ++ rest).drop k = rest := List.drop_left' (toBytes_length k v)
  rw [takeNum, if_pos (by simp), htake, hdrop, fromBytes_toBytes h]

theorem toBytes_one {n : Nat} (h : n < 256) : toBytes 1 n = [byteOf n] := by
  simp [toBytes, Nat.mod_eq_of_lt h]

theorem countable_lt {α : Type} {l : List α} (h : countable l = true) : l.length < 256 := of_decide_eq_true h

theorem spells_count {n : Nat} (h : n < 256) : Spells (takeNum 1) [byteOf n] n := by
  rw [← toBytes_one h]
  exact spells_num (decide_eq_true h)

/-! ## Texts and lists -/

theorem spells_text {t : List Byte} (h : countable t = true) : Spells takeText (textBytes t) t := fun rest => by
  have hcount := (spells_count (countable_lt h)).bind (fun r => takeBytes r.1 r.2) (t ++ rest)
  have hbytes : takeBytes t.length (t ++ rest) = some (t, rest) := by
    rw [takeBytes, if_pos (by simp), List.take_left' rfl, List.drop_left' rfl]
  exact hcount.trans hbytes

theorem spells_many {α : Type} {item : List Byte → Option (α × List Byte)} {bytes : α → List Byte} {l : List α}
    (h : ∀ a ∈ l, Spells item (bytes a) a) : Spells (takeMany item l.length) (l.flatMap bytes) l := by
  induction l with
  | nil => exact fun rest => rfl
  | cons a l ih =>
    intro rest
    have hmany := ih (fun b hb => h b (List.mem_cons_of_mem a hb)) rest
    rw [List.flatMap_cons, List.append_assoc, List.length_cons, takeMany]
    refine ((h a (List.mem_cons_self ..)).bind _ _).trans ?_
    simp only [hmany, Option.bind_eq_bind, Option.bind_some]

theorem spells_list {α : Type} {item : List Byte → Option (α × List Byte)} {bytes : α → List Byte} {l : List α}
    (hc : countable l = true) (h : ∀ a ∈ l, Spells item (bytes a) a) : Spells (takeList item) (listBytes bytes l) l := fun rest =>
  ((spells_count (countable_lt hc)).bind (fun r => takeMany item r.1 r.2) (l.flatMap bytes ++ rest)).trans (spells_many h rest)

theorem spells_if {α : Type} {item : List Byte → Option (α × List Byte)} {bytes : α → List Byte} {o : Option α}
    (h : ∀ a, o = some a → Spells item (bytes a) a) : Spells (takeIf o.isSome item) (o.elim [] bytes) o := fun rest => by
  cases o with
  | none => rfl
  | some a =>
    have hitem := h a rfl rest
    simp [takeIf, hitem]

/-! ## The check -/

theorem crc_fits (bs : List Byte) : fits 2 (crc bs) = true := decide_eq_true (BitVec.isLt _)

/-! ## Frames on the channel -/

theorem kindCode_lt (k : FrameKind) : k.code < 256 := by cases k <;> decide

theorem ofCode_code (k : FrameKind) : FrameKind.ofCode k.code = some k := by cases k <;> rfl

/-- Header byte 8 holds the hop count, the needs-LACK bit and the relayed bit. -/
theorem flagByte_parts {f : RxFrame} (h : f.hop < 4) :
    f.flagByte < 256 ∧ f.flagByte / 64 = f.hop ∧ (f.flagByte / 32 % 2 == 1) = f.needsLack
      ∧ (f.flagByte / 16 % 2 == 1) = f.relayed := by
  unfold RxFrame.flagByte
  cases f.needsLack <;> cases f.relayed <;> simp <;> omega

theorem fromBytes_byteOf {n : Nat} (h : n < 256) : fromBytes [byteOf n] = n := by
  rw [← toBytes_one h]
  exact fromBytes_toBytes (decide_eq_true h)

theorem frameHeader_length (k : FrameKind) (f : RxFrame) : (frameHeader k f).length = 10 := rfl

/-- What a well-formed frame's fields are bound by (R2, R201). -/
structure FrameFits (f : RxFrame) : Prop where
  fleet : fits 1 f.fleet = true
  source : fits 2 f.source = true
  dest : fits 2 f.dest = true
  seq : fits 1 f.seq = true
  hop : f.hop < 4
  payload : f.payload.length ≤ 100

theorem frameFits_of_wellFormed {f : RxFrame} (h : f.wellFormed = true) : FrameFits f := by
  simp only [RxFrame.wellFormed, Bool.and_eq_true, decide_eq_true_eq] at h
  obtain ⟨⟨⟨⟨⟨hfleet, hsource⟩, hdest⟩, hseq⟩, hhop⟩, hlen⟩ := h
  exact ⟨hfleet, hsource, hdest, hseq, hhop, hlen⟩

theorem lt_of_fits_one {n : Nat} (h : fits 1 n = true) : n < 256 := of_decide_eq_true h

/-- The header read back is the frame (R201). -/
theorem headerFrame_frameHeader {k : FrameKind} {f : RxFrame} (h : FrameFits f) :
    headerFrame (frameHeader k f) f.payload = f := by
  obtain ⟨hflag, hhop, hlack, hrelayed⟩ := flagByte_parts h.hop
  have hfleet : fromBytes (((frameHeader k f).drop 2).take 1) = f.fleet := fromBytes_byteOf (lt_of_fits_one h.fleet)
  have hsource : fromBytes (((frameHeader k f).drop 3).take 2) = f.source := fromBytes_toBytes h.source
  have hdest : fromBytes (((frameHeader k f).drop 5).take 2) = f.dest := fromBytes_toBytes h.dest
  have hseq : fromBytes (((frameHeader k f).drop 7).take 1) = f.seq := fromBytes_byteOf (lt_of_fits_one h.seq)
  have hbits : fromBytes (((frameHeader k f).drop 8).take 1) = f.flagByte := fromBytes_byteOf hflag
  simp only [headerFrame, hfleet, hsource, hdest, hseq, hbits, hhop, hlack, hrelayed]

theorem findStart_frame (k : FrameKind) (f : RxFrame) (rest : List Byte) :
    findStart (frameHeader k f ++ rest) = frameHeader k f ++ rest := rfl

/-- Bytes that begin with a frame start, announce what follows them and carry the check of it, are a PASS (R7, R201). -/
theorem receiveBytes_pass {bs : List Byte} {n : Nat} {k : FrameKind} (hstart : findStart bs = bs) (hlen : bs.length = 12 + n)
    (hn : n ≤ 100) (hcount : fromBytes ((bs.drop 9).take 1) = n)
    (hcheck : crc (bs.take (10 + n)) = fromBytes ((bs.drop (10 + n)).take 2))
    (hkind : FrameKind.ofCode (fromBytes ((bs.drop 1).take 1)) = some k) :
    receiveBytes bs = .pass k (headerFrame (bs.take 10) ((bs.drop 10).take n)) := by
  have hmore : bs.isEmpty = false := by
    rw [List.isEmpty_eq_false_iff_exists_mem]
    exact List.exists_mem_of_length_pos (by omega)
  have hheader : ¬ bs.length < 10 := by omega
  have hwhole : ¬ bs.length < 12 + n := by omega
  have hbound : ¬ 100 < n := by omega
  simp only [receiveBytes, hstart, hmore, Bool.false_eq_true, if_false, hheader, hcount, hwhole, hcheck, ne_eq, not_true_eq_false,
    hbound, hkind]

/-- Settles O53. -/
theorem framesAreReceivedAsSent : Obligations.FramesAreReceivedAsSent := by
  intro k f hf
  have h := frameFits_of_wellFormed hf
  have hpay := h.payload
  have hframe : ∀ check : List Byte, check.length = 2 → fromBytes check = crc (frameHeader k f ++ f.payload) →
      receiveBytes (frameHeader k f ++ (f.payload ++ check)) = .pass k f := fun check hlen hcheck => by
    have hbody : (frameHeader k f ++ (f.payload ++ check)).take (10 + f.payload.length) = frameHeader k f ++ f.payload := by
      rw [← List.append_assoc]
      exact List.take_left' (by simp [frameHeader_length])
    have hend : ((frameHeader k f ++ (f.payload ++ check)).drop (10 + f.payload.length)).take 2 = check := by
      rw [← List.append_assoc, List.drop_left' (by simp [frameHeader_length]), List.take_of_length_le (by omega)]
    have hpayload : ((frameHeader k f ++ (f.payload ++ check)).drop 10).take f.payload.length = f.payload := by
      rw [List.drop_left' (frameHeader_length k f), List.take_left' rfl]
    rw [receiveBytes_pass (n := f.payload.length) (k := k) (findStart_frame k f _)
      (by simp [frameHeader_length, hlen]; omega) hpay (fromBytes_byteOf (by omega)) (by rw [hbody, hend, hcheck])
      ((congrArg FrameKind.ofCode (fromBytes_byteOf (kindCode_lt k))).trans (ofCode_code k)), hpayload,
      List.take_left' (frameHeader_length k f), headerFrame_frameHeader h]
  exact (congrArg receiveBytes (List.append_assoc _ _ _)).trans
    (hframe _ (toBytes_length 2 _) (fromBytes_toBytes (crc_fits _)))

end Sys2Proof.Claims
end

section
/-! SUPPORT. A request judged as it was sent (R188, R200, R203). -/

namespace Sys2Proof.Claims

open Sys2Proof

/-! ## Field groups -/

theorem spells_tariff {t : Tariff} (h : t.wellFormed = true) : Spells takeTariff (tariffBytes t) t := fun rest => by
  simp only [Tariff.wellFormed, Bool.and_eq_true] at h
  obtain ⟨⟨⟨⟨hF, hA⟩, hD⟩, hT⟩, hN⟩ := h
  simp only [takeTariff, tariffBytes, List.append_assoc, Option.bind_eq_bind, (spells_num hF).bind, (spells_num hA).bind,
    (spells_num hD).bind, (spells_num hT).bind, (spells_num hN).bind]

theorem spells_extra {e : Extra} (h : e.wellFormed = true) : Spells takeExtra (extraBytes e) e := fun rest => by
  simp only [Extra.wellFormed, Bool.and_eq_true] at h
  obtain ⟨hcode, hamount⟩ := h
  simp only [takeExtra, extraBytes, List.append_assoc, Option.bind_eq_bind, (spells_num hcode).bind, (spells_num hamount).bind]

theorem spells_accept {a : AcceptRequest} (h : a.wellFormed = true) : Spells takeAccept (acceptBytes a) a := fun rest => by
  simp only [AcceptRequest.wellFormed, Bool.and_eq_true] at h
  obtain ⟨⟨⟨hkinds, hlo⟩, hhi⟩, haction⟩ := h
  simp only [takeAccept, acceptBytes, List.append_assoc, Option.bind_eq_bind, (spells_num hkinds).bind, (spells_num hlo).bind,
    (spells_num hhi).bind, (spells_num haction).bind]

theorem spells_cursor {c : Cursor} (h : c.wellFormed = true) : Spells takeCursor (cursorBytes c) c := fun rest => by
  simp only [Cursor.wellFormed, Bool.and_eq_true] at h
  obtain ⟨⟨hpage, hline⟩, hcol⟩ := h
  simp only [takeCursor, cursorBytes, List.append_assoc, Option.bind_eq_bind, (spells_num hpage).bind, (spells_num hline).bind,
    (spells_num hcol).bind]

theorem spells_pair {p : MsgPair} (h : p.wellFormed = true) :
    Spells takePair (toBytes 2 p.source ++ toBytes 2 p.number) p := fun rest => by
  simp only [MsgPair.wellFormed, Bool.and_eq_true] at h
  obtain ⟨hsource, hnumber⟩ := h
  simp only [takePair, List.append_assoc, Option.bind_eq_bind, (spells_num hsource).bind, (spells_num hnumber).bind]

theorem spells_offerId {i : OfferId} (h : i.wellFormed = true) : Spells takeOfferId (offerIdBytes i) i := fun rest => by
  simp only [OfferId.wellFormed, Bool.and_eq_true] at h
  obtain ⟨hbase, hnumber⟩ := h
  simp only [takeOfferId, offerIdBytes, List.append_assoc, Option.bind_eq_bind, (spells_num hbase).bind, (spells_num hnumber).bind]

theorem spells_cell {c : Cell} (hx : fits 2 c.x = true) (hy : fits 2 c.y = true) : Spells takeCell (cellBytes c) c := fun rest => by
  simp only [takeCell, cellBytes, List.append_assoc, Option.bind_eq_bind, (spells_num hx).bind, (spells_num hy).bind]

theorem spells_bytes {l : List Nat} (h : l.all (fits 1) = true) : Spells (takeMany (takeNum 1) l.length) (l.flatMap (toBytes 1)) l :=
  spells_many fun n hn => spells_num (List.all_eq_true.1 h n hn)

/-! ## Requests with several fields -/

theorem spells_position {p : PositionRequest} (h : p.wellFormed = true) : Spells takePosition
    (cellBytes p.cell ++ toBytes 1 p.zone ++ listBytes (toBytes 1) p.adjoining ++ toBytes 4 p.clock) p := fun rest => by
  simp only [PositionRequest.wellFormed, Bool.and_eq_true] at h
  obtain ⟨⟨⟨⟨⟨hx, hy⟩, hzone⟩, hcount⟩, hadj⟩, hclock⟩ := h
  have hlist : Spells (takeList (takeNum 1)) (listBytes (toBytes 1) p.adjoining) p.adjoining :=
    spells_list hcount fun n hn => spells_num (List.all_eq_true.1 hadj n hn)
  simp only [takePosition, List.append_assoc, Option.bind_eq_bind, (spells_cell hx hy).bind, (spells_num hzone).bind, hlist.bind,
    (spells_num hclock).bind]

theorem spells_sendData {d t : Nat} {b : List Byte} (hd : fits 2 d = true) (ht : fits 1 t = true) (hb : countable b = true) :
    Spells takeSendData (toBytes 2 d ++ toBytes 1 t ++ textBytes b) (.sendData d t b) := fun rest => by
  simp only [takeSendData, List.append_assoc, Option.bind_eq_bind, (spells_num hd).bind, (spells_num ht).bind, (spells_text hb).bind]

theorem spells_reply {p : MsgPair} {n : Nat} (hp : p.wellFormed = true) (hn : fits 1 n = true) :
    Spells takeReply (toBytes 2 p.source ++ toBytes 2 p.number ++ toBytes 1 n) (.msgReply p n) := fun rest => by
  rw [List.append_assoc (_ ++ _)]
  simp only [takeReply, Option.bind_eq_bind, (spells_pair hp).bind, (spells_num hn).bind]

/-- The presence byte of a DISPLAY_WRITE gives back its two bits and the stray ones (log 21). -/
theorem writePresence {pos attr : Bool} {stray : Nat} (h : stray < 64) :
    fits 1 (displayPresence pos attr 4 stray) = true ∧ (displayPresence pos attr 4 stray % 2 == 1) = pos
      ∧ (displayPresence pos attr 4 stray / 2 % 2 == 1) = attr ∧ displayPresence pos attr 4 stray / 4 = stray := by
  unfold displayPresence fits
  cases pos <;> cases attr <;> simp <;> omega

/-- The presence byte of a DISPLAY_READ, which has no `LineAttr` (log 21). -/
theorem readPresence {pos : Bool} {stray : Nat} (h : stray < 128) :
    fits 1 (displayPresence pos false 2 stray) = true ∧ (displayPresence pos false 2 stray % 2 == 1) = pos
      ∧ displayPresence pos false 2 stray / 2 = stray := by
  unfold displayPresence fits
  cases pos <;> simp <;> omega

theorem spells_position? {o : Option Cursor} (h : o.all Cursor.wellFormed = true) :
    Spells (takeIf o.isSome takeCursor) (o.elim [] cursorBytes) o :=
  spells_if fun c hc => spells_cursor (by rw [hc] at h; exact h)

theorem spells_displayWrite {pos : Option Cursor} {text : List Byte} {attr : Option Nat} {stray : Nat}
    (h : (Instr.displayWrite pos text attr stray).wellFormed = true) :
    Spells takeDisplayWrite (requestFields (.displayWrite pos text attr stray)) (.displayWrite pos text attr stray) := fun rest => by
  simp only [Instr.wellFormed, Bool.and_eq_true, decide_eq_true_eq] at h
  obtain ⟨⟨⟨hpos, htext⟩, hattr⟩, hstray⟩ := h
  obtain ⟨hfits, hbit, hbit', hrest⟩ := writePresence (pos := pos.isSome) (attr := attr.isSome) hstray
  have hspell : Spells (takeIf attr.isSome (takeNum 1)) (attr.elim [] (toBytes 1)) attr :=
    spells_if fun n hn => spells_num (by rw [hn] at hattr; exact hattr)
  simp only [takeDisplayWrite, requestFields, List.append_assoc, Option.bind_eq_bind, (spells_num hfits).bind, hbit, hbit', hrest,
    (spells_position? hpos).bind, (spells_text htext).bind, hspell.bind]

theorem spells_displayRead {pos : Option Cursor} {n stray : Nat} (h : (Instr.displayRead pos n stray).wellFormed = true) :
    Spells takeDisplayRead (requestFields (.displayRead pos n stray)) (.displayRead pos n stray) := fun rest => by
  simp only [Instr.wellFormed, Bool.and_eq_true, decide_eq_true_eq] at h
  obtain ⟨⟨hpos, hn⟩, hstray⟩ := h
  obtain ⟨hfits, hbit, hrest⟩ := readPresence (pos := pos.isSome) hstray
  simp only [takeDisplayRead, requestFields, List.append_assoc, Option.bind_eq_bind, (spells_num hfits).bind, hbit, hrest,
    (spells_position? hpos).bind, (spells_num hn).bind]

/-! ## CONFIGURE -/

/-- What a well-formed CONFIGURE's fields are bound by (R194, R200). -/
structure ConfigFits (c : ConfigRequest) : Prop where
  station : fits 2 c.station = true
  fleet : fits 1 c.fleet = true
  homeBase : fits 2 c.homeBase = true
  capability : fits 1 c.capability = true
  pulseConstant : fits 2 c.pulseConstant = true
  tariffCount : countable c.tariffs = true
  tariffs : Spells (takeList takeTariff) (listBytes tariffBytes c.tariffs) c.tariffs
  extraCount : countable c.extras = true
  extras : Spells (takeList takeExtra) (listBytes extraBytes c.extras) c.extras
  beaconTick : fits 1 c.beaconTick = true
  cycleLength : c.cycleTable.length = 16
  cycleTable : Spells (takeMany (takeNum 1) 16) (c.cycleTable.flatMap (toBytes 1)) c.cycleTable
  priorityMode : fits 1 c.priorityMode = true
  ordinaryMode : fits 1 c.ordinaryMode = true
  acceptanceCount : countable c.acceptance = true
  acceptance : Spells (takeList takeAccept) (listBytes acceptBytes c.acceptance) c.acceptance
  defaultAction : fits 1 c.defaultAction = true
  awardTimeout : fits 1 c.awardTimeout = true
  acceptTimeout : fits 1 c.acceptTimeout = true
  historyCarry : fits 1 c.historyCarry = true
  enablesLength : c.noticeEnables.length = 16
  noticeEnables : Spells (takeMany (takeNum 1) 16) (c.noticeEnables.flatMap (toBytes 1)) c.noticeEnables
  switchHold : fits 1 c.switchHold = true
  marker : fits 1 c.marker = true

theorem configFits_of_wellFormed {c : ConfigRequest} (h : c.wellFormed = true) : ConfigFits c := by
  simp only [ConfigRequest.wellFormed, Bool.and_eq_true, decide_eq_true_eq] at h
  obtain ⟨⟨⟨⟨⟨⟨⟨⟨⟨⟨⟨⟨⟨⟨⟨⟨⟨⟨⟨⟨⟨⟨⟨hstation, hfleet⟩, hbase⟩, hcap⟩, hpulse⟩, htariffCount⟩, htariffs⟩, hextraCount⟩, hextras⟩,
    htick⟩, hcycleLength⟩, hcycle⟩, hpriority⟩, hordinary⟩, haccCount⟩, hacc⟩, hdefault⟩, haward⟩, haccept⟩, hhistory⟩,
    henablesLength⟩, henables⟩, hhold⟩, hmarker⟩ := h
  refine ⟨hstation, hfleet, hbase, hcap, hpulse, htariffCount, spells_list htariffCount fun t ht => ?_, hextraCount,
    spells_list hextraCount fun e he => ?_, htick, hcycleLength, hcycleLength ▸ spells_bytes hcycle, hpriority, hordinary, haccCount,
    spells_list haccCount fun a ha => ?_, hdefault, haward, haccept, hhistory, henablesLength,
    henablesLength ▸ spells_bytes henables, hhold, hmarker⟩
  · exact spells_tariff (List.all_eq_true.1 htariffs t ht)
  · exact spells_extra (List.all_eq_true.1 hextras e he)
  · exact spells_accept (List.all_eq_true.1 hacc a ha)

/-- CONFIGURE up to and with the queue modes. -/
def configHead (c : ConfigRequest) : ConfigRequest :=
  { c with
    acceptance := [], defaultAction := 0, awardTimeout := 0, acceptTimeout := 0, historyCarry := 0, noticeEnables := []
    switchHold := 0, marker := 0 }

theorem takeConfigHead_bytes {c : ConfigRequest} (h : ConfigFits c) (rest : List Byte) :
    takeConfigHead (toBytes 2 c.station ++ (toBytes 1 c.fleet ++ (toBytes 2 c.homeBase ++ (toBytes 1 c.capability
      ++ (toBytes 2 c.pulseConstant ++ (listBytes tariffBytes c.tariffs ++ (listBytes extraBytes c.extras
      ++ (toBytes 1 c.beaconTick ++ (c.cycleTable.flatMap (toBytes 1) ++ (toBytes 1 c.priorityMode
      ++ (toBytes 1 c.ordinaryMode ++ rest)))))))))))
      = some (configHead c, rest) := by
  simp only [takeConfigHead, Option.bind_eq_bind, (spells_num h.station).bind, (spells_num h.fleet).bind,
    (spells_num h.homeBase).bind, (spells_num h.capability).bind, (spells_num h.pulseConstant).bind, h.tariffs.bind, h.extras.bind,
    (spells_num h.beaconTick).bind, h.cycleTable.bind, (spells_num h.priorityMode).bind, (spells_num h.ordinaryMode).bind, configHead]

theorem spells_config {c : ConfigRequest} (h : c.wellFormed = true) : Spells takeConfig (configBytes c) c := fun rest => by
  have hfits := configFits_of_wellFormed h
  simp only [takeConfig, configBytes, List.append_assoc, takeConfigHead_bytes hfits, Option.bind_eq_bind, Option.bind_some,
    hfits.acceptance.bind, (spells_num hfits.defaultAction).bind, (spells_num hfits.awardTimeout).bind,
    (spells_num hfits.acceptTimeout).bind, (spells_num hfits.historyCarry).bind, hfits.noticeEnables.bind,
    (spells_num hfits.switchHold).bind, (spells_num hfits.marker).bind, configHead]

end Sys2Proof.Claims
end

section
/-! SUPPORT. A request frame judged as it was sent (R187, R188, R203). -/

namespace Sys2Proof.Claims

open Sys2Proof

/-! ## The fields of each request -/

theorem oneField_toBytes {k n : Nat} (f : Nat → Instr) (h : fits k n = true) : oneField k f (toBytes k n) = some (f n) := by
  rw [oneField, (spells_num h).whole]
  rfl

/-- The code and the fields of a request spell it. -/
theorem decodeFields_requestFields {c : Instr} {code : Nat} (h : c.wellFormed = true) (hc : requestCode c = some code) :
    decodeFields code (requestFields c) = some c := by
  cases c <;> simp only [requestCode, reduceCtorEq, Option.some.injEq] at hc <;> subst hc
  case configure fields => simp only [decodeFields, requestFields, (spells_config h).whole, Option.map_some]
  case setPosition fields => simp only [decodeFields, requestFields, (spells_position h).whole, Option.map_some]
  case sendData dest tag data =>
    simp only [Instr.wellFormed, Bool.and_eq_true] at h
    obtain ⟨⟨hdest, htag⟩, hdata⟩ := h
    exact (spells_sendData hdest htag hdata).whole
  case acceptJob id => simp only [decodeFields, requestFields, (spells_offerId h).whole, Option.map_some]
  case refuseJob id => simp only [decodeFields, requestFields, (spells_offerId h).whole, Option.map_some]
  case msgRead pair => simp only [decodeFields, requestFields, (spells_pair h).whole, Option.map_some]
  case msgReply pair index =>
    simp only [Instr.wellFormed, Bool.and_eq_true] at h
    obtain ⟨hpair, hindex⟩ := h
    exact (spells_reply hpair hindex).whole
  case displayWrite position text lineAttr strayBits => exact (spells_displayWrite h).whole
  case displayRead position count strayBits => exact (spells_displayRead h).whole
  case setAvailable value => exact oneField_toBytes .setAvailable h
  case cancelSend tag => exact oneField_toBytes .cancelSend h
  case readReceived queue => exact oneField_toBytes .readReceived h
  case meterHire tariff => exact oneField_toBytes .meterHire h
  case meterTariff tariff => exact oneField_toBytes .meterTariff h
  case meterExtra code => exact oneField_toBytes .meterExtra h
  case readTrip number => exact oneField_toBytes .readTrip h
  case displaySelect page => exact oneField_toBytes .displaySelect h
  all_goals rfl

/-! ## The announced length -/

theorem textBytes_length (t : List Byte) : (textBytes t).length = 1 + t.length := by
  rw [textBytes, List.length_cons, Nat.add_comm]

theorem flatMap_length {α : Type} {item : α → List Byte} {k : Nat} (l : List α) (h : ∀ a, (item a).length = k) :
    (l.flatMap item).length = k * l.length := by
  simp [List.length_flatMap, h, Nat.mul_comm]

theorem listBytes_length {α : Type} {item : α → List Byte} {k : Nat} (l : List α) (h : ∀ a, (item a).length = k) :
    (listBytes item l).length = 1 + k * l.length := by
  rw [listBytes, List.length_cons, flatMap_length l h, Nat.add_comm]

theorem optional_length {α : Type} {item : α → List Byte} {k : Nat} (o : Option α) (h : ∀ a, (item a).length = k) :
    (o.elim [] item).length ≤ k := by
  cases o with
  | none => exact Nat.zero_le k
  | some a => exact le_of_eq (h a)

theorem configBytes_length {c : ConfigRequest} (h : ConfigFits c) : (configBytes c).length < 65535 := by
  have htariffs := countable_lt h.tariffCount
  have hextras := countable_lt h.extraCount
  have hacceptance := countable_lt h.acceptanceCount
  have hcycle := h.cycleLength
  have henables := h.enablesLength
  have htariff := listBytes_length (item := tariffBytes) (k := 11) c.tariffs fun t => by simp [tariffBytes]
  have hextra := listBytes_length (item := extraBytes) (k := 4) c.extras fun e => by simp [extraBytes]
  have haccept := listBytes_length (item := acceptBytes) (k := 6) c.acceptance fun a => by simp [acceptBytes]
  have hone := flatMap_length (item := toBytes 1) (k := 1) c.cycleTable (toBytes_length 1)
  have hone' := flatMap_length (item := toBytes 1) (k := 1) c.noticeEnables (toBytes_length 1)
  simp only [configBytes, List.length_append, toBytes_length, htariff, hextra, haccept, hone, hone']
  omega

/-- The fields of a request leave room for its code in the announced length. -/
theorem requestFields_length {c : Instr} (h : c.wellFormed = true) : (requestFields c).length < 65535 := by
  cases c
  case configure fields => exact configBytes_length (configFits_of_wellFormed h)
  case setPosition fields =>
    simp only [Instr.wellFormed, PositionRequest.wellFormed, Bool.and_eq_true] at h
    obtain ⟨⟨⟨⟨⟨_, _⟩, _⟩, hcount⟩, _⟩, _⟩ := h
    have hlt := countable_lt hcount
    have hlist := listBytes_length (item := toBytes 1) (k := 1) fields.adjoining (toBytes_length 1)
    simp only [requestFields, cellBytes, List.length_append, toBytes_length, hlist]
    omega
  case sendData dest tag data =>
    simp only [Instr.wellFormed, Bool.and_eq_true] at h
    obtain ⟨⟨_, _⟩, hdata⟩ := h
    have hlt := countable_lt hdata
    simp only [requestFields, List.length_append, toBytes_length, textBytes_length]
    omega
  case displayWrite position text lineAttr strayBits =>
    simp only [Instr.wellFormed, Bool.and_eq_true] at h
    obtain ⟨⟨⟨_, htext⟩, _⟩, _⟩ := h
    have hlt := countable_lt htext
    have hposition := optional_length (item := cursorBytes) (k := 3) position fun c => by simp [cursorBytes]
    have hattr := optional_length (item := toBytes 1) (k := 1) lineAttr (toBytes_length 1)
    simp only [requestFields, List.length_append, toBytes_length, textBytes_length]
    omega
  case displayRead position count strayBits =>
    have hposition := optional_length (item := cursorBytes) (k := 3) position fun c => by simp [cursorBytes]
    simp only [requestFields, List.length_append, toBytes_length]
    omega
  all_goals simp [requestFields, offerIdBytes]

theorem requestCode_lt {c : Instr} {code : Nat} (hc : requestCode c = some code) : code < 256 := by
  cases c <;> simp only [requestCode, reduceCtorEq, Option.some.injEq] at hc <;> omega

/-! ## The frame -/

/-- A request frame of a code and its fields, its body announced and checked, is judged as that request. -/
theorem judgeBytes_frame {code : Nat} {fields : List Byte} {c : Instr} (hcode : code < 256) (hlen : fields.length < 65535)
    (hd : decodeFields code fields = some c) :
    let body := byteOf code :: fields
    let covered := toBytes 2 body.length ++ body
    judgeBytes (byteOf 0xA5 :: (covered ++ toBytes 2 (crc covered))) = .request c := by
  intro body covered
  have hbody : body.length < 65536 := by
    simp only [body, List.length_cons]
    omega
  have hcovered : covered.length = body.length + 2 := by simp [covered, Nat.add_comm]
  have hmarker : (byteOf 0xA5 :: (covered ++ toBytes 2 (crc covered))).dropWhile (fun b => b != byteOf 0xA5) =
      byteOf 0xA5 :: (covered ++ toBytes 2 (crc covered)) := rfl
  have hcount : takeNum 2 (covered ++ toBytes 2 (crc covered)) = some (body.length, body ++ toBytes 2 (crc covered)) := by
    rw [List.append_assoc]
    exact spells_num (decide_eq_true hbody) _
  have hwhole : ¬ (covered ++ toBytes 2 (crc covered)).length < body.length + 4 := by
    rw [List.length_append, hcovered, toBytes_length]
    omega
  have hcrc : ¬ crc ((covered ++ toBytes 2 (crc covered)).take (body.length + 2)) ≠
      fromBytes (((covered ++ toBytes 2 (crc covered)).drop (body.length + 2)).take 2) := by
    rw [List.take_left' hcovered, List.drop_left' hcovered, List.take_of_length_le (by simp), fromBytes_toBytes (crc_fits _)]
    simp
  have hfields : ((covered ++ toBytes 2 (crc covered)).drop 2).take body.length = byteOf code :: fields := by
    rw [List.append_assoc, List.drop_left' (toBytes_length 2 _), List.take_left' rfl]
  simp only [judgeBytes, hmarker, hcount, hwhole, hcrc, if_false, hfields, byteOf_toNat hcode, hd]

/-- Settles O54. -/
theorem requestsAreJudgedAsSent : Obligations.RequestsAreJudgedAsSent := by
  intro c bytes hwf hbytes
  obtain ⟨code, hcode, rfl⟩ := Option.map_eq_some_iff.1 hbytes
  have hlt := requestCode_lt hcode
  have hjudged := judgeBytes_frame hlt (requestFields_length hwf) (decodeFields_requestFields hwf hcode)
  rw [toBytes_one hlt]
  exact hjudged

end Sys2Proof.Claims
end

section
/-! SUPPORT. A call that only runs off while the alarm is being cleared (R11, R15, R171, R176): its result offers the CLEARED call,
and on a free channel that call is presented, so the link controller is not IDLE after END_OF_AIRTIME. -/

namespace Sys2Proof.Claims

open Sys2Proof.Machine

/-- The OPEN call of station 100's alarm 1, on the air. -/
def openCallOnAir : PendEntry :=
  { uid := 0, owner := .emergencyController, ref := .none, cls := .emergencyOrigin
    payload := .emergency ⟨100, 1⟩ 0 .open ⟨10, 20⟩, dest := 0xFFFF, fleet := 5, hop := 0, relayed := false, seq := none
    attempts := 0, state := .onAir, bidWindow := none, eligible := false, windowEnded := false, tag := none }

/-- A part in RUNNING again, its OPEN call still on the air as ENTER_DORMANT left it, with a keying fault, and the alarm CLEARING. -/
def runOffWhileClearing : State :=
  { State.reset with
    link := { Link.reset with
      slotClock := true, station := some 100, fleet := some 5, side := .onAir, keyed := true, keyFault := true
      runOff := some .dormant }
    tx := { Tx.reset with queue := [openCallOnAir] }
    nextUid := 1
    emerg := { Emerg.reset with alarm := .clearing, number := some 1, ownEntry := some ⟨.open, 0⟩ }
    port := { Port.reset with part := .running } }

/-- The CLEARED call that the result of the OPEN call offers is presented at once. -/
theorem runOffWhileClearing_presents : (endOfAirtime runOffWhileClearing).link.side = .deferring := by decide +kernel

/-- The end of a broadcast with a keying fault does not leave every state IDLE: nothing keeps the broadcast from being the own call
of an alarm that is being cleared. -/
theorem not_runOffEndsWithTheAirtime : ¬ RunOffEndsWithTheAirtime := by
  intro h
  obtain ⟨-, -, hfaulted⟩ := h openCallOnAir runOffWhileClearing rfl rfl rfl
  obtain ⟨t, ht, -, hidle, -⟩ := hfaulted rfl rfl rfl
  have hend : settle (endOfAirtime runOffWhileClearing) = t := Host.Outcome.next.inj ht
  rw [← hend] at hidle
  simp only [settle_keeps, runOffWhileClearing_presents] at hidle
  cases hidle

/-- Refutes O8: its last part says that END_OF_AIRTIME of any broadcast that ENTER_DORMANT left on the air with a keying fault
leaves the link controller IDLE, whoever owns the entry. In `runOffWhileClearing` the entry is the OPEN call and the alarm is
CLEARING, so the result of the call offers the CLEARED call, which is presented on the free channel. -/
theorem not_restartAndDormantLeaveRunning : ¬ Obligations.RestartAndDormantLeaveRunning := by
  rintro ⟨-, -, -, -, -, -, -, hrunOff⟩
  exact not_runOffEndsWithTheAirtime hrunOff

end Sys2Proof.Claims
end
